-- ==== Sys2Proof/Word.lean ====
section
/-! DEFINITION. The word types of the part: a line character's byte, an ALIGN field, an instant of the 1 µs time base. -/

namespace Sys2Proof

/-- One byte: a line character of the Zone Bus (R157), an image byte, a report byte. -/
abbrev Byte := BitVec 8

/-- An instant on the station's own 1 µs time base, a 32-bit count that wraps (R157). -/
abbrev Instant := BitVec 32

end Sys2Proof
end

