-- ==== Sys2Proof/Config.lean ====
section
/-! DEFINITION. What an implementation fixes and the spec does not give, and the free values: constants without a body,
so that no proof can see what they are. -/

namespace Sys2Proof

/-- One static equaliser stage (R88): frequency in Hz, gain code (−15 dB + 0.5 dB × code), Q code (0.1 × code). -/
inductive Stage where
  | bypass
  | peak (frequency gain q : Nat)
  | lowShelf (frequency gain : Nat)
  | highShelf (frequency gain : Nat)
  | highPass (frequency : Nat)
  | lowPass (frequency : Nat)
  deriving DecidableEq, Repr

/-- A high shelf of the air-shelf stage (R88, R197): gain code 0..48, corner code 0..3. -/
structure Shelf where
  gain   : Nat
  corner : Nat
  deriving DecidableEq, Repr

/-- What one of the six stages of an equaliser does to its input (R87, R88): nothing, a static stage, or an air shelf. -/
inductive Filter where
  | pass
  | static (stage : Stage)
  | shelf (shelf : Shelf)
  deriving DecidableEq, Repr

end Sys2Proof

namespace Sys2Proof.Config

/-- Digital full scale less one, in the units of a programme sample. The converter's width is the data sheet's
(section 3 of 00_scope.md); log 13. -/
opaque fullScaleLessOne : Nat

/-- Digital full scale, at least 1, in the units of a programme sample (log 13). -/
def fullScale : Nat := fullScaleLessOne + 1

/-- The order in which two hand-overs of one event reach the transmit queue, where section 9.7 lets either come first
(log 8). Applied to the free-value counter of State. -/
opaque freeOrder : Nat → Bool

/-- Whether a remaining time of so many µs, not a whole number of ms, is reported rounded up (log 17). -/
opaque msRoundsUp : Nat → Bool

/-- The reference flight of a positive measured flight whose normalised value would be negative, which only a carried
temperature far below absolute zero gives: the spec states no result (log 18). -/
opaque flightBelowZero : Int → Nat

/-- The path time of a pass whose sum would be negative, in the same case (log 18). -/
opaque pathBelowZero : Int → Nat

/-- The value interpolated at a fractional read position, from the stored samples on its newer and on its older side,
nearest first, and the fraction in 1/4,096 sample (R74); the spec does not give the interpolation (log 15). -/
opaque interpolated : List Int → List Int → Nat → Int

/-- The output of a stage that does not pass its input, from its memory and its input (R88); the spec gives the kinds of
stage and their parameters, not their arithmetic (log 15). -/
opaque filtered : Filter → List Int → Int → Int

/-- What a stage remembers after a sample, from its memory, its input and its output (R87, log 15). -/
opaque remembered : Filter → List Int → Int → Int → List Int

/-- The sign of a sample of a station's probe sequence, set in the part (R29, log 29): station, then sample 0..8,191. -/
opaque sequence : Nat → Nat → Bool

/-- The score of a positive correlation, from it and the samples it is formed over, before the limit at 255. The spec
gives the scale by the sequence alone only (R38, log 28). -/
opaque scaled : Nat → List Int → Nat

/-- The score that interpolation gives a local maximum of the grid, from the scores of the 24 samples before it, its own and
those of the 24 after it, before its limits. The spec gives no interpolation (R38, log 28). -/
opaque refinedScore : List Nat → Nat

/-- How many µs interpolation moves a local maximum of the grid, from the same scores, before its limits (R38, log 28). -/
opaque refinedShift : List Nat → Int

end Sys2Proof.Config
end

