-- ==== Sys2Proof/Syntax.lean ====
section
/-! DEFINITION. The commands of the block: one constructor of `Instr` for each row of spec/opcode_table.json, with the
contents the frames and events carry. -/

namespace Sys2Proof

/-- The solver state, as an ALIGN record carries it (R51, R197). -/
inductive SolverState where
  | origin | aligned | hold | fallback
  deriving DecidableEq, Repr

/-- The flags of an ALIGN record (R69). -/
structure AlignFlags where
  degraded : Bool
  airLost  : Bool
  contact  : Bool
  frozen   : Bool
  ampFault : Bool
  range    : Bool
  deriving DecidableEq, Repr

/-- An ALIGN record as carried in the frame (R2, R71, R199): nothing of it is judged here. -/
structure AlignRecord where
  seq         : BitVec 8
  solver      : SolverState
  rank        : BitVec 4
  delay       : BitVec 24
  path        : BitVec 24
  flags       : AlignFlags
  /-- bits 5..4 of the state/rank byte, as carried (R199) -/
  stateSpare  : BitVec 2
  /-- bits 7..6 of the flags byte, as carried (R199) -/
  flagsSpare  : BitVec 2
  /-- 0.1 °C, two's complement; absent in a record of length 9 -/
  temperature : Option (BitVec 16)
  deriving DecidableEq, Repr

/-- The content of a ROLL (section 10.4, R199). -/
structure RollBody where
  unit      : BitVec 32
  imageId   : BitVec 32
  mode      : Byte
  faultFlag : Bool
  reason    : BitVec 4
  contact   : Bool
  deriving DecidableEq, Repr

/-- The content of a QUERY (section 11.1, R199); bit 0 of `flags` is INFO, bit 1 CLEAR. -/
structure QueryBody where
  space  : Byte
  offset : BitVec 16
  count  : Byte
  flags  : Byte
  deriving DecidableEq, Repr

/-- What a frame carries, by kind (R198, R199). A REPLY has two forms. -/
inductive FrameBody where
  | roll (body : RollBody)
  | align (record : AlignRecord)
  | mark
  | cue (number : Byte) (params : List Byte)
  | query (body : QueryBody)
  | evac (set : Bool)
  | restart (unit : BitVec 32)
  | replyData (space : BitVec 3) (offset : BitVec 10) (data : List Byte)
  | replyStatus (status space : Byte) (offset : BitVec 16) (count flags : Byte) (info : Option (BitVec 32))
  deriving DecidableEq, Repr

/-- A frame: source, destination (63 = all stations) and content. -/
structure Frame where
  src  : Nat
  dst  : Nat
  body : FrameBody
  deriving DecidableEq, Repr

/-- The nine straps (section 3 of 00_scope.md, R177): six number straps, bus rate, contact mode, contact polarity. -/
structure Straps where
  number     : BitVec 6
  /-- 1 Mbit/s rather than 250 kbit/s -/
  fast       : Bool
  /-- contact mode LATCHED rather than LEVEL -/
  latched    : Bool
  /-- the emergency contact is asserted when its pin is high -/
  activeHigh : Bool
  deriving DecidableEq, Repr

/-- The two contact inputs (R125). -/
inductive ContactLine where
  | emergency | reset
  deriving DecidableEq, Repr

/-- A character taken from the line; a broken one has its stop bit not at the idle level (R157). -/
inductive LineChar where
  | good (b : Byte)
  | broken
  deriving DecidableEq, Repr

/-- A complete reply of the air sensor (R47): its values, and whether its check value agrees with its content. -/
structure SensorReply where
  /-- 0.1 °C -/
  temperature : Int
  /-- per cent -/
  humidity    : Int
  checkAgrees : Bool
  deriving DecidableEq, Repr

/-- What comes in at one programme sample: the programme's sample (R73), and the microphone's of the same moment (R37, log
28). -/
structure AudioInput where
  programme  : Int
  microphone : Int
  deriving DecidableEq, Repr

/-- The commands (opcode_table.json), in the table's order. `burst` says after how many actions beyond the first of a
run of cue actions another event is taken (R145): `none` when the run is not interrupted (log 6). -/
inductive Instr where
  /-- HARD_RESET (R176): the straps are as their pins stand at the end of the reset -/
  | hardReset (straps : Straps)
  /-- IMAGE_HEADER_READ (R178): the ten header bytes -/
  | imageHeaderRead (header : List Byte)
  /-- IMAGE_READ_TIMEOUT (R178) -/
  | imageReadTimeout
  /-- IMAGE_READ_COMPLETE (R179): the bytes read after the header -/
  | imageReadComplete (rest : List Byte)
  /-- CLAIM_TIMER_EXPIRY (R181) -/
  | claimTimerExpiry
  /-- ALIGN (R3) -/
  | align (src : Nat) (record : AlignRecord)
  /-- ROLL (R129) -/
  | roll (src : Nat) (body : RollBody)
  /-- MARK (R35): with its end-of-frame timestamp -/
  | mark (src : Nat) (stamp : Instant)
  /-- EVAC (R128): SET or CLEAR -/
  | evac (src : Nat) (set : Bool)
  /-- CUE (R144) -/
  | cue (src dst : Nat) (number : Byte) (params : List Byte) (burst : Option Nat)
  /-- WAIT_TIMER_EXPIRY (R152) -/
  | waitTimerExpiry (burst : Option Nat)
  /-- QUERY (R190) -/
  | query (src dst : Nat) (body : QueryBody)
  /-- RESTART (R187): the straps are as their pins stand at that moment -/
  | restart (src : Nat) (unit : BitVec 32) (straps : Straps)
  /-- REPLY (R164) -/
  | reply (src dst : Nat)
  /-- DUPLICATE_FRAME (R183): the content when it is a ROLL -/
  | duplicateFrame (roll : Option RollBody)
  /-- INTER_FRAME_GAP (R159) -/
  | interFrameGap (burst : Option Nat)
  /-- TX_ATTEMPT (R169) -/
  | txAttempt
  /-- TX_SUCCESS (R171) -/
  | txSuccess
  /-- TX_COLLISION (R171) -/
  | txCollision
  /-- TX_QUIET_RECOVERY (R173) -/
  | txQuietRecovery
  /-- PROBE_TIMER_EXPIRY (R23) -/
  | probeTimerExpiry
  /-- MARK_DEADLINE_EXPIRY (R27) -/
  | markDeadlineExpiry
  /-- EMISSION_START (R28) -/
  | emissionStart
  /-- EMISSION_END (R28) -/
  | emissionEnd
  /-- WINDOW_CLOSE (R40) -/
  | windowClose (slot : Fin 2)
  /-- SECOND_TICK (R8) -/
  | secondTick
  /-- ENTRY_STALE (R8) -/
  | entryStale (entry : Fin 16)
  /-- ENTRY_LOST (R9) -/
  | entryLost (entry : Fin 16)
  /-- POOL_RELEASE (R10) -/
  | poolRelease (entry : Fin 16)
  /-- AIR_REPLY (R48) -/
  | airReply (reply : SensorReply)
  /-- AIR_REPLY_TIMEOUT (R49) -/
  | airReplyTimeout
  /-- SETTLE_EXPIRY (R57) -/
  | settleExpiry
  /-- HOLD_TIMER_EXPIRY (R67) -/
  | holdTimerExpiry
  /-- REFRESH_TIMER_EXPIRY (R70) -/
  | refreshTimerExpiry
  /-- SLEW_COMPLETE (R80) -/
  | slewComplete (channel : Fin 4)
  /-- CROSSFADE_END (R98) -/
  | crossfadeEnd (channel : Fin 4)
  /-- RAMP_END (R102) -/
  | rampEnd (channel : Fin 4)
  /-- PROGRAMME_JUDGEMENT_CHANGE (R110) -/
  | programmeJudgementChange (present : Bool)
  /-- SILENCE_TIMER_EXPIRY (R112) -/
  | silenceTimerExpiry (channel : Fin 4)
  /-- READY_ASSERTED (R114) -/
  | readyAsserted (channel : Fin 4)
  /-- READY_LOST (R115) -/
  | readyLost (channel : Fin 4)
  /-- FAULT_LINE_ASSERTED (R115) -/
  | faultLineAsserted (channel : Fin 4)
  /-- FAULT_LINE_RELEASED (R115) -/
  | faultLineReleased (channel : Fin 4)
  /-- WAKE_TIMER_EXPIRY (R114) -/
  | wakeTimerExpiry (channel : Fin 4)
  /-- GATE_FADE_END (R121) -/
  | gateFadeEnd (channel : Fin 4)
  /-- LOST_SAMPLE (R122) -/
  | lostSample (channel : Fin 4)
  /-- CONTACT_PIN_CHANGE (R125): the emergency contact's pin level (high), or the reset contact closed -/
  | contactPinChange (line : ContactLine) (level : Bool)
  /-- DEBOUNCED_CONTACT_ASSERTED (R126) -/
  | debouncedContactAsserted
  /-- DEBOUNCED_CONTACT_RELEASED (R126) -/
  | debouncedContactReleased
  /-- RESET_CONTACT_ASSERTED (R127) -/
  | resetContactAsserted
  /-- RESET_CONTACT_RELEASED (R127) -/
  | resetContactReleased
  /-- EVAC_REFRESH_EXPIRY (R135) -/
  | evacRefreshExpiry
  /-- CORRELATOR_PEAK (R39): the peak's arrival offset in µs and its score -/
  | correlatorPeak (slot : Fin 2) (offset : Nat) (score : Byte)
  /-- PROGRAMME_SAMPLE (R73): the sample at the programme input, and the one at the microphone input (R37, log 28) -/
  | programmeSample (sample : AudioInput)
  /-- LINE_CHARACTER (R159): `driven` when this station drove the character the receiver takes -/
  | lineCharacter (char : LineChar) (driven : Bool)
  deriving DecidableEq, Repr

end Sys2Proof
end

