-- ==== Sys2Proof/WellFormed.lean ====
section
/-! DEFINITION. Which commands a real outside can send: the ranges of their operands that their types do not already
fix. The meanings are total all the same: a frame outside these ranges is taken as R161 takes it (malformed). -/

namespace Sys2Proof

/-- A number that a source on the bus may have (R161). -/
def isStation (n : Nat) : Bool := 1 ≤ n && n ≤ 62

/-- A carried temperature is absent or a value other than the code 8000h, which means absent (R197). -/
def AlignRecord.wellFormed (r : AlignRecord) : Bool := r.temperature != some 0x8000#16

/-- Payload contents that R199 can lay out. -/
def FrameBody.wellFormed : FrameBody → Bool
  | .roll _ => true
  | .align r => r.wellFormed
  | .mark => true
  | .cue _ ps => ps.length ≤ 4
  | .query _ => true
  | .evac _ => true
  | .restart _ => true
  | .replyData sp _ d => sp.toNat ≤ 5 && 1 ≤ d.length && d.length ≤ 48
  | .replyStatus .. => true

/-- The destinations R161 allows for the kind. -/
def FrameBody.destinationAllowed (dst : Nat) : FrameBody → Bool
  | .roll _ | .align _ | .mark | .evac _ | .restart _ => dst == 63
  | .cue .. => dst == 63 || isStation dst
  | .query _ | .replyData .. | .replyStatus .. => isStation dst

/-- A well-formed frame (R161, R199). -/
def Frame.wellFormed (f : Frame) : Bool :=
  isStation f.src && f.body.destinationAllowed f.dst && f.body.wellFormed

/-- The operand checks of each command. -/
def Instr.wellFormed : Instr → Bool
  | .hardReset _ => true
  | .imageHeaderRead h => h.length == 10
  | .imageReadTimeout => true
  | .imageReadComplete rest => rest.length ≤ 4086
  | .claimTimerExpiry => true
  | .align src r => Frame.wellFormed ⟨src, 63, .align r⟩
  | .roll src b => Frame.wellFormed ⟨src, 63, .roll b⟩
  | .mark src _ => Frame.wellFormed ⟨src, 63, .mark⟩
  | .evac src b => Frame.wellFormed ⟨src, 63, .evac b⟩
  | .cue src dst n ps _ => Frame.wellFormed ⟨src, dst, .cue n ps⟩
  | .waitTimerExpiry _ => true
  | .query src dst b => Frame.wellFormed ⟨src, dst, .query b⟩
  | .restart src u _ => Frame.wellFormed ⟨src, 63, .restart u⟩
  | .reply src dst => isStation src && isStation dst
  | .duplicateFrame _ => true
  | .interFrameGap _ => true
  | .txAttempt => true
  | .txSuccess => true
  | .txCollision => true
  | .txQuietRecovery => true
  | .probeTimerExpiry => true
  | .markDeadlineExpiry => true
  | .emissionStart => true
  | .emissionEnd => true
  | .windowClose _ => true
  | .secondTick => true
  | .entryStale _ => true
  | .entryLost _ => true
  | .poolRelease _ => true
  | .airReply _ => true
  | .airReplyTimeout => true
  | .settleExpiry => true
  | .holdTimerExpiry => true
  | .refreshTimerExpiry => true
  | .slewComplete _ => true
  | .crossfadeEnd _ => true
  | .rampEnd _ => true
  | .programmeJudgementChange _ => true
  | .silenceTimerExpiry _ => true
  | .readyAsserted _ => true
  | .readyLost _ => true
  | .faultLineAsserted _ => true
  | .faultLineReleased _ => true
  | .wakeTimerExpiry _ => true
  | .gateFadeEnd _ => true
  | .lostSample _ => true
  | .contactPinChange _ _ => true
  | .debouncedContactAsserted => true
  | .debouncedContactReleased => true
  | .resetContactAsserted => true
  | .resetContactReleased => true
  | .evacRefreshExpiry => true
  | .correlatorPeak _ offset score => offset ≤ 1369333 && 1 ≤ score.toNat
  | .programmeSample _ => true
  | .lineCharacter _ _ => true

end Sys2Proof
end

