-- ==== Sys2Proof/Decode.lean ====
section
/-! DEFINITION. The commands that a word spells by the table's bits. opcode_table.json gives no row any bits, so there
is none: commands reach the block as `Instr` values in its queue (log 31). -/

namespace Sys2Proof

/-- No row of the table has bits, so no word spells a command (log 31). -/
def decodeTableWord (_nbits _w : Nat) : Option Instr := none

end Sys2Proof
end

