-- ==== Sys2Proof/Machine/State.lean ====
section
/-! DEFINITION. The state of the block, as plain data: every piece of state the spec gives the machine, block by block
(section 2 of 00_scope.md), and the state after reset. All timers hold their remaining time in µs. -/

namespace Sys2Proof.Machine

/-! ### Start-up Control (R176) and the installed image (R200, R201) -/

/-- The station modes (R176). -/
inductive Mode where
  | loading | announce | run | conflict | configFault
  deriving DecidableEq, Repr

/-- The fault reasons (R179). -/
inductive FaultReason where
  | none | badStrap | noImage | badCookie | badLength | badCrc | fieldRange | probeChannel | badLimits | poolRange
  | selfBinding | duplicateSingle
  deriving DecidableEq, Repr

/-- The station kind (R176). -/
inductive StationKind where
  | delay | origin
  deriving DecidableEq, Repr

/-- The binding of a peer entry (R1). -/
inductive Binding where
  | unused
  | single (station : Nat)
  | pool (lo hi : Nat)
  deriving DecidableEq, Repr

/-- A channel section of the image (R201); gains are gain codes 0..184 (R197). -/
structure ChannelImage where
  trim        : Nat
  autoStandby : Bool
  /-- ms -/
  wakeLimit   : Nat
  startGain   : Nat
  startMute   : Bool
  evacPreset  : Nat
  evacGain    : Nat
  presets     : List (List Stage)
  deriving DecidableEq, Repr

/-- The start image as installed (R200, R201). -/
structure Image where
  id             : BitVec 32
  length         : Nat
  kind           : StationKind
  /-- µs -/
  originDelay    : Nat
  /-- µs -/
  fallbackDelay  : Nat
  /-- 500 µs steps -/
  offset         : Nat
  /-- µs -/
  deadband       : Nat
  /-- N = 256 × 2^code -/
  slewCode       : Nat
  /-- s -/
  refresh        : Nat
  /-- s -/
  staleLimit     : Nat
  /-- s -/
  lostLimit      : Nat
  /-- s -/
  holdLimit      : Nat
  /-- ms -/
  jumpLimit      : Nat
  /-- s -/
  probeInterval  : Nat
  probeChannel   : Fin 4
  /-- −dBFS -/
  probeLevel     : Nat
  threshold      : Nat
  /-- samples -/
  micLatency     : Nat
  /-- 0.1 °C -/
  defaultTemp    : Int
  defaultBand    : Nat
  /-- −dBFS -/
  silenceLevel   : Nat
  /-- s -/
  standbyDelay   : Nat
  bindings       : Vector Binding 16
  channels       : Vector ChannelImage 4
  /-- 8 rows (path bands) of 4 cells (humidity bands); `none` = unused -/
  absorption     : List (List (Option Shelf))
  cueBytes       : List Byte
  deriving DecidableEq, Repr

/-- How far the read of the start image has come (R178). -/
inductive ImageRead where
  | none
  /-- the header is awaited, with the rest of the 100 ms -/
  | header (left : Nat)
  /-- the header has been delivered and checked; the rest is awaited -/
  | body (header : List Byte) (left : Nat)
  deriving DecidableEq, Repr

/-- The lists of an entry that was SINGLE, kept through LOADING after a warm restart (R21). -/
structure KeptLists where
  station  : Nat
  history  : List Nat
  suspects : List Nat
  deriving DecidableEq, Repr

/-- Start-up Control (R176). -/
structure Startup where
  mode          : Mode
  /-- the strap pins as they stand -/
  strapPins     : Straps
  /-- the straps as sampled at the last reset (R177) -/
  straps        : Straps
  unit          : BitVec 32
  /-- image id and image length -/
  identity      : Option (BitVec 32 × Nat)
  kind          : Option StationKind
  reason        : FaultReason
  claim         : Option Nat
  duplicates    : BitVec 16
  /-- the unit number carried, and whether this station WON -/
  lastDuplicate : Option (BitVec 32 × Bool)
  restarts      : BitVec 16
  reading       : ImageRead
  kept          : Vector (Option KeptLists) 16
  deriving DecidableEq, Repr

/-! ### Zone Bus Interface (R158) -/

/-- The receive assembly (R159). -/
inductive Assembly where
  | seeking (ready : Bool)
  | assembling (chars : List Byte)
  /-- the declared length is reached: the end-of-frame timestamp, and whether it is an own transmission (R162) -/
  | complete (chars : List Byte) (stamp : Instant) (own : Bool)
  | discarding
  deriving DecidableEq, Repr

/-- An entry of the transmit queue (R165); its class is a view of its frame's kind. -/
structure QueueEntry where
  frame     : Frame
  arrival   : Nat
  attempted : Bool
  deriving DecidableEq, Repr

/-- The attempt under way (R158): the entry by its place of arrival, and the frame copy being driven. -/
structure Attempt where
  arrival       : Nat
  frame         : Frame
  /-- the entry's frame was replaced during the attempt (R166) -/
  superseded    : Bool
  /-- a MARK whose deadline expired during the attempt: removed if it fails (R168) -/
  dropOnFailure : Bool
  deriving DecidableEq, Repr

/-- The Zone Bus Interface (R158). -/
structure Bus where
  assembly    : Assembly
  /-- µs since the last line activity ended; the idle time of R158 in character times is a view -/
  idleMicros  : Nat
  queue       : List QueueEntry
  nextArrival : Nat
  attempt     : Option Attempt
  tfc         : Nat
  txQuiet     : Bool
  recovery    : Nat
  yieldOwed   : Bool
  deriving DecidableEq, Repr

/-! ### Peer Record Table (R2, R17) -/

/-- The state of an entry (section 1.3). -/
inductive EntryState where
  | waiting | fresh | stale | lost
  deriving DecidableEq, Repr

/-- The flight data of an entry or of the self record: lists oldest first, in µs at 20.0 °C (R2, R17). -/
structure FlightRecord where
  history  : List Nat
  suspects : List Nat
  misses   : Nat
  stale    : Bool
  deriving DecidableEq, Repr

/-- A peer entry (R2). -/
structure PeerEntry where
  binding   : Binding
  peer      : Option Nat
  state     : EntryState
  record    : Option AlignRecord
  unread    : Bool
  age       : Option Nat
  flights   : FlightRecord
  lastMark  : Option Instant
  deriving DecidableEq, Repr

/-! ### Probe Unit (R22, R34) -/

/-- The round state (R22). -/
inductive Round where
  | idle | waking | marking | emitting
  deriving DecidableEq, Repr

/-- A peak of a window: arrival offset in µs and score (R39). -/
structure Peak where
  offset : Nat
  score  : Nat
  deriving DecidableEq, Repr

/-- An open capture window (R34). -/
structure Window where
  owner   : Nat
  opens   : Instant
  closes  : Instant
  best    : Nat
  peaks   : List Peak
  discard : Bool
  /-- the offset of the latest peak the correlator has found, held or not (R38) -/
  latest  : Option Nat
  /-- the microphone samples since the window start, newest first (R37) -/
  heard   : List Int
  /-- µs from the window start to the first of these samples, 0 before it: arrival offsets count from the start (R37) -/
  lead    : Nat
  deriving DecidableEq, Repr

/-- A capture slot (R34). -/
inductive Slot where
  | free
  | reserved (owner : Nat)
  | opened (window : Window)
  deriving DecidableEq, Repr

/-- The Probe Unit (R22). -/
structure ProbeUnit where
  round    : Round
  timer    : Option Nat
  deadline : Option Nat
  /-- the instant of the emission's first sample at the channel output: own end-of-MARK + 2,000 µs (R28) -/
  startsAt : Option Instant
  /-- the first sample of the emission has left (R28) -/
  started  : Bool
  /-- µs from that instant to the first programme sample that carries the emission, by which the whole sequence is placed
  between the programme samples (R28) -/
  lag      : Nat
  position : Nat
  slots    : Vector Slot 2
  deriving DecidableEq, Repr

/-! ### Air Data Input (R46) -/

/-- The AIR state (R46). -/
inductive AirState where
  | lost | valid
  deriving DecidableEq, Repr

/-- The Air Data Input (R46). -/
structure Air where
  state       : AirState
  /-- 0.1 °C -/
  temperature : Int
  humidity    : Option Nat
  misses      : Nat
  /-- a read request not yet judged, with the rest of its 50 ms (R47) -/
  request     : Option Nat
  deriving DecidableEq, Repr

/-! ### Alignment Solver (R51) -/

/-- The hold timer (R51, R59). -/
inductive HoldTimer where
  | stopped
  | running (left : Nat)
  | suspended (left : Nat)
  deriving DecidableEq, Repr

/-- The Alignment Solver (R51). -/
structure Solver where
  state           : SolverState
  /-- the zone target delay D, µs -/
  delay           : Nat
  rank            : Nat
  /-- µs -/
  path            : Nat
  winner          : Option (Fin 16)
  /-- the precedence offset P in 500 µs steps -/
  offset          : Nat
  cueFreeze       : Bool
  emergencyFreeze : Bool
  settle          : Option Nat
  hold            : HoldTimer
  refresh         : Option Nat
  seq             : BitVec 8
  handed          : Bool
  lastTemperature : Option Int
  computed        : Option Nat
  range           : Bool
  lowClamps       : BitVec 16
  deriving DecidableEq, Repr

/-! ### Delay Engine, Equaliser and Gain, Channel Power Control (R72, R89, R108) -/

/-- The slew state of a channel (R72). -/
inductive Slew where
  | settled | up | down
  deriving DecidableEq, Repr

/-- An equaliser setting (section 5.2): FLAT, or a preset with an air shelf (`none` = flat shelf). -/
inductive Setting where
  | flat
  | eq (preset : Nat) (shelf : Option Shelf)
  deriving DecidableEq, Repr

/-- A crossfade (R89, R96): from-setting, to-setting and position 0..2,399. -/
inductive Crossfade where
  | idle
  | running (src dst : Setting) (position : Nat)
  deriving DecidableEq, Repr

/-- A gain target (R101): silence, or a gain code (R197). -/
inductive GainTarget where
  | silence
  | gain (code : Nat)
  deriving DecidableEq, Repr

/-- An applied gain factor, held exactly as the expression R101 and R102 give it: the factor of a target, or a point of a
ramp from a start factor to a target, `num` 960ths of the way (log 16). Its value is `Factor.amplitude`. -/
inductive Factor where
  | of (target : GainTarget)
  | ramp (start : Factor) (target : GainTarget) (num : Nat)
  deriving DecidableEq, Repr

/-- A gain ramp (R89, R102): start factor and position 0..959. -/
inductive Ramp where
  | idle
  | running (start : Factor) (position : Nat)
  deriving DecidableEq, Repr

/-- The power states (R111). -/
inductive Power where
  | active | watch | standby | waking | forcedOff | fault
  deriving DecidableEq, Repr

/-- The causes of FAULT (R108). -/
inductive FaultCause where
  | line | readyLost | timeout
  deriving DecidableEq, Repr

/-- The memories of one copy of the six equaliser stages (R87, R96): stages 0..4 static, stage 5 the air shelf. What a
stage remembers is a list of numbers, empty when it is silent (log 15). -/
abbrev StageMemories : Type := Vector (List Int) 6

/-- What a channel's chain makes of one programme sample (R87): the value read from the delay memory, what the equaliser
passes on, and the gain factor it is multiplied by. -/
structure ChainSample where
  read  : Int
  /-- in 1/2,400 of the unit of a sample, in which the blend of a crossfade is a whole number (R96) -/
  eq    : Int
  gain  : Factor
  deriving DecidableEq, Repr

/-- A sample as the open gate lets it out: the chain's output and the weight of the opening fade in 48ths (R121). -/
structure ProgrammeOut where
  chain  : ChainSample
  weight : Nat
  deriving DecidableEq, Repr

/-- A probe sample added after the gate (R28): whose sequence, which sample of it, how many µs after its place in the
sequence (fractional interpolation), at which level in −dBFS. -/
structure ProbeOut where
  station  : Nat
  position : Nat
  lag      : Nat
  level    : Nat
  deriving DecidableEq, Repr

/-- What leaves at a channel output in one programme sample; no programme part means silence (R121, log 15). -/
structure Output where
  programme : Option ProgrammeOut
  probe     : Option ProbeOut
  deriving DecidableEq, Repr

/-- One channel: its part of the Delay Engine (R72), of the equaliser (R89) and of power control (R108). -/
structure Channel where
  /-- samples -/
  target     : Nat
  /-- 1/4,096 sample -/
  applied    : Nat
  slew       : Slew
  jumps      : BitVec 16
  preset     : Nat
  active     : Setting
  crossfade  : Crossfade
  waiting    : Option Setting
  /-- gain code -/
  storedGain : Nat
  storedMute : Bool
  gainTarget : GainTarget
  factor     : Factor
  ramp       : Ramp
  /-- the memories of the six stages at the active setting, the from-copy during a crossfade -/
  stages     : StageMemories
  /-- the memories of the second copy, at the to-setting of a crossfade; silent while none runs -/
  nextStages : StageMemories
  /-- the chain's output in the latest programme sample -/
  chain      : ChainSample
  power      : Power
  cause      : Option FaultCause
  forcedOff  : Bool
  silence    : Option Nat
  wake       : Option Nat
  enable     : Bool
  /-- gate fade position 0..47, or IDLE -/
  fade       : Option Nat
  wakeLoss   : Bool
  ready      : Bool
  faultLine  : Bool
  output     : Output
  deriving DecidableEq, Repr

/-- The Delay Engine's station-wide state (R72). -/
structure DelayEngine where
  writePos : Nat
  /-- the delay memory's cells (position, sample), rising, none silent -/
  memory   : List (Nat × Int)
  deriving DecidableEq, Repr

/-- The level detector (R108). -/
structure LevelDetector where
  /-- the programme judgement: present or quiet -/
  present : Bool
  /-- the presence marks' cells (position, mark), rising, none quiet -/
  marks   : List (Nat × Bool)
  /-- the 479 programme samples before the newest, newest first -/
  history : List Int
  deriving DecidableEq, Repr

/-- The equaliser's station-wide state (R89, R107). -/
structure EqStation where
  pathBand     : Option Nat
  humidityBand : Option Nat
  shelf        : Option Shelf
  /-- the absorption-table cell that supplied the shelf: row and column -/
  cell         : Option (Nat × Nat)
  deriving DecidableEq, Repr

/-! ### Cue Engine (R140) -/

/-- The kinds of a cue fault (R146). -/
inductive CueFaultKind where
  | unknownKind | memoryEnd | noParameter | valueRange
  deriving DecidableEq, Repr

/-- The endings of a list (R156). -/
inductive Ending where
  | complete | undefined | overtaken | emergency
  | fault (kind : CueFaultKind)
  deriving DecidableEq, Repr

/-- The outcomes of a CUE (R156). -/
inductive CueOutcome where
  | taken | undefined | refusedEmergency | refusedMode | refusedNumber
  deriving DecidableEq, Repr

/-- The list context (R140). -/
structure ListContext where
  cue      : Nat
  params   : List Byte
  position : Nat
  deriving DecidableEq, Repr

/-- The list state with its context, which is present exactly while a list is RUNNING or WAITING (R140). -/
inductive ListState where
  | idle
  | running (context : ListContext)
  | waiting (context : ListContext) (left : Nat)
  deriving DecidableEq, Repr

/-- The last CUE record (R140). -/
structure CueRecord where
  source  : Nat
  number  : Byte
  outcome : CueOutcome
  deriving DecidableEq, Repr

/-- The last list record (R140). -/
structure ListRecord where
  cue      : Nat
  ending   : Ending
  position : Nat
  deriving DecidableEq, Repr

/-- The Cue Engine (R140). -/
structure CueEngine where
  /-- the cue memory's cells, rising, none END -/
  memory    : List Host.Cell
  list      : ListState
  lastCue   : Option CueRecord
  lastList  : Option ListRecord
  overtaken : BitVec 16
  undefined : BitVec 16
  deriving DecidableEq, Repr

/-! ### Emergency Control (R124) -/

/-- Emergency Control (R124). -/
structure EmergencyControl where
  /-- the emergency contact's pin is high -/
  contactPin   : Bool
  /-- the reset contact is closed -/
  resetPin     : Bool
  contactSpan  : Option Nat
  resetSpan    : Option Nat
  contact      : Bool
  resetContact : Bool
  latch        : Bool
  /-- the source set, in rising order -/
  sources      : List Nat
  emergency    : Bool
  refresh      : Option Nat
  deriving DecidableEq, Repr

/-! ### The whole block -/

/-- The state of the block. -/
structure State where
  stc       : Startup
  image     : Option Image
  bus       : Bus
  peers     : Vector PeerEntry 16
  selfRec   : FlightRecord
  probe     : ProbeUnit
  air       : Air
  solver    : Solver
  delay     : DelayEngine
  level     : LevelDetector
  eq        : EqStation
  channels  : Vector Channel 4
  cue       : CueEngine
  emc       : EmergencyControl
  /-- the 20 counters, in the order of R196 -/
  counters  : Vector (BitVec 16) 20
  /-- the 1 µs time base (R157) -/
  timeBase  : Instant
  /-- the model's own: which free value is read next (log 34) -/
  freeCount : Nat
  /-- the waiting commands, first in first out -/
  pending   : List Instr
  deriving DecidableEq, Repr

/-- Why the machine stops with a fault: never. Every command has an effect in every state, so there is no reason. -/
inductive Fault
  deriving DecidableEq, Repr

/-- Why a command is refused. -/
inductive Refusal where
  /-- raised by `exec` for a command whose meaning is not written yet; safe: nothing follows of the next state -/
  | notModelled (mnemonic : String)
  deriving DecidableEq, Repr

/-! ### Reset values -/

/-- Flight data as installed (R2, R20): empty lists, no miss, FLIGHT_STALE clear. -/
def FlightRecord.empty : FlightRecord := ⟨[], [], 0, false⟩

/-- An entry that holds nothing, with the installation values of R2. -/
def PeerEntry.blank (b : Binding) (peer : Option Nat) : PeerEntry :=
  ⟨b, peer, .waiting, none, false, none, FlightRecord.empty, none⟩

/-- An output that carries nothing. -/
def Output.silent : Output := ⟨none, none⟩

/-- Six silent stage memories. -/
def StageMemories.silent : StageMemories := Vector.replicate 6 []

/-- A chain's output before any sample: silence. -/
def ChainSample.silent : ChainSample := ⟨0, 0, .of .silence⟩

/-- A channel after either reset (R72, R89, R108); its two amplifier lines are inputs (log 12). -/
def Channel.reset (ready faultLine : Bool) : Channel where
  target := 0
  applied := 0
  slew := .settled
  jumps := 0
  preset := 0
  active := .flat
  crossfade := .idle
  waiting := none
  storedGain := 160
  storedMute := true
  gainTarget := .silence
  factor := .of .silence
  ramp := .idle
  stages := StageMemories.silent
  nextStages := StageMemories.silent
  chain := ChainSample.silent
  power := .standby
  cause := none
  forcedOff := false
  silence := none
  wake := none
  enable := false
  fade := none
  wakeLoss := false
  ready := ready
  faultLine := faultLine
  output := Output.silent

/-- The solver after either reset (R51). -/
def Solver.reset : Solver where
  state := .fallback
  delay := 0
  rank := 15
  path := 0
  winner := none
  offset := 20
  cueFreeze := false
  emergencyFreeze := false
  settle := none
  hold := .stopped
  refresh := none
  seq := 0
  handed := false
  lastTemperature := none
  computed := none
  range := false
  lowClamps := 0

/-- The straps of State.reset: station 1, 250 kbit/s, LEVEL, asserted when high. The pins are the rack's, not the
spec's (log 10). -/
def Straps.reset : Straps := ⟨1, false, false, true⟩

/-- The machine right after a hard reset with the straps of log 10: LOADING, the image header awaited (R176, R178). -/
def State.reset : State where
  stc :=
    { mode := .loading
      strapPins := Straps.reset
      straps := Straps.reset
      unit := 1
      identity := none
      kind := none
      reason := .none
      claim := none
      duplicates := 0
      lastDuplicate := none
      restarts := 0
      reading := .header 100000
      kept := Vector.replicate 16 none }
  image := none
  bus :=
    { assembly := .seeking false
      idleMicros := 0
      queue := []
      nextArrival := 0
      attempt := none
      tfc := 0
      txQuiet := false
      recovery := 0
      yieldOwed := false }
  peers := Vector.replicate 16 (PeerEntry.blank .unused none)
  selfRec := FlightRecord.empty
  probe :=
    { round := .idle
      timer := none
      deadline := none
      startsAt := none
      started := false
      lag := 0
      position := 0
      slots := Vector.replicate 2 .free }
  air :=
    { state := .lost
      temperature := 200
      humidity := none
      misses := 0
      request := none }
  solver := Solver.reset
  delay := { writePos := 0, memory := [] }
  level := { present := false, marks := [], history := List.replicate 479 0 }
  eq := { pathBand := none, humidityBand := none, shelf := none, cell := none }
  channels := Vector.replicate 4 (Channel.reset false false)
  cue :=
    { memory := []
      list := .idle
      lastCue := none
      lastList := none
      overtaken := 0
      undefined := 0 }
  emc :=
    { contactPin := false
      resetPin := false
      contactSpan := none
      resetSpan := none
      contact := false
      resetContact := false
      latch := false
      sources := []
      emergency := false
      refresh := none }
  counters := Vector.replicate 20 0
  timeBase := 0
  freeCount := 0
  pending := []

end Sys2Proof.Machine
end

