-- ==== Sys2Proof/Machine/Ops.lean ====
section
/-! DEFINITION. The shared operations over the state: one update per block, counters, timers, cells of the addressed
buffers, bytes, and the quantities several blocks read (mode, installed image values, own alarm). -/

namespace Sys2Proof.Machine

/-! ### One update per block of State -/

namespace State

def modStc (f : Startup → Startup) (s : State) : State := { s with stc := f s.stc }
def setImage (i : Option Image) (s : State) : State := { s with image := i }
def modBus (f : Bus → Bus) (s : State) : State := { s with bus := f s.bus }
def setPeers (v : Vector PeerEntry 16) (s : State) : State := { s with peers := v }
def modPeer (i : Fin 16) (f : PeerEntry → PeerEntry) (s : State) : State :=
  { s with peers := s.peers.set i (f s.peers[i]) }
def modSelf (f : FlightRecord → FlightRecord) (s : State) : State := { s with selfRec := f s.selfRec }
def modProbe (f : ProbeUnit → ProbeUnit) (s : State) : State := { s with probe := f s.probe }
def modAir (f : Air → Air) (s : State) : State := { s with air := f s.air }
def modSolver (f : Solver → Solver) (s : State) : State := { s with solver := f s.solver }
def modDelay (f : DelayEngine → DelayEngine) (s : State) : State := { s with delay := f s.delay }
def modLevel (f : LevelDetector → LevelDetector) (s : State) : State := { s with level := f s.level }
def modEq (f : EqStation → EqStation) (s : State) : State := { s with eq := f s.eq }
def modChannel (c : Fin 4) (f : Channel → Channel) (s : State) : State :=
  { s with channels := s.channels.set c (f s.channels[c]) }
def modCue (f : CueEngine → CueEngine) (s : State) : State := { s with cue := f s.cue }
def modEmc (f : EmergencyControl → EmergencyControl) (s : State) : State := { s with emc := f s.emc }
def modCounters (f : Vector (BitVec 16) 20 → Vector (BitVec 16) 20) (s : State) : State :=
  { s with counters := f s.counters }
def setTimeBase (t : Instant) (s : State) : State := { s with timeBase := t }
def setFreeCount (n : Nat) (s : State) : State := { s with freeCount := n }
def setPending (q : List Instr) (s : State) : State := { s with pending := q }

end State

/-- Apply `f` to each of the four channels in turn. -/
def forChannels (f : Fin 4 → State → State) (s : State) : State := f 3 (f 2 (f 1 (f 0 s)))

/-- Apply `f` to each channel that a channel set marks: bit c marks channel c (R202). -/
def forMarked (set : BitVec 4) (f : Fin 4 → State → State) (s : State) : State :=
  forChannels (fun c s => if set.getLsbD c then f c s else s) s

/-- A map over a vector that the kernel evaluates by recursion on its list. -/
def mapVector {α β : Type} {n : Nat} (f : α → β) (v : Vector α n) : Vector β n :=
  ⟨(v.toList.map f).toArray, by simp⟩

/-- The vector of the values of `f`. -/
def tabulate {α : Type} (n : Nat) (f : Fin n → α) : Vector α n :=
  ⟨(List.ofFn f).toArray, by simp⟩

/-! ### Counters (R196) -/

/-- The 20 counters, in the order of R196. -/
inductive Counter where
  | rxGood | rxCrc | rxTruncated | rxOverlong | rxMalformed | unmatchedAlign | recordOverrun | recordGap
  | txGood | txCollision | txDropped | txQuietEntries | probeRounds | probeAborts | captureMisses | captureBusy
  | capturesCancelled | relocations | cueFaults | wakeLosses
  deriving DecidableEq, Repr

/-- The index of a counter (R196). -/
def Counter.index : Counter → Fin 20
  | .rxGood => 0 | .rxCrc => 1 | .rxTruncated => 2 | .rxOverlong => 3 | .rxMalformed => 4
  | .unmatchedAlign => 5 | .recordOverrun => 6 | .recordGap => 7 | .txGood => 8 | .txCollision => 9
  | .txDropped => 10 | .txQuietEntries => 11 | .probeRounds => 12 | .probeAborts => 13 | .captureMisses => 14
  | .captureBusy => 15 | .capturesCancelled => 16 | .relocations => 17 | .cueFaults => 18 | .wakeLosses => 19

/-- A 16-bit count that stays at 65,535 (R196). -/
def satInc (c : BitVec 16) : BitVec 16 := if c = 0xFFFF#16 then c else c + 1#16

/-- `satInc` n times. -/
def satIncBy : Nat → BitVec 16 → BitVec 16
  | 0, c => c
  | n + 1, c => satIncBy n (satInc c)

/-- The value of a counter. -/
def State.count (s : State) (k : Counter) : BitVec 16 := s.counters[k.index]

/-- Increment a counter by `n`. -/
def bumpBy (n : Nat) (k : Counter) (s : State) : State :=
  s.modCounters fun v => v.set k.index (satIncBy n v[k.index])

/-- Increment a counter (R196). -/
def bump (k : Counter) (s : State) : State := bumpBy 1 k s

/-! ### Timers -/

/-- A running timer loses 1 µs and stays at 0 until its expiry is taken. -/
def tickTimer (t : Option Nat) : Option Nat := t.map (· - 1)

/-- The hold timer loses 1 µs while it runs; suspended it keeps its remaining time (R59). -/
def HoldTimer.tick : HoldTimer → HoldTimer
  | .running left => .running (left - 1)
  | h => h

/-! ### Cells of an addressed buffer

A list of (address, value) with rising addresses and no cell equal to `d`, what an unlisted address reads as. -/

namespace Cells

variable {α : Type}

/-- The value at an address. -/
def read (d : α) : List (Nat × α) → Nat → α
  | [], _ => d
  | (b, v) :: m, a => if a = b then v else read d m a

/-- The list with the cell of `a` left out. -/
def erase : List (Nat × α) → Nat → List (Nat × α)
  | [], _ => []
  | (b, v) :: m, a => if a = b then m else (b, v) :: erase m a

/-- The list with the cell (a, v) put in its place, for an address not listed. -/
def insert : List (Nat × α) → Nat → α → List (Nat × α)
  | [], a, v => [(a, v)]
  | (b, w) :: m, a, v => if a < b then (a, v) :: (b, w) :: m else (b, w) :: insert m a v

/-- Write one value; writing what an unlisted address reads as removes the cell. -/
def write [DecidableEq α] (d : α) (m : List (Nat × α)) (a : Nat) (v : α) : List (Nat × α) :=
  if v = d then erase m a else insert (erase m a) a v

/-- The cells of a run of values that starts at address `a`. -/
def ofList [DecidableEq α] (d : α) : Nat → List α → List (Nat × α)
  | _, [] => []
  | a, v :: vs => if v = d then ofList d (a + 1) vs else (a, v) :: ofList d (a + 1) vs

/-- The canonical form: addresses below `n`, strictly rising from `lo`, and no cell equal to `d`. -/
def wfFrom [DecidableEq α] (d : α) (n : Nat) : Nat → List (Nat × α) → Bool
  | _, [] => true
  | lo, (a, v) :: m => decide (lo ≤ a) && decide (a < n) && decide (v ≠ d) && wfFrom d n (a + 1) m

end Cells

/-- The three addressed buffers are in canonical form: the delay memory and the presence marks within 65,536 positions,
the cue memory within 512 bytes. -/
def Memory.wf (s : State) : Bool :=
  Cells.wfFrom 0 65536 0 s.delay.memory && Cells.wfFrom false 65536 0 s.level.marks
    && Cells.wfFrom 0#8 512 0 s.cue.memory

/-- A byte of cue memory; what is not listed is END (R140). -/
def cueByte (s : State) (a : Nat) : Byte := Cells.read 0#8 s.cue.memory a

/-- The sample at a position of the delay memory; what is not listed is silent (R72). -/
def delaySample (s : State) (a : Nat) : Int := Cells.read 0 s.delay.memory a

/-- The presence mark at a position; what is not listed is quiet (R108). -/
def presenceMark (s : State) (a : Nat) : Bool := Cells.read false s.level.marks a

/-! ### Bytes, most significant first (R197) -/

/-- The low k bytes of n. -/
def bytesBE : Nat → Nat → List Byte
  | 0, _ => []
  | k + 1, n => bytesBE k (n / 256) ++ [BitVec.ofNat 8 n]

/-- The number that bytes spell. -/
def valueBE (l : List Byte) : Nat := l.foldl (fun a b => a * 256 + b.toNat) 0

/-- k bytes of an optional number, all-ones when absent (R203). -/
def absentBE (k : Nat) : Option Nat → List Byte
  | some n => bytesBE k n
  | none => List.replicate k 0xFF#8

/-- A bit as a number. -/
def bit (b : Bool) (place : Nat) : Nat := if b then 2 ^ place else 0

/-- Two bytes of a temperature in 0.1 °C, 8000h when absent (R197). -/
def temperatureBE : Option Int → List Byte
  | some t => let w := BitVec.ofInt 16 t; [w.extractLsb' 8 8, w.extractLsb' 0 8]
  | none => [0x80#8, 0x00#8]

/-- One bit of a CRC-8 with generator 07h. -/
def crc8Bit (c : BitVec 8) : BitVec 8 := if c.getLsbD 7 then (c <<< 1) ^^^ 0x07#8 else c <<< 1

/-- One byte of the CRC-8, most significant bit first (R198). -/
def crc8Byte (c : BitVec 8) (b : Byte) : BitVec 8 :=
  crc8Bit (crc8Bit (crc8Bit (crc8Bit (crc8Bit (crc8Bit (crc8Bit (crc8Bit (c ^^^ b))))))))

/-- CRC-8, initial value FFh, no final inversion (R198). -/
def crc8 (l : List Byte) : BitVec 8 := l.foldl crc8Byte 0xFF#8

/-- One bit of a CRC-16 with generator 1021h. -/
def crc16Bit (c : BitVec 16) : BitVec 16 := if c.getLsbD 15 then (c <<< 1) ^^^ 0x1021#16 else c <<< 1

/-- One byte of the CRC-16, most significant bit first (R200). -/
def crc16Byte (c : BitVec 16) (b : Byte) : BitVec 16 :=
  crc16Bit (crc16Bit (crc16Bit (crc16Bit (crc16Bit (crc16Bit (crc16Bit (crc16Bit (c ^^^ (b.setWidth 16 <<< 8)))))))))

/-- CRC-16, initial value FFFFh, no final inversion (R200). -/
def crc16 (l : List Byte) : BitVec 16 := l.foldl crc16Byte 0xFFFF#16

/-- The quotient a / b rounded to the nearest whole number, halves up; a negative divisor is taken as (−a) / (−b). -/
def roundHalfUp (a b : Int) : Int :=
  let n := if b < 0 then -a else a
  let d := if b < 0 then -b else b
  (2 * n + d) / (2 * d)

/-! ### What the blocks read of one another -/

/-- This station's number, from the sampled straps (R177). -/
def State.number (s : State) : Nat := s.stc.straps.number.toNat

/-- The station serves its zone: RUN or CONFLICT. -/
def State.serving (s : State) : Bool := s.stc.mode == .run || s.stc.mode == .conflict

/-- The own alarm: the debounced contact in LEVEL mode, the latch in LATCHED mode (R124). -/
def State.ownAlarm (s : State) : Bool := if s.stc.straps.latched then s.emc.latch else s.emc.contact

/-- The station is in EMERGENCY (R131). -/
def State.inEmergency (s : State) : Bool := s.emc.emergency

/-- The solver is frozen (R58). -/
def State.frozen (s : State) : Bool := s.solver.cueFreeze || s.solver.emergencyFreeze

/-- The own temperature (R50), 0.1 °C. -/
def State.ownTemperature (s : State) : Int := s.air.temperature

/-- The image default temperature, 20.0 °C until the image is installed (R46). -/
def State.defaultTemperature (s : State) : Int := s.image.elim 200 (·.defaultTemp)

/-- The precedence offset P in µs (R51). -/
def State.precedence (s : State) : Nat := s.solver.offset * 500

/-- The probe channel, once the image is installed. -/
def State.probeChannel (s : State) : Option (Fin 4) := s.image.map (·.probeChannel)

/-- The jitter of the probe timer, in µs (R23). -/
def State.jitter (s : State) : Nat := s.stc.unit.toNat % 32 * 1000000

/-- The trim of a channel, 0 until the image is installed (R72). -/
def State.trim (s : State) (c : Fin 4) : Nat := s.image.elim 0 (·.channels[c].trim)

/-- The slew divisor code: N = 256 × 2^code, 1,024 until the image is installed (R72, R200). -/
def State.slewCode (s : State) : Nat := s.image.elim 2 (·.slewCode)

/-- One slew step in 1/4,096 sample: 4,096 / N (R80). -/
def State.slewStep (s : State) : Nat := 16 / 2 ^ s.slewCode

/-- The silence threshold in −dBFS, 60 until the image is installed (R108). -/
def State.silenceLevel (s : State) : Nat := s.image.elim 60 (·.silenceLevel)

/-- The standby delay in s, 600 until the image is installed (R108). -/
def State.standbyDelay (s : State) : Nat := s.image.elim 600 (·.standbyDelay)

/-- The wake limit of a channel in ms, 500 until the image is installed (R108). -/
def State.wakeLimit (s : State) (c : Fin 4) : Nat := s.image.elim 500 (·.channels[c].wakeLimit)

/-- The auto-standby setting of a channel, disabled until the image is installed (R108). -/
def State.autoStandby (s : State) (c : Fin 4) : Bool := s.image.elim false (·.channels[c].autoStandby)

/-- One character time in µs (R157). -/
def State.characterTime (s : State) : Nat := if s.stc.straps.fast then 10 else 40

/-- The inter-frame gap G in character times (R157). -/
def gapChars : Nat := 3

/-- The idle time in character times (R158). -/
def State.idleTime (s : State) : Nat := s.bus.idleMicros / s.characterTime

/-- The entry whose peer station is S (R12, R35): at most one by the first law of the table (R4). -/
def State.holder (s : State) (station : Nat) : Option (Fin 16) :=
  (List.finRange 16).find? fun i => s.peers[i].peer == some station

end Sys2Proof.Machine
end

