-- ==== Sys2Proof/Machine/Operands.lean ====
section
/-! DEFINITION. The formats of chapter 12: frames as their bytes (R197 to R199), cue actions (R146, R147, R202), and the
start image with its checks (R179, R200, R201). -/

namespace Sys2Proof

/-! ### Frames -/

/-- The code of a solver state (R197). -/
def solverCode : SolverState → BitVec 2
  | .origin => 0 | .aligned => 1 | .hold => 2 | .fallback => 3

/-- The solver state of a code (R197). -/
def solverOfCode (c : BitVec 2) : SolverState :=
  if c = 0#2 then .origin else if c = 1#2 then .aligned else if c = 2#2 then .hold else .fallback

/-- The state/rank byte (R197), with its two unnamed bits (R199). -/
def stateRankByte (st : SolverState) (spare : BitVec 2) (rank : BitVec 4) : Byte := solverCode st ++ spare ++ rank

/-- A byte from eight yes-or-no values, bit 7 first. -/
def byteOfBits (b7 b6 b5 b4 b3 b2 b1 b0 : Bool) : Byte :=
  BitVec.ofBool b7 ++ BitVec.ofBool b6 ++ BitVec.ofBool b5 ++ BitVec.ofBool b4 ++ BitVec.ofBool b3 ++
    BitVec.ofBool b2 ++ BitVec.ofBool b1 ++ BitVec.ofBool b0

/-- The ALIGN flags byte (R197), with its two unnamed bits (R199). -/
def flagsByte (spare : BitVec 2) (f : AlignFlags) : Byte :=
  byteOfBits (spare.getLsbD 1) (spare.getLsbD 0) f.range f.ampFault f.frozen f.contact f.airLost f.degraded

/-- The flags of an ALIGN flags byte (R197). -/
def flagsOfByte (b : Byte) : AlignFlags where
  degraded := b.getLsbD 0
  airLost := b.getLsbD 1
  contact := b.getLsbD 2
  frozen := b.getLsbD 3
  ampFault := b.getLsbD 4
  range := b.getLsbD 5

/-- The bytes of a 16-bit value. -/
def split16 (w : BitVec 16) : List Byte := [w.extractLsb' 8 8, w.extractLsb' 0 8]

/-- The bytes of a 24-bit value. -/
def split24 (w : BitVec 24) : List Byte := [w.extractLsb' 16 8, w.extractLsb' 8 8, w.extractLsb' 0 8]

/-- The bytes of a 32-bit value. -/
def split32 (w : BitVec 32) : List Byte :=
  [w.extractLsb' 24 8, w.extractLsb' 16 8, w.extractLsb' 8 8, w.extractLsb' 0 8]

/-- The payload of a frame (R199). -/
def FrameBody.payload : FrameBody → List Byte
  | .roll b =>
    split32 b.unit ++ split32 b.imageId ++
      [b.mode, BitVec.ofBool b.faultFlag ++ 0#3 ++ b.reason, byteOfBits false false false false false false false b.contact]
  | .align r =>
    [r.seq, stateRankByte r.solver r.stateSpare r.rank] ++ split24 r.delay ++ split24 r.path ++
      [flagsByte r.flagsSpare r.flags] ++
      (match r.temperature with
       | some t => split16 t
       | none => [])
  | .mark => []
  | .cue n ps => n :: ps
  | .query q => q.space :: split16 q.offset ++ [q.count, q.flags]
  | .evac set => [byteOfBits false false false false false false false set]
  | .restart u => split32 u
  | .replyData _ _ d => d
  | .replyStatus st sp off cnt fl info =>
    [st, sp] ++ split16 off ++ [cnt, fl] ++
      (match info with
       | some i => split32 i
       | none => [])

/-- The four header bytes (R198). -/
def Frame.header (f : Frame) : List Byte :=
  let src : Byte := BitVec.ofNat 8 f.src
  let dst : Byte := BitVec.ofNat 8 f.dst
  let len : Byte := BitVec.ofNat 8 f.body.payload.length
  match f.body with
  | .roll _ => [0x01#8, src, dst, len]
  | .align _ => [0x02#8, src, dst, len]
  | .mark => [0x03#8, src, dst, len]
  | .cue _ _ => [0x04#8, src, dst, len]
  | .query _ => [0x05#8, src, dst, len]
  | .evac _ => [0x06#8, src, dst, len]
  | .restart _ => [0x07#8, src, dst, len]
  | .replyData sp off _ =>
    [1#1 ++ sp ++ off.extractLsb' 6 4, off.extractLsb' 4 2 ++ src.extractLsb' 0 6,
     off.extractLsb' 2 2 ++ dst.extractLsb' 0 6, off.extractLsb' 0 2 ++ len.extractLsb' 0 6]
  | .replyStatus .. => [0xF0#8, src, dst, len]

/-- The bytes of a frame on the line: header, payload, CRC (section 9.2, R198). -/
def Frame.bytes (f : Frame) : List Byte :=
  f.header ++ f.body.payload ++ [Machine.crc8 (f.header ++ f.body.payload)]

/-- Byte 0 values of a REPLY: the data form with spaces 0..5, and the status form (R198). -/
def isReplyByte (b0 : Byte) : Bool := (0x80 ≤ b0.toNat && b0.toNat ≤ 0xDF) || b0 == 0xF0#8

/-- The payload length that a header declares: 6 bits in a REPLY, the whole byte in every other kind (R198, log 20). -/
def declaredPayload (b0 b3 : Byte) : Nat := if isReplyByte b0 then (b3.extractLsb' 0 6).toNat else b3.toNat

/-- A temperature as carried; 8000h means absent (R197, log 19). -/
def carriedTemperature (hi lo : Byte) : Option (BitVec 16) :=
  let w : BitVec 16 := hi ++ lo
  if w = 0x8000#16 then none else some w

/-- The ROLL of a payload. -/
def parseRoll : List Byte → Option FrameBody
  | [u3, u2, u1, u0, i3, i2, i1, i0, m, f, c] =>
    some (.roll
      { unit := u3 ++ u2 ++ u1 ++ u0
        imageId := i3 ++ i2 ++ i1 ++ i0
        mode := m
        faultFlag := f.getLsbD 7
        reason := f.extractLsb' 0 4
        contact := c.getLsbD 0 })
  | _ => none

/-- An ALIGN record from its fields; the unnamed bits of its two coded bytes are taken as carried (R199). -/
def alignOf (seq stateRank : Byte) (delay path : BitVec 24) (flags : Byte) (temperature : Option (BitVec 16)) :
    AlignRecord where
  seq := seq
  solver := solverOfCode (stateRank.extractLsb' 6 2)
  rank := stateRank.extractLsb' 0 4
  delay := delay
  path := path
  flags := flagsOfByte flags
  stateSpare := stateRank.extractLsb' 4 2
  flagsSpare := flags.extractLsb' 6 2
  temperature := temperature

/-- The ALIGN of a payload: length 9 has no temperature, length 11 has one. -/
def parseAlign : List Byte → Option FrameBody
  | [q, sr, d2, d1, d0, p2, p1, p0, fl] =>
    some (.align (alignOf q sr (d2 ++ d1 ++ d0) (p2 ++ p1 ++ p0) fl none))
  | [q, sr, d2, d1, d0, p2, p1, p0, fl, t1, t0] =>
    some (.align (alignOf q sr (d2 ++ d1 ++ d0) (p2 ++ p1 ++ p0) fl (carriedTemperature t1 t0)))
  | _ => none

/-- The CUE of a payload of 1..5 bytes. -/
def parseCue : List Byte → Option FrameBody
  | n :: ps => if ps.length ≤ 4 then some (.cue n ps) else none
  | [] => none

/-- The QUERY of a payload. -/
def parseQuery : List Byte → Option FrameBody
  | [sp, o1, o0, c, fl] => some (.query { space := sp, offset := o1 ++ o0, count := c, flags := fl })
  | _ => none

/-- The EVAC of a payload; bits 7..1 are not examined. -/
def parseEvac : List Byte → Option FrameBody
  | [b] => some (.evac (b.getLsbD 0))
  | _ => none

/-- The RESTART of a payload. -/
def parseRestart : List Byte → Option FrameBody
  | [u3, u2, u1, u0] => some (.restart (u3 ++ u2 ++ u1 ++ u0))
  | _ => none

/-- The status form of a REPLY: length 6, or 10 with the info block. Bits 7..6 of the header's bytes 1..3 are not examined
(R198). -/
def parseReplyStatus : List Byte → Option FrameBody
  | [st, sp, o1, o0, c, fl] => some (.replyStatus st sp (o1 ++ o0) c fl none)
  | [st, sp, o1, o0, c, fl, i3, i2, i1, i0] =>
    some (.replyStatus st sp (o1 ++ o0) c fl (some (i3 ++ i2 ++ i1 ++ i0)))
  | _ => none

/-- The content of a frame, by its header and payload, where chapter 12 permits the payload length for the kind. -/
def parseBody (b0 b1 b2 b3 : Byte) (payload : List Byte) : Option FrameBody :=
  if b0 = 0x01#8 then parseRoll payload
  else if b0 = 0x02#8 then parseAlign payload
  else if b0 = 0x03#8 then (if payload = [] then some .mark else none)
  else if b0 = 0x04#8 then parseCue payload
  else if b0 = 0x05#8 then parseQuery payload
  else if b0 = 0x06#8 then parseEvac payload
  else if b0 = 0x07#8 then parseRestart payload
  else if b0 = 0xF0#8 then parseReplyStatus payload
  else if isReplyByte b0 then
    if 1 ≤ payload.length ∧ payload.length ≤ 48 then
      some (.replyData (b0.extractLsb' 4 3)
        (b0.extractLsb' 0 4 ++ b1.extractLsb' 6 2 ++ b2.extractLsb' 6 2 ++ b3.extractLsb' 6 2) payload)
    else none
  else none

/-- A frame read from its bytes, CRC included and already checked: `none` when it is malformed (check 2 of R161). -/
def parseFrame : List Byte → Option Frame
  | b0 :: b1 :: b2 :: b3 :: rest =>
    let payload := rest.dropLast
    if declaredPayload b0 b3 ≠ payload.length then none else
    match parseBody b0 b1 b2 b3 payload with
    | none => none
    | some body =>
      let src := if isReplyByte b0 then (b1.extractLsb' 0 6).toNat else b1.toNat
      let dst := if isReplyByte b0 then (b2.extractLsb' 0 6).toNat else b2.toNat
      if isStation src && body.destinationAllowed dst then some ⟨src, dst, body⟩ else none
  | _ => none

/-- The frame's CRC agrees: the CRC-8 of all but the last byte is the last byte (check 1 of R161). -/
def crcAgrees (chars : List Byte) : Bool := some (Machine.crc8 chars.dropLast) == chars.getLast?

/-- The transmit class of a frame (R165). -/
def FrameBody.cls : FrameBody → Nat
  | .evac _ => 0
  | .mark => 1
  | .align _ | .roll _ => 2
  | .replyData .. | .replyStatus .. => 3
  | .cue .. | .query _ | .restart _ => 3

/-- The frame is a MARK. -/
def FrameBody.isMark : FrameBody → Bool
  | .mark => true
  | _ => false

/-- The frame is an ALIGN. -/
def FrameBody.isAlign : FrameBody → Bool
  | .align _ => true
  | _ => false

/-- The frame is a ROLL. -/
def FrameBody.isRoll : FrameBody → Bool
  | .roll _ => true
  | _ => false

/-- The frame is an EVAC. -/
def FrameBody.isEvac : FrameBody → Bool
  | .evac _ => true
  | _ => false

/-- The frame is a REPLY. -/
def FrameBody.isReply : FrameBody → Bool
  | .replyData .. | .replyStatus .. => true
  | _ => false

/-- `new` replaces a waiting `old` of its own kind: ALIGN, EVAC and ROLL do (R166). -/
def FrameBody.replaces (new old : FrameBody) : Bool :=
  (new.isAlign && old.isAlign) || (new.isEvac && old.isEvac) || (new.isRoll && old.isRoll)

end Sys2Proof

namespace Sys2Proof.Machine

/-! ### Cue actions -/

/-- A cue action with its channel set and its value resolved (R147 to R153). -/
inductive Action where
  | finish
  | probe
  | freeze
  | thaw
  | mute (set : BitVec 4)
  | unmute (set : BitVec 4)
  | sleep (set : BitVec 4)
  | wake (set : BitVec 4)
  | offset (value : Nat)
  | wait (value : Nat)
  | gain (set : BitVec 4) (value : Nat)
  | preset (set : BitVec 4) (value : Nat)
  deriving DecidableEq, Repr

/-- The length of an action in bytes (R145). -/
def Action.length : Action → Nat
  | .finish | .probe | .freeze | .thaw => 1
  | .mute _ | .unmute _ | .sleep _ | .wake _ | .offset _ | .wait _ => 2
  | .gain .. | .preset .. => 3

/-- The length that a kind byte gives its action; `none` for an unknown kind (R202). -/
def kindLength (k : Byte) : Option Nat :=
  match k.toNat with
  | 0x00 | 0x01 | 0x02 | 0x03 => some 1
  | 0x10 | 0x11 | 0x12 | 0x13 | 0x14 | 0x15 => some 2
  | 0x20 | 0x21 => some 3
  | _ => none

/-- A value field: inline 0..251, or parameter k, `none` when that parameter is not present (R147, R202). -/
def fieldValue (params : List Byte) (field : Byte) : Option Nat :=
  if field.toNat < 0xFC then some field.toNat else (params[field.toNat - 0xFC]?).map (·.toNat)

/-- A value field of a kind with range lo..hi, checked in the order of R146. -/
def rangedValue (params : List Byte) (field : Byte) (lo hi : Nat) : Except CueFaultKind Nat :=
  match fieldValue params field with
  | none => .error .noParameter
  | some v => if lo ≤ v ∧ v ≤ hi then .ok v else .error .valueRange

/-- A channel set: no mark outside channels 0..3 (R147, R202). -/
def channelSet (b : Byte) : Except CueFaultKind (BitVec 4) :=
  if b.extractLsb' 4 4 = 0#4 then .ok (b.extractLsb' 0 4) else .error .valueRange

/-- An action whose only operand is a channel set. -/
def setAction (mk : BitVec 4 → Action) (b : Byte) : Except CueFaultKind Action :=
  match channelSet b with
  | .ok cs => .ok (mk cs)
  | .error e => .error e

/-- An action whose only operand is a value field. -/
def valueAction (mk : Nat → Action) (params : List Byte) (field : Byte) (lo hi : Nat) : Except CueFaultKind Action :=
  match rangedValue params field lo hi with
  | .ok v => .ok (mk v)
  | .error e => .error e

/-- An action with a channel set and a value field: NO_PARAMETER comes before VALUE_RANGE (R146). -/
def setValueAction (mk : BitVec 4 → Nat → Action) (b : Byte) (params : List Byte) (field : Byte) (hi : Nat) :
    Except CueFaultKind Action :=
  match rangedValue params field 0 hi, channelSet b with
  | .ok v, .ok cs => .ok (mk cs v)
  | .error e, _ => .error e
  | .ok _, .error e => .error e

/-- The action at a position of cue memory, checked in the order of R146. A position of 512 is MEMORY_END (R153). -/
def decodeAction (mem : Nat → Byte) (params : List Byte) (position : Nat) : Except CueFaultKind Action :=
  if 512 ≤ position then .error .memoryEnd else
  match kindLength (mem position) with
  | none => .error .unknownKind
  | some len =>
    if 512 < position + len then .error .memoryEnd else
    let b1 := mem (position + 1)
    let b2 := mem (position + 2)
    match (mem position).toNat with
    | 0x00 => .ok .finish
    | 0x01 => .ok .probe
    | 0x02 => .ok .freeze
    | 0x03 => .ok .thaw
    | 0x10 => setAction .mute b1
    | 0x11 => setAction .unmute b1
    | 0x12 => setAction .sleep b1
    | 0x13 => setAction .wake b1
    | 0x14 => valueAction .offset params b1 0 60
    | 0x15 => valueAction .wait params b1 1 250
    | 0x20 => setValueAction .gain b1 params b2 184
    | 0x21 => setValueAction .preset b1 params b2 3
    | _ => .error .unknownKind

/-! ### The start image -/

/-- An unsigned field of `size` bytes at an offset. -/
def field (b : List Byte) (offset size : Nat) : Nat := valueBE ((b.drop offset).take size)

/-- A signed 16-bit field (R197). -/
def signedField (b : List Byte) (offset : Nat) : Int := (BitVec.ofNat 16 (field b offset 2)).toInt

/-- A number lies in lo..hi. -/
def within (lo hi n : Nat) : Bool := lo ≤ n && n ≤ hi

/-- A stage of a preset (R88, R201); `none` when a field its kind uses is out of range. -/
def parseStage (b : List Byte) : Option Stage :=
  let f := field b 1 2
  let g := field b 3 1
  let q := field b 4 1
  match field b 0 1 with
  | 0 => some .bypass
  | 1 => if within 20 20000 f && within 0 60 g && within 3 100 q then some (.peak f g q) else none
  | 2 => if within 20 20000 f && within 0 60 g then some (.lowShelf f g) else none
  | 3 => if within 20 20000 f && within 0 60 g then some (.highShelf f g) else none
  | 4 => if within 20 20000 f then some (.highPass f) else none
  | 5 => if within 20 20000 f then some (.lowPass f) else none
  | _ => none

/-- All of a list of optional values, or `none`. -/
def allSome {α : Type} : List (Option α) → Option (List α)
  | [] => some []
  | none :: _ => none
  | some a :: l => (allSome l).map (a :: ·)

/-- A preset of five stages (R88, R201). -/
def parsePreset (b : List Byte) : Option (List Stage) :=
  allSome ([0, 5, 10, 15, 20].map fun o => parseStage (b.drop o))

/-- A channel section (R201); `none` when a field is out of range. -/
def parseChannel (b : List Byte) : Option ChannelImage :=
  match allSome ([9, 34, 59, 84].map fun o => parsePreset (b.drop o)) with
  | none => none
  | some presets =>
    if within 0 960 (field b 0 2) && within 0 1 (field b 2 1) && within 50 2000 (field b 3 2) &&
        within 0 184 (field b 5 1) && within 0 1 (field b 6 1) && within 0 3 (field b 7 1) &&
        within 0 184 (field b 8 1) then
      some
        { trim := field b 0 2
          autoStandby := field b 2 1 == 1
          wakeLimit := field b 3 2
          startGain := field b 5 1
          startMute := field b 6 1 == 1
          evacPreset := field b 7 1
          evacGain := field b 8 1
          presets := presets }
    else none

/-- An absorption cell (R200): gain byte FFh is an unused cell, whose corner code is not examined. -/
def parseCell (b : List Byte) : Option (Option Shelf) :=
  let g := field b 0 1
  let c := field b 1 1
  if g = 255 then some none
  else if within 0 48 g && within 0 3 c then some (some ⟨g, c⟩)
  else none

/-- A row of the absorption table: four cells. -/
def parseRow (b : List Byte) : Option (List (Option Shelf)) :=
  allSome ([0, 2, 4, 6].map fun o => parseCell (b.drop o))

/-- A peer binding (R200): a kind, then a SINGLE station, or POOL lo and hi. Check 6 examines the kind and a SINGLE
station; check 9 examines a POOL range. -/
def parseBinding (b : List Byte) : Option Binding :=
  match field b 0 1 with
  | 0 => some .unused
  | 1 => if isStation (field b 1 1) then some (.single (field b 1 1)) else none
  | 2 => some (.pool (field b 1 1) (field b 2 1))
  | _ => none

/-- A list of n values as a vector. -/
def vectorOf {α : Type} (n : Nat) (l : List α) : Option (Vector α n) :=
  if h : l.length = n then some ⟨l.toArray, by simpa using h⟩ else none

/-- The ranges of the station section that check 6 examines (R200); `b` is the whole image. -/
def stationFieldsOk (b : List Byte) : Bool :=
  within 0 1 (field b 10 1) && within 0 100000 (field b 11 3) && within 0 1340000 (field b 14 3) &&
  within 0 60 (field b 17 1) && within 0 5000 (field b 18 2) && within 0 4 (field b 20 1) &&
  within 1 60 (field b 21 1) && within 2 250 (field b 22 1) && within 5 600 (field b 23 2) &&
  within 10 3600 (field b 25 2) && within 1 50 (field b 27 1) && within 60 3600 (field b 28 2) &&
  within 20 60 (field b 31 1) && within 1 255 (field b 32 1) && within 0 255 (field b 33 1) &&
  decide (-300 ≤ signedField b 34 ∧ signedField b 34 ≤ 600) && within 0 3 (field b 36 1) &&
  within 30 90 (field b 37 1) && within 10 3600 (field b 38 2)

/-- The image's fields, where check 6 passes (R179, R200, R201). -/
def readImage (b : List Byte) : Option Image :=
  if stationFieldsOk b then
    match allSome ((List.range 16).map fun i => parseBinding (b.drop (40 + 3 * i))),
        allSome ((List.range 4).map fun c => parseChannel (b.drop (88 + 109 * c))),
        allSome ((List.range 8).map fun p => parseRow (b.drop (524 + 8 * p))) with
    | some bs, some cs, some rows =>
      match vectorOf 16 bs, vectorOf 4 cs with
      | some bindings, some channels =>
        some
          { id := BitVec.ofNat 32 (field b 4 4)
            length := field b 2 2
            kind := if field b 10 1 = 1 then .origin else .delay
            originDelay := field b 11 3
            fallbackDelay := field b 14 3
            offset := field b 17 1
            deadband := field b 18 2
            slewCode := field b 20 1
            refresh := field b 21 1
            staleLimit := field b 22 1
            lostLimit := field b 23 2
            holdLimit := field b 25 2
            jumpLimit := field b 27 1
            probeInterval := field b 28 2
            probeChannel := Fin.ofNat 4 (field b 30 1)
            probeLevel := field b 31 1
            threshold := field b 32 1
            micLatency := field b 33 1
            defaultTemp := signedField b 34
            defaultBand := field b 36 1
            silenceLevel := field b 37 1
            standbyDelay := field b 38 2
            bindings := bindings
            channels := channels
            absorption := rows
            cueBytes := (b.drop 588).take 512 }
      | _, _ => none
    | _, _, _ => none
  else none

/-- Every POOL range satisfies 1 ≤ lo ≤ hi ≤ 62 (check 9). -/
def poolOk : Binding → Bool
  | .pool lo hi => 1 ≤ lo && lo ≤ hi && hi ≤ 62
  | _ => true

/-- The station of a SINGLE binding. -/
def Binding.singleStation : Binding → Option Nat
  | .single s => some s
  | _ => none

/-- A list holds some value twice. -/
def hasDuplicate : List Nat → Bool
  | [] => false
  | a :: l => l.contains a || hasDuplicate l

/-- Checks 3 and 4 of R179 on the header bytes: the cookie, then the declared length. -/
def checkHeader (header : List Byte) : FaultReason :=
  if field header 0 2 ≠ 0x6C3E then .badCookie
  else if field header 2 2 < 1100 ∨ 4096 < field header 2 2 then .badLength
  else .none

/-- The CRC-16 over bytes 0..7 and 10 up to the declared length agrees with bytes 8..9 (R200). -/
def imageCrcAgrees (b : List Byte) : Bool :=
  (crc16 (b.take 8 ++ (b.take (field b 2 2)).drop 10)).toNat == field b 8 2

/-- The checks of R179 from check 3 on, in their order, for a station of the given number; the first that fails names
the fault reason. -/
def checkImage (own : Nat) (b : List Byte) : Except FaultReason Image :=
  if checkHeader b ≠ .none then .error (checkHeader b)
  else if !imageCrcAgrees b then .error .badCrc
  else
    match readImage b with
    | none => .error .fieldRange
    | some img =>
      let singles := img.bindings.toList.filterMap Binding.singleStation
      if 3 < field b 30 1 then .error .probeChannel
      else if img.lostLimit ≤ img.staleLimit then .error .badLimits
      else if !(img.bindings.toList.all poolOk) then .error .poolRange
      else if singles.contains own then .error .selfBinding
      else if hasDuplicate singles then .error .duplicateSingle
      else .ok img

end Sys2Proof.Machine
end

