-- ==== Sys2Proof/Machine/Flags.lean ====
section
/-! DEFINITION. The flags of this station's ALIGN records (R69), what a change of which hands an ALIGN (R70), and the
conditions that several blocks read: effective silence (R110) and the wanted setting and gain target (R94, R101). -/

namespace Sys2Proof.Machine

/-- The winning entry is not FRESH, or has FLIGHT_STALE set (R69); false when there is no winner. -/
def winnerDegraded (s : State) : Bool :=
  match s.solver.winner with
  | some i => s.peers[i].state != .fresh || s.peers[i].flights.stale
  | none => false

/-- DEGRADED (R69): for an origin station the loss of air data alone. -/
def degraded (s : State) : Bool :=
  if s.stc.kind = some .origin then s.air.state == .lost
  else
    s.solver.state == .hold || s.solver.state == .fallback || winnerDegraded s || s.selfRec.stale || s.air.state == .lost

/-- AMP_FAULT (R69, R123): any channel is in FAULT. -/
def ampFault (s : State) : Bool := s.channels.toList.any (·.power == .fault)

/-- The flags of R69 as they would be composed now. -/
def alignFlags (s : State) : AlignFlags where
  degraded := degraded s
  airLost := s.air.state == .lost
  contact := s.ownAlarm
  frozen := s.frozen
  ampFault := ampFault s
  range := s.solver.range

/-- What a change of which hands an ALIGN: solver state, D, rank and the flags (R70). -/
structure Published where
  state : SolverState
  delay : Nat
  rank  : Nat
  flags : AlignFlags
  deriving DecidableEq, Repr

/-- The published values as they stand. -/
def published (s : State) : Published := ⟨s.solver.state, s.solver.delay, s.solver.rank, alignFlags s⟩

/-! ### Power states and effective silence -/

/-- The sounding states, in which targets slew and settings crossfade; the others are silent (R77, R111). -/
def Power.sounding : Power → Bool
  | .active | .watch | .waking => true
  | .standby | .forcedOff | .fault => false

/-- The states in which the gate is open: sound leaves (R111, R121). -/
def Power.gateOpen : Power → Bool
  | .active | .watch => true
  | _ => false

/-- The channel is muted: its gain target is silence (R103). -/
def Channel.muted (ch : Channel) : Bool := ch.gainTarget == .silence

/-- Effective silence of a channel (R110). -/
def effectiveSilence (s : State) (c : Fin 4) : Bool := !s.level.present || s.channels[c].muted

/-- R112: an ACTIVE channel with auto-standby goes to WATCH in effective silence, out of EMERGENCY, in RUN or CONFLICT. -/
def wantsWatch (s : State) (c : Fin 4) : Bool :=
  s.serving && s.autoStandby c && effectiveSilence s c && !s.inEmergency

/-! ### Wanted setting and gain target -/

/-- The wanted setting of a channel (R94). -/
def wantedSetting (s : State) (c : Fin 4) : Setting :=
  if s.serving then
    if s.inEmergency then .eq (s.image.elim 0 (·.channels[c].evacPreset)) s.eq.shelf
    else .eq s.channels[c].preset s.eq.shelf
  else .flat

/-- The gain target of a channel (R101). -/
def wantedGain (s : State) (c : Fin 4) : GainTarget :=
  if s.serving then
    if s.inEmergency then .gain (s.image.elim 160 (·.channels[c].evacGain))
    else if s.channels[c].storedMute then .silence
    else .gain s.channels[c].storedGain
  else if s.stc.mode = .configFault ∧ s.inEmergency then .gain 160
  else .silence

/-- The number of queue entries of a kind. -/
def queueCount (s : State) (p : FrameBody → Bool) : Nat := (s.bus.queue.filter (p ·.frame.body)).length

/-- A MARK waits in the queue. -/
def markWaits (s : State) : Bool := s.bus.queue.any (·.frame.body.isMark)

/-- A ROLL waits in the queue. -/
def rollWaits (s : State) : Bool := s.bus.queue.any (·.frame.body.isRoll)

end Sys2Proof.Machine
end

