-- ==== Sys2Proof/Machine/Queue.lean ====
section
/-! DEFINITION. The transmit queue (section 9.3): hand-over with admission, replacement and displacement, withdrawal of
the MARK, emptying; and the hand-overs of ALIGN (R70, R71), EVAC (R135, R136) and ROLL (R182). -/

namespace Sys2Proof.Machine

/-- The class of an entry (R165). -/
def QueueEntry.cls (e : QueueEntry) : Nat := e.frame.body.cls

/-- The entry is the one under attempt. -/
def underAttempt (b : Bus) (e : QueueEntry) : Bool := b.attempt.any (·.arrival == e.arrival)

/-- The place of a new entry: the end of its class (R165). -/
def insertByClass (e : QueueEntry) : List QueueEntry → List QueueEntry
  | [] => [e]
  | x :: xs => if x.cls ≤ e.cls then x :: insertByClass e xs else e :: x :: xs

/-- What becomes of a frame handed to the queue (R166, R167). -/
inductive Admission where
  /-- it takes the place of the waiting frame of its kind -/
  | replaces
  /-- it joins the end of its class -/
  | joins
  /-- it joins after the newest entry of the lowest class has been removed -/
  | displaces
  | refused
  deriving DecidableEq, Repr

/-- Whether the newest entry of the lowest class ranks below `cls` and is not under attempt: the queue stands in order
of class and arrival, so that entry is the last (R167). -/
def displaceable (b : Bus) (cls : Nat) : Bool :=
  match b.queue.getLast? with
  | some v => decide (cls < v.cls) && !underAttempt b v
  | none => false

/-- The admission of a frame (R166, R167). -/
def admission (s : State) (f : FrameBody) : Admission :=
  if s.bus.queue.any (fun e => f.replaces e.frame.body) then .replaces
  else if s.bus.txQuiet || s.stc.mode == .conflict then .refused
  else if s.bus.queue.length < 8 then .joins
  else if displaceable s.bus f.cls then .displaces
  else .refused

/-- Put a frame in the place of the waiting frame of its kind; the attempted mark is cleared, and an attempt under way
goes on with the copy it is driving (R166). -/
def replaceFrame (f : Frame) (b : Bus) : Bus :=
  { b with
    queue := b.queue.map fun e =>
      if f.body.replaces e.frame.body then { e with frame := f, attempted := false } else e
    attempt := b.attempt.map fun a =>
      if b.queue.any (fun e => f.body.replaces e.frame.body && e.arrival == a.arrival) then { a with superseded := true }
      else a }

/-- Put a frame at the end of its class as a new entry (R165). -/
def joinFrame (f : Frame) (b : Bus) : Bus :=
  { b with
    queue := insertByClass ⟨f, b.nextArrival, false⟩ b.queue
    nextArrival := b.nextArrival + 1 }

/-- Hand a frame to the queue (R165 to R167). -/
def handFrame (f : Frame) (s : State) : State :=
  match admission s f.body with
  | .replaces => s.modBus (replaceFrame f)
  | .joins => s.modBus (joinFrame f)
  | .displaces => bump .txDropped (s.modBus fun b => joinFrame f { b with queue := b.queue.dropLast })
  | .refused => bump .txDropped s

/-- The Probe Unit withdraws its MARK: the entry is removed and an attempt on it is cut (R168). -/
def withdrawMark (s : State) : State :=
  s.modBus fun b =>
    { b with
      queue := b.queue.filter fun e => !e.frame.body.isMark
      attempt := b.attempt.filter fun a => !a.frame.body.isMark }

/-- Every entry is removed and counted in tx dropped, and an attempt under way is cut (R172, R174). -/
def emptyQueue (s : State) : State :=
  (bumpBy s.bus.queue.length .txDropped s).modBus fun b => { b with queue := [], attempt := none }

/-! ### ALIGN (R70, R71) -/

/-- The sequence number of the next ALIGN (R71). -/
def nextSequence (s : State) : BitVec 8 :=
  if !s.solver.handed then 0
  else if s.bus.queue.any (fun e => e.frame.body.isAlign && !e.attempted) then s.solver.seq
  else s.solver.seq + 1

/-- The ALIGN record composed now (R71). -/
def composeAlign (s : State) : AlignRecord where
  seq := nextSequence s
  solver := s.solver.state
  rank := BitVec.ofNat 4 s.solver.rank
  delay := BitVec.ofNat 24 s.solver.delay
  path := BitVec.ofNat 24 s.solver.path
  flags := alignFlags s
  stateSpare := 0
  flagsSpare := 0
  temperature := if s.air.state = .valid then some (BitVec.ofInt 16 s.ownTemperature) else none

/-- Hand an ALIGN: restart the refresh timer and set the handed mark (R70, R71). -/
def handAlign (s : State) : State :=
  let r := composeAlign s
  (handFrame ⟨s.number, 63, .align r⟩ s).modSolver fun v =>
    { v with
      seq := r.seq
      handed := true
      refresh := some (s.image.elim 0 (·.refresh) * 1000000) }

/-- End an event that began in `old`: in RUN, a change of a published value hands one ALIGN (R70, log 7). -/
def finishEvent (old new : State) : State :=
  if old.stc.mode = .run ∧ new.stc.mode = .run ∧ published old ≠ published new then handAlign new else new

/-- One event: `f`, and the ALIGN that its changes hand. -/
def event (f : State → State) (s : State) : State := finishEvent s (f s)

/-! ### EVAC (R135, R136) -/

/-- Emergency Control may hand an EVAC: mode LOADING, ANNOUNCE, RUN or CONFIG_FAULT, not TX_QUIET, and a number that
receivers accept (R136). -/
def mayHandEvac (s : State) : Bool := s.stc.mode != .conflict && !s.bus.txQuiet && isStation s.number

/-- Hand an EVAC SET or CLEAR, where R136 allows it. -/
def handEvac (set : Bool) (s : State) : State :=
  if mayHandEvac s then handFrame ⟨s.number, 63, .evac set⟩ s else s

/-! ### ROLL (R182) -/

/-- The code of a station mode (R197). -/
def Mode.code : Mode → Nat
  | .loading => 0 | .announce => 1 | .run => 2 | .conflict => 3 | .configFault => 4

/-- The code of a fault reason (R197). -/
def FaultReason.code : FaultReason → Nat
  | .none => 0 | .badStrap => 1 | .noImage => 2 | .badCookie => 3 | .badLength => 4 | .badCrc => 5
  | .fieldRange => 6 | .probeChannel => 7 | .badLimits => 8 | .poolRange => 9 | .selfBinding => 10
  | .duplicateSingle => 11

/-- The ROLL composed now (section 10.4): the fault flag is set in CONFIG_FAULT. -/
def composeRoll (s : State) : RollBody where
  unit := s.stc.unit
  imageId := s.stc.identity.elim 0 (·.1)
  mode := BitVec.ofNat 8 s.stc.mode.code
  faultFlag := s.stc.mode == .configFault
  reason := BitVec.ofNat 4 s.stc.reason.code
  contact := s.ownAlarm

/-- Hand a ROLL: not in LOADING or CONFLICT, and not with a number no receiver accepts (R182). -/
def handRoll (s : State) : State :=
  if s.stc.mode = .loading ∨ s.stc.mode = .conflict ∨ isStation s.number = false then s
  else handFrame ⟨s.number, 63, .roll (composeRoll s)⟩ s

/-- Hand a ROLL unless one waits (R183). -/
def handRollUnlessWaiting (s : State) : State := if rollWaits s then s else handRoll s

end Sys2Proof.Machine
end

