-- ==== Sys2Proof/Machine/PeerTable.lean ====
section
/-! DEFINITION. The Peer Record Table (chapter 1): placing and taking ALIGN records, aging, release, flight results, and
the solve trigger that its events raise (R55, R57). The commands ENTRY_STALE, ENTRY_LOST and POOL_RELEASE. -/

namespace Sys2Proof.Machine

/-- One solve trigger: taken by a delay station in RUN or CONFLICT (R55); it starts the 200 ms settle timer or is
absorbed by the running one (R57). -/
def trigger (s : State) : State :=
  if s.serving ∧ s.stc.kind = some .delay then
    s.modSolver fun v => { v with settle := some (v.settle.getD 200000) }
  else s

/-- The jump limit in µs (R14). -/
def jumpLimit (s : State) : Nat := s.image.elim 0 (·.jumpLimit) * 1000

/-- The stale limit in s. -/
def staleLimit (s : State) : Nat := s.image.elim 0 (·.staleLimit)

/-- The lost limit in s. -/
def lostLimit (s : State) : Nat := s.image.elim 0 (·.lostLimit)

/-! ### Flight data (section 1.4) -/

/-- The effective flight of a history (R13). -/
def effectiveFlight : List Nat → Option Nat
  | [] => none
  | [a] => some a
  | [a, b] => some ((a + b) / 2)
  | a :: b :: c :: _ => some (max (min a b) (min (max a b) c))

/-- Append to a list of at most three values, the oldest leaving first (R14). -/
def pushFlight (l : List Nat) (r : Nat) : List Nat := (if l.length < 3 then l else l.drop 1) ++ [r]

/-- The distance of two flights. -/
def flightDistance (a b : Nat) : Nat := max a b - min a b

/-- Three suspects whose spread is at most the jump limit (R15). -/
def suspectsAgree (limit : Nat) : List Nat → Bool
  | [a, b, c] => max (max a b) c - min (min a b) c ≤ limit
  | _ => false

/-- What a detection does beside the flight data: whether the history changed, and whether by a relocation. -/
structure FlightChange where
  record    : FlightRecord
  changed   : Bool
  relocated : Bool
  deriving DecidableEq, Repr

/-- A detection with reference flight r (R14, R15). -/
def takeDetection (limit r : Nat) (f : FlightRecord) : FlightChange :=
  match effectiveFlight f.history with
  | none => ⟨⟨pushFlight f.history r, f.suspects, 0, false⟩, true, false⟩
  | some e =>
    if flightDistance r e ≤ limit then ⟨⟨pushFlight f.history r, [], 0, false⟩, true, false⟩
    else
      let suspects := pushFlight f.suspects r
      if suspectsAgree limit suspects then ⟨⟨suspects, [], 0, false⟩, true, true⟩
      else ⟨⟨f.history, suspects, 0, false⟩, false, false⟩

/-- A miss (R16): counted up to 255; FLIGHT_STALE is set when the count reaches 4. -/
def takeMiss (f : FlightRecord) : FlightRecord :=
  let misses := min 255 (f.misses + 1)
  { f with misses := misses, stale := f.stale || misses == 4 }

/-- A result of a capture window: a detection with its reference flight, or a miss (R12). -/
inductive FlightResult where
  | detection (flight : Nat)
  | miss
  deriving DecidableEq, Repr

/-- What follows a detection outside its record: the relocations counter and one solve trigger (R14, R15). -/
def afterDetection (c : FlightChange) (s : State) : State :=
  let s := if c.relocated then bump .relocations s else s
  if c.changed then trigger s else s

/-- The entry whose peer is S takes a result; if no entry holds S it is discarded without a count (R12). -/
def takePeerResult (station : Nat) (r : FlightResult) (s : State) : State :=
  match s.holder station with
  | none => s
  | some i =>
    match r with
    | .miss => s.modPeer i fun e => { e with flights := takeMiss e.flights }
    | .detection flight =>
      let c := takeDetection (jumpLimit s) flight s.peers[i].flights
      afterDetection c (s.modPeer i fun e => { e with flights := c.record })

/-- The self record takes a result (R17). -/
def takeSelfResult (r : FlightResult) (s : State) : State :=
  match r with
  | .miss => s.modSelf takeMiss
  | .detection flight =>
    let c := takeDetection (jumpLimit s) flight s.selfRec
    afterDetection c (s.modSelf fun _ => c.record)

/-! ### Taking records (section 1.2) -/

/-- The table takes records in ANNOUNCE, RUN and CONFLICT (R3). -/
def tableOpen (s : State) : Bool := s.stc.mode == .announce || s.serving

/-- A POOL entry without adoption whose range contains S. -/
def PeerEntry.freeFor (e : PeerEntry) (station : Nat) : Bool :=
  match e.binding with
  | .pool lo hi => decide (lo ≤ station ∧ station ≤ hi) && e.peer.isNone
  | _ => false

/-- The entry is a POOL entry. -/
def Binding.isPool : Binding → Bool
  | .pool .. => true
  | _ => false

/-- The entry that takes a record of S (R3, steps 1 to 3): a SINGLE(S) entry, else the POOL entry that has adopted S,
else the first free POOL entry for S, which never adopts this station's own number (R4). -/
def placeRecord (s : State) (station : Nat) : Option (Fin 16) :=
  let find (p : PeerEntry → Bool) := (List.finRange 16).find? fun i => p s.peers[i]
  (find fun e => e.binding == .single station).or <|
    (find fun e => e.binding.isPool && e.peer == some station).or <|
      if station = s.number then none else find fun e => e.freeFor station

/-- A new record replaces the one held (R6, steps 2 to 5); at an origin station the unread mark stays clear. -/
def storeRecord (origin : Bool) (station : Nat) (r : AlignRecord) (e : PeerEntry) : PeerEntry :=
  { e with
    peer := some station
    record := some r
    age := some 0
    state := .fresh
    unread := if origin then e.unread else true }

/-- The new record does not follow the one held (R6, step 1). -/
def recordGap (e : PeerEntry) (r : AlignRecord) : Bool :=
  match e.record with
  | some old => r.seq != old.seq + 1
  | none => false

/-- The record repeats the sequence number of the one held (R5). -/
def isDuplicateRecord (e : PeerEntry) (r : AlignRecord) : Bool :=
  match e.record with
  | some old => r.seq == old.seq
  | none => false

/-- An entry takes a record: a duplicate sets the age to 0 (R5); a new record is stored, with its gap and overrun
counted and one trigger raised (R6). A POOL entry without adoption adopts the source in the same event (R4). -/
def takeRecord (i : Fin 16) (station : Nat) (r : AlignRecord) (s : State) : State :=
  let e := s.peers[i]
  if isDuplicateRecord e r then s.modPeer i fun e => { e with age := some 0 }
  else
    let origin := s.stc.kind == some .origin
    let s := if recordGap e r then bump .recordGap s else s
    let s := if !origin && e.unread then bump .recordOverrun s else s
    trigger (s.modPeer i (storeRecord origin station r))

/-- An ALIGN record of S reaches the table (R3). -/
def tableTakesAlign (station : Nat) (r : AlignRecord) (s : State) : State :=
  if !tableOpen s then s else
  match placeRecord s station with
  | some i => takeRecord i station r s
  | none => bump .unmatchedAlign s

/-! ### Aging, loss and release (section 1.3) -/

/-- An open window of the released station delivers nothing at its close (R10, R43). -/
def Slot.discardFor (station : Nat) : Slot → Slot
  | .opened w => if w.owner = station then .opened { w with discard := true } else .opened w
  | slot => slot

/-- A FRESH entry's age reaches the stale limit (R8). -/
def becomeStale (i : Fin 16) (s : State) : State :=
  trigger (s.modPeer i fun e => { e with state := .stale, age := some (staleLimit s) })

/-- A SINGLE entry's age reaches the lost limit: its flights and its last MARK timestamp are kept (R9). -/
def becomeLost (i : Fin 16) (s : State) : State :=
  trigger (s.modPeer i fun e =>
    { e with state := .lost, record := none, unread := false, age := some (lostLimit s) })

/-- A POOL entry's age reaches the lost limit: it is released, and the Probe Unit is told (R10). -/
def releasePool (i : Fin 16) (s : State) : State :=
  let s' := match s.peers[i].peer with
    | some station => s.modProbe fun p => { p with slots := mapVector (Slot.discardFor station) p.slots }
    | none => s
  trigger (s'.modPeer i fun e => PeerEntry.blank e.binding none)

/-- A STALE entry's age reaches the lost limit (R9, R10). -/
def loseEntry (i : Fin 16) (s : State) : State :=
  match s.peers[i].binding with
  | .single _ => becomeLost i s
  | .pool .. => releasePool i s
  | .unused => s

/-- The one-second tick at one entry (R8): a FRESH or STALE entry's age goes up by 1, and the limits are tested. -/
def ageEntry (i : Fin 16) (s : State) : State :=
  let e := s.peers[i]
  match e.state, e.age with
  | .fresh, some a =>
    let s := s.modPeer i fun e => { e with age := some (a + 1) }
    if a + 1 = staleLimit s then becomeStale i s else s
  | .stale, some a =>
    let s := s.modPeer i fun e => { e with age := some (a + 1) }
    if a + 1 = lostLimit s then loseEntry i s else s
  | _, _ => s

/-- The one-second tick at every entry (R8). -/
def ageEntries (s : State) : State := (List.finRange 16).foldl (fun s i => ageEntry i s) s

/-- ENTRY_STALE (R8): the age of a FRESH entry reaches the stale limit. -/
def execEntryStale (i : Fin 16) (s : State) : Host.Outcome State Fault Refusal :=
  .next (event (fun s => if s.peers[i].state = .fresh then becomeStale i s else s) s)

/-- ENTRY_LOST (R9): the age of a STALE SINGLE entry reaches the lost limit. -/
def execEntryLost (i : Fin 16) (s : State) : Host.Outcome State Fault Refusal :=
  .next (event (fun s =>
    if s.peers[i].state = .stale ∧ s.peers[i].binding.singleStation.isSome then becomeLost i s else s) s)

/-- POOL_RELEASE (R10): the age of a STALE POOL entry reaches the lost limit. -/
def execPoolRelease (i : Fin 16) (s : State) : Host.Outcome State Fault Refusal :=
  .next (event (fun s =>
    if s.peers[i].state = .stale ∧ s.peers[i].binding.isPool then releasePool i s else s) s)

end Sys2Proof.Machine
end

