-- ==== Sys2Proof/Machine/Delay.lean ====
section
/-! DEFINITION. The Delay Engine (chapter 4): channel targets, jumps and slews. The command SLEW_COMPLETE. -/

namespace Sys2Proof.Machine

/-- A channel takes a new target: by a jump in a silent state (R78), by a slew in a sounding one (R79). A target equal
to the present one is not new (R76). -/
def Channel.takeTarget (t : Nat) (ch : Channel) : Channel :=
  if t = ch.target then ch
  else if ch.power.sounding then
    { ch with
      target := t
      slew := if ch.applied = t * 4096 then .settled else if ch.applied < t * 4096 then .up else .down }
  else { ch with target := t, applied := t * 4096, slew := .settled, jumps := satInc ch.jumps }

/-- Entering a jump state completes a slew by a jump (R81). -/
def Channel.completeSlew (ch : Channel) : Channel :=
  if ch.slew = .settled then ch
  else { ch with applied := ch.target * 4096, slew := .settled, jumps := satInc ch.jumps }

/-- One slew step of 1/N sample toward the target; the step that reaches it makes the channel SETTLED (R80). -/
def Channel.slewOnce (step : Nat) (ch : Channel) : Channel :=
  match ch.slew with
  | .settled => ch
  | .up =>
    let a := min (ch.applied + step) (ch.target * 4096)
    { ch with applied := a, slew := if a = ch.target * 4096 then .settled else .up }
  | .down =>
    let a := max (ch.applied - step) (ch.target * 4096)
    { ch with applied := a, slew := if a = ch.target * 4096 then .settled else .down }

/-- The next slew step lands on the target (R80). -/
def Channel.nearTarget (step : Nat) (ch : Channel) : Bool :=
  ch.slew != .settled && flightDistance ch.applied (ch.target * 4096) ≤ step

/-- D converted to whole samples, halves rounded up (R75). -/
def zoneSamples (delay : Nat) : Nat := (delay * 48 + 500) / 1000

/-- The target formed for a channel: 0 in CONFIG_FAULT (R75, R83). -/
def formedTarget (s : State) (c : Fin 4) : Nat :=
  if s.stc.mode = .configFault then 0 else zoneSamples s.solver.delay + s.trim c

/-- The four targets are formed anew, and each channel takes its own (R76). -/
def formTargets (s : State) : State := forChannels (fun c s => s.modChannel c (·.takeTarget (formedTarget s c))) s

/-- SLEW_COMPLETE (R80): the slew step of a channel that lands on its target. -/
def execSlewComplete (c : Fin 4) (s : State) : Host.Outcome State Fault Refusal :=
  .next (event (fun s =>
    if s.channels[c].nearTarget s.slewStep then s.modChannel c (·.slewOnce s.slewStep) else s) s)

end Sys2Proof.Machine
end

