-- ==== Sys2Proof/Machine/Equaliser.lean ====
section
/-! DEFINITION. The Channel Equaliser and Gain block (chapter 5): requests, crossfades and the pending slot, gain ramps,
the chain of six stages, the bands and the station air shelf. The commands CROSSFADE_END and RAMP_END. -/

namespace Sys2Proof.Machine

/-! ### Requests and crossfades (section 5.4) -/

/-- A request for a wanted setting (R95, R97): into the pending slot during a crossfade, else nothing, at once, or a new
crossfade, whose second copy starts silent (R96). A setting taken at once finds the stage memories as they are (log 36). -/
def Channel.request (w : Setting) (ch : Channel) : Channel :=
  match ch.crossfade with
  | .running .. => { ch with waiting := some w }
  | .idle =>
    if w = ch.active then ch
    else if ch.power.sounding then
      { ch with crossfade := .running ch.active w 0, nextStages := StageMemories.silent }
    else { ch with active := w }

/-- The end of a crossfade (R98): the to-setting becomes active with its copy, the from-copy is discarded, and a pending
setting is taken as a request. -/
def Channel.endCrossfade (ch : Channel) : Channel :=
  match ch.crossfade with
  | .idle => ch
  | .running _ dst _ =>
    let done : Channel :=
      { ch with
        active := dst
        crossfade := .idle
        waiting := none
        stages := ch.nextStages
        nextStages := StageMemories.silent }
    match ch.waiting with
    | some w => done.request w
    | none => done

/-- Entry into a silent state completes a crossfade at the wanted setting, in its second copy (R99, log 36). -/
def Channel.completeCrossfade (ch : Channel) : Channel :=
  match ch.crossfade with
  | .idle => ch
  | .running _ dst _ =>
    { ch with
      active := ch.waiting.getD dst
      crossfade := .idle
      waiting := none
      stages := ch.nextStages
      nextStages := StageMemories.silent }

/-! ### Gain (section 5.5) -/

/-- A gain code in dB: −80.0 dB, and 0.5 dB more for each step (R197). -/
noncomputable def gainDecibels (code : Nat) : ℝ := code / 2 - 80

/-- The amplitude factor of a gain target: 10 raised to the gain in dB divided by 20, and 0 for silence (R101). -/
noncomputable def GainTarget.amplitude : GainTarget → ℝ
  | .silence => 0
  | .gain code => 10 ^ (gainDecibels code / 20)

/-- The value of an applied gain factor: at a point of a ramp it is start + (target − start) × num / 960 (R102). -/
noncomputable def Factor.amplitude : Factor → ℝ
  | .of target => target.amplitude
  | .ramp start target num => start.amplitude + (target.amplitude - start.amplitude) * (num / 960)

/-- A gain target set anew (R101, R102): nothing when it is the present one, a ramp from the factor reached in a
sounding state, the target's factor at once in a silent one. -/
def Channel.retarget (g : GainTarget) (ch : Channel) : Channel :=
  if g = ch.gainTarget then ch
  else if ch.power.sounding then { ch with gainTarget := g, ramp := .running ch.factor 0 }
  else { ch with gainTarget := g, factor := .of g, ramp := .idle }

/-- A ramp reaches its target factor (R102). -/
def Channel.completeRamp (ch : Channel) : Channel :=
  match ch.ramp with
  | .idle => ch
  | .running .. => { ch with factor := .of ch.gainTarget, ramp := .idle }

/-- A request reaches a channel (R94). -/
def requestChannel (c : Fin 4) (s : State) : State := s.modChannel c (·.request (wantedSetting s c))

/-- A request reaches every channel. -/
def requestAll (s : State) : State := forChannels requestChannel s

/-- A channel's gain target is set anew (R101). -/
def retargetChannel (c : Fin 4) (s : State) : State := s.modChannel c (·.retarget (wantedGain s c))

/-! ### The chain (R87, R88, R96) -/

/-- What a static stage does: BYPASS passes its input unchanged (R88). -/
def stageFilter : Stage → Filter
  | .bypass => .pass
  | stage => .static stage

/-- What the air-shelf stage does: a flat shelf passes its input unchanged (R88). -/
def shelfFilter : Option Shelf → Filter
  | none => .pass
  | some shelf => .shelf shelf

/-- A preset of a channel: the five static stages of the installed image (R88). -/
def presetStages (s : State) (c : Fin 4) (preset : Nat) : List Stage :=
  (s.image.elim [] (·.channels[c].presets)).getD preset []

/-- What stage k of a copy does at a setting: stages 0..4 are the preset's, stage 5 is the air shelf, and FLAT bypasses all
six (R87, section 5.2). -/
def settingFilter (s : State) (c : Fin 4) (w : Setting) (k : Nat) : Filter :=
  match w with
  | .flat => .pass
  | .eq preset shelf => if k = 5 then shelfFilter shelf else stageFilter ((presetStages s c preset).getD k .bypass)

/-- The output of a stage; one that passes its input gives it unchanged whatever it remembers (R88). -/
def filterOutput (f : Filter) (memory : List Int) (x : Int) : Int :=
  match f with
  | .pass => x
  | f => Config.filtered f memory x

/-- What stage k of a copy remembers. -/
def StageMemories.stage (m : StageMemories) (k : Nat) : List Int := m.toList.getD k []

/-- What reaches stage k of a copy: the sample, then the output of each stage before it in order (R87). -/
def stageInput (f : Nat → Filter) (m : StageMemories) (x : Int) : Nat → Int
  | 0 => x
  | k + 1 => filterOutput (f k) (m.stage k) (stageInput f m x k)

/-- The output of a copy of the six stages. -/
def copyOutput (f : Nat → Filter) (m : StageMemories) (x : Int) : Int := stageInput f m x 6

/-- The memories of a copy after a sample. -/
def copyMemories (f : Nat → Filter) (m : StageMemories) (x : Int) : StageMemories :=
  tabulate 6 fun k => Config.remembered (f k) (m.stage k) (stageInput f m x k) (stageInput f m x (k + 1))

/-- The blend of two copies' outputs at position k of a crossfade, in 1/2,400: the from-copy's weighted by 2,400 − k, the
to-copy's by k (R96). -/
def blend (src dst : Int) (k : Nat) : Int := src * (2400 - k) + dst * k

/-- A channel's chain processes one sample, in every power state (R87): one copy at the active setting, or both copies of a
crossfade, whose outputs are blended at its position (R96). -/
def equalise (s : State) (c : Fin 4) (x : Int) (ch : Channel) : Channel :=
  match ch.crossfade with
  | .idle =>
    let f := settingFilter s c ch.active
    { ch with
      chain := ⟨x, 2400 * copyOutput f ch.stages x, ch.factor⟩
      stages := copyMemories f ch.stages x }
  | .running src dst k =>
    let f := settingFilter s c src
    let g := settingFilter s c dst
    { ch with
      chain := ⟨x, blend (copyOutput f ch.stages x) (copyOutput g ch.nextStages x) k, ch.factor⟩
      stages := copyMemories f ch.stages x
      nextStages := copyMemories g ch.nextStages x }

/-! ### Bands and the air shelf (section 5.3) -/

/-- The plain path band of a path time in µs (R90). -/
def plainPathBand (path : Nat) : Nat := min 7 (path / 100000)

/-- A path band is kept within 5 ms of its span (R90). -/
def keepsPathBand (b path : Nat) : Bool :=
  (b == 0 || 100000 * b ≤ path + 5000) && (b == 7 || path ≤ 100000 * (b + 1) + 5000)

/-- The plain humidity band (R91). -/
def plainHumidityBand (h : Nat) : Nat := if h < 30 then 0 else if h < 50 then 1 else if h < 70 then 2 else 3

/-- A humidity band is kept within 2 % of its edges, which stand at 30, 50 and 70 % (R91). -/
def keepsHumidityBand (b h : Nat) : Bool :=
  (b == 0 || 10 + 20 * b ≤ h + 2) && (b == 3 || h ≤ 30 + 20 * b + 2)

/-- A cell of the absorption table. -/
def absorptionCell (rows : List (List (Option Shelf))) (p h : Nat) : Option Shelf := (rows.getD p []).getD h none

/-- The first cell that holds a shelf, from row p down to row 0 of column h (R92). -/
def findCell (rows : List (List (Option Shelf))) (h : Nat) : Nat → Option (Shelf × Nat)
  | 0 => (absorptionCell rows 0 h).map fun sh => (sh, 0)
  | p + 1 =>
    match absorptionCell rows (p + 1) h with
    | some sh => some (sh, p + 1)
    | none => findCell rows h p

/-- The shelf and its cell for the present bands (R92); none before installation. -/
def lookupShelf (s : State) : Option (Shelf × Nat × Nat) :=
  match s.image, s.eq.pathBand, s.eq.humidityBand with
  | some img, some p, some h => (findCell img.absorption h p).map fun (sh, row) => (sh, row, h)
  | _, _, _ => none

/-- The station air shelf is looked up anew; a new shelf makes a request of every channel (R93). -/
def refreshShelf (s : State) : State :=
  let found := lookupShelf s
  let shelf := found.map (·.1)
  if shelf = s.eq.shelf then s
  else requestAll (s.modEq fun e => { e with shelf := shelf, cell := found.map (·.2) })

/-- The path band is tested against a path time handed over (R90, R93). -/
def testPathBand (path : Nat) (s : State) : State :=
  match s.eq.pathBand with
  | none => s
  | some b =>
    if keepsPathBand b path then s
    else refreshShelf (s.modEq fun e => { e with pathBand := some (plainPathBand path) })

/-- The humidity band takes a value (R91, R93). -/
def setHumidityBand (b : Nat) (s : State) : State :=
  if s.eq.humidityBand = some b then s else refreshShelf (s.modEq fun e => { e with humidityBand := some b })

/-- The humidity band is tested against a humidity (R91). -/
def testHumidityBand (h : Nat) (s : State) : State :=
  match s.eq.humidityBand with
  | none => s
  | some b => if keepsHumidityBand b h then s else setHumidityBand (plainHumidityBand h) s

/-- CROSSFADE_END (R98): the last sample of a running crossfade has been blended. -/
def execCrossfadeEnd (c : Fin 4) (s : State) : Host.Outcome State Fault Refusal :=
  .next (event (fun s => s.modChannel c Channel.endCrossfade) s)

/-- RAMP_END (R102): a running ramp reaches its target factor. -/
def execRampEnd (c : Fin 4) (s : State) : Host.Outcome State Fault Refusal :=
  .next (event (fun s => s.modChannel c Channel.completeRamp) s)

end Sys2Proof.Machine
end

