-- ==== Sys2Proof/Machine/ProbeRound.lean ====
section
/-! DEFINITION. The probe round of the Probe Unit (sections 2.3, 2.4): entering MARKING, aborting, cancelling windows,
and following the probe channel's power state. -/

namespace Sys2Proof.Machine

/-- A reservation becomes FREE (R30); other slots stay. -/
def Slot.freeReserved : Slot → Slot
  | .reserved _ => .free
  | slot => slot

/-- An open window whose owner satisfies `p` is closed without a result. -/
def Slot.cancel (p : Nat → Bool) : Slot → Slot
  | .opened w => if p w.owner then .free else .opened w
  | slot => slot

/-- An open window whose owner satisfies `p`. -/
def Slot.openFor (p : Nat → Bool) : Slot → Bool
  | .opened w => p w.owner
  | _ => false

/-- Close every open window whose owner satisfies `p` without a result, each counted in captures cancelled (R31, R32,
R44). -/
def cancelWindows (p : Nat → Bool) (s : State) : State :=
  bumpBy (s.probe.slots.toList.filter (·.openFor p)).length .capturesCancelled
    (s.modProbe fun u => { u with slots := mapVector (Slot.cancel p) u.slots })

/-- Close the self window without a result (R31, R32). -/
def cancelSelfWindow (s : State) : State := cancelWindows (· == s.number) s

/-- Abort the round (R30); on CONFLICT entry the probe timer stays stopped (R32). -/
def abortRound (conflict : Bool) (s : State) : State :=
  bump .probeAborts ((withdrawMark s).modProbe fun u =>
    { u with
      round := .idle
      deadline := none
      startsAt := none
      started := false
      lag := 0
      position := 0
      timer := if conflict then none else some 5000000
      slots := mapVector Slot.freeReserved u.slots })

/-- Enter MARKING: queue one MARK and start its 50 ms deadline (R26). -/
def enterMarking (s : State) : State :=
  handFrame ⟨s.number, 63, .mark⟩ (s.modProbe fun u => { u with round := .marking, deadline := some 50000 })

/-- The round follows a change of the probe channel's power state (R25, R31). -/
def probeFollows (p : Power) (s : State) : State :=
  match s.probe.round with
  | .idle => s
  | .waking =>
    match p with
    | .active | .watch => enterMarking s
    | .fault | .forcedOff => abortRound false s
    | .standby | .waking => s
  | .marking => if p.gateOpen then s else abortRound false s
  | .emitting => if p.gateOpen then s else cancelSelfWindow (abortRound false s)

end Sys2Proof.Machine
end

