-- ==== Sys2Proof/Machine/Power.lean ====
section
/-! DEFINITION. Channel Power Control (chapter 6): the change of a power state with everything it carries, effective
silence, SLEEP and WAKE, release at RUN entry, EMERGENCY, and the amplifier lines. The commands of the family. -/

namespace Sys2Proof.Machine

/-! ### The change of a power state -/

/-- The enable line of a power state (R111). -/
def Power.enabled : Power → Bool
  | .active | .watch | .waking => true
  | .standby | .forcedOff | .fault => false

/-- What a channel completes on entering a silent state from a sounding one: slew (R81), crossfade (R99), ramp (R102). -/
def Channel.silenced (ch : Channel) : Channel := ch.completeSlew.completeCrossfade.completeRamp

/-- A channel's own part of a change of power state (R111): enable, timers, gate fade and fault cause take the values
of the new state, the wake-loss mark is cleared on leaving WAKING (R122, log 42), and a silent state completes what runs. -/
def Channel.toPower (p : Power) (cause : Option FaultCause) (standbyDelay wakeLimit : Nat) (ch : Channel) : Channel :=
  let ch' := if ch.power.sounding && !p.sounding then ch.silenced else ch
  { ch' with
    power := p
    cause := if p = .fault then cause else none
    enable := p.enabled
    silence := if p = .watch then some standbyDelay else none
    wake := if p = .waking then some wakeLimit else none
    fade := if p.gateOpen then (if ch.power = .waking then some 0 else ch.fade) else none
    wakeLoss := if ch.power = .waking then false else ch.wakeLoss }

/-- A channel changes its power state, and the change is handed to the blocks that read it (R111, R122, R123). Leaving
WAKING with the wake-loss mark counts one wake loss whichever state follows: R122 names ACTIVE, FAULT and FORCED_OFF, and that
the way to STANDBY at EMERGENCY exit in CONFIG_FAULT (R120) counts too is log 42, the model's choice. -/
def setPower (c : Fin 4) (p : Power) (cause : Option FaultCause) (s : State) : State :=
  if s.channels[c].power = p then s
  else
    let lost := s.channels[c].power == .waking && s.channels[c].wakeLoss
    let s1 := s.modChannel c (·.toPower p cause (s.standbyDelay * 1000000) (s.wakeLimit c * 1000))
    let s2 := if lost then bump .wakeLosses s1 else s1
    if s.probeChannel = some c then probeFollows p s2 else s2

/-- Enter ACTIVE, and go on to WATCH at once if R112 asks for it. -/
def enterActive (c : Fin 4) (s : State) : State :=
  let s := setPower c .active none s
  if wantsWatch s c then setPower c .watch none s else s

/-- Enter WAKING; a ready line already asserted takes the channel on to ACTIVE (R114). -/
def enterWaking (c : Fin 4) (s : State) : State :=
  let s := setPower c .waking none s
  if s.channels[c].ready then enterActive c s else s

/-- Enter STANDBY; in RUN or CONFLICT a channel not in effective silence goes on to WAKING (R113). -/
def enterStandby (c : Fin 4) (s : State) : State :=
  let s := setPower c .standby none s
  if s.serving && !effectiveSilence s c then enterWaking c s else s

/-- A channel acts on the beginning or the end of its effective silence (R110, R112, R113). -/
def actOnSilence (c : Fin 4) (s : State) : State :=
  if !s.serving then s else
  match s.channels[c].power with
  | .watch => if effectiveSilence s c then s else setPower c .active none s
  | .standby => if effectiveSilence s c then s else enterWaking c s
  | .active => if wantsWatch s c then setPower c .watch none s else s
  | .waking | .forcedOff | .fault => s

/-- The gain target is set anew, and Channel Power Control takes the change of the muted condition (R101, R103). -/
def retargetAndAct (c : Fin 4) (s : State) : State := actOnSilence c (retargetChannel c s)

/-- The programme judgement takes a value; a change is offered to every channel (R109, R110). -/
def setJudgement (present : Bool) (s : State) : State :=
  if s.level.present = present then s
  else forChannels actOnSilence (s.modLevel fun l => { l with present := present })

/-! ### SLEEP and WAKE (section 6.4) -/

/-- SLEEP at one channel (R116). -/
def sleepChannel (c : Fin 4) (s : State) : State :=
  let s := s.modChannel c fun ch => { ch with forcedOff := true }
  match s.channels[c].power with
  | .active | .watch | .standby | .waking => setPower c .forcedOff none s
  | .forcedOff | .fault => s

/-- WAKE at one channel (R117). -/
def wakeChannel (c : Fin 4) (s : State) : State :=
  let s := s.modChannel c fun ch => { ch with forcedOff := false }
  match s.channels[c].power with
  | .forcedOff => if s.autoStandby c then enterStandby c s else enterWaking c s
  | .fault => if s.channels[c].faultLine then s else enterWaking c s
  | .active | .watch | .standby | .waking => s

/-! ### Station modes and EMERGENCY (section 6.5) -/

/-- A channel is released at RUN entry (R118). -/
def releaseChannel (c : Fin 4) (s : State) : State :=
  if s.inEmergency then enterWaking c s
  else if !s.autoStandby c then enterWaking c s
  else if !effectiveSilence s c then enterWaking c s
  else s

/-- A channel takes EMERGENCY entry in RUN or CONFLICT (R119). -/
def emergencyChannel (c : Fin 4) (s : State) : State :=
  match s.channels[c].power with
  | .standby | .forcedOff | .fault => enterWaking c s
  | .watch => setPower c .active none s
  | .active | .waking => s

/-- A channel takes EMERGENCY exit in RUN or CONFLICT (R119). -/
def exitChannel (c : Fin 4) (s : State) : State :=
  if s.channels[c].forcedOff && s.channels[c].power.sounding then setPower c .forcedOff none s
  else actOnSilence c s

/-- Channel Power Control takes EMERGENCY entry (R118 to R120). -/
def powerEmergencyEntry (s : State) : State :=
  if s.serving then forChannels emergencyChannel s
  else if s.stc.mode = .configFault then forChannels enterWaking s
  else s

/-- Channel Power Control takes EMERGENCY exit (R119, R120). -/
def powerEmergencyExit (s : State) : State :=
  if s.serving then forChannels exitChannel s
  else if s.stc.mode = .configFault then forChannels (fun c s => setPower c .standby none s) s
  else s

/-! ### The commands -/

/-- PROGRAMME_JUDGEMENT_CHANGE (R110). -/
def execProgrammeJudgementChange (present : Bool) (s : State) : Host.Outcome State Fault Refusal :=
  .next (event (setJudgement present) s)

/-- SILENCE_TIMER_EXPIRY (R112): a WATCH channel goes to STANDBY. -/
def execSilenceTimerExpiry (c : Fin 4) (s : State) : Host.Outcome State Fault Refusal :=
  .next (event (fun s => if s.channels[c].power = .watch then enterStandby c s else s) s)

/-- READY_ASSERTED (R114): a WAKING channel becomes ACTIVE. -/
def execReadyAsserted (c : Fin 4) (s : State) : Host.Outcome State Fault Refusal :=
  .next (event (fun s =>
    let s := s.modChannel c fun ch => { ch with ready := true }
    if s.channels[c].power = .waking then enterActive c s else s) s)

/-- READY_LOST (R115): an ACTIVE or WATCH channel goes to FAULT when the line changes from asserted to released. -/
def execReadyLost (c : Fin 4) (s : State) : Host.Outcome State Fault Refusal :=
  .next (event (fun s =>
    if s.channels[c].ready then
      let s := s.modChannel c fun ch => { ch with ready := false }
      if s.channels[c].power.gateOpen then setPower c .fault (some .readyLost) s else s
    else s) s)

/-- FAULT_LINE_ASSERTED (R114, R115): a WAKING, ACTIVE or WATCH channel goes to FAULT when the line changes from
released to asserted. -/
def execFaultLineAsserted (c : Fin 4) (s : State) : Host.Outcome State Fault Refusal :=
  .next (event (fun s =>
    if s.channels[c].faultLine then s
    else
      let s := s.modChannel c fun ch => { ch with faultLine := true }
      if s.channels[c].power.sounding then setPower c .fault (some .line) s else s) s)

/-- FAULT_LINE_RELEASED (R115): a FAULT channel is retried, or goes to FORCED_OFF if its flag is set, unless the station
is in EMERGENCY in RUN or CONFLICT. -/
def execFaultLineReleased (c : Fin 4) (s : State) : Host.Outcome State Fault Refusal :=
  .next (event (fun s =>
    if s.channels[c].faultLine then
      let s := s.modChannel c fun ch => { ch with faultLine := false }
      if s.channels[c].power = .fault then
        if s.channels[c].forcedOff && !(s.inEmergency && s.serving) then setPower c .forcedOff none s
        else enterWaking c s
      else s
    else s) s)

/-- WAKE_TIMER_EXPIRY (R114): the wake limit passes without ready. -/
def execWakeTimerExpiry (c : Fin 4) (s : State) : Host.Outcome State Fault Refusal :=
  .next (event (fun s =>
    if s.channels[c].power = .waking then setPower c .fault (some .timeout) s else s) s)

/-- GATE_FADE_END (R121): the opening fade ends. -/
def execGateFadeEnd (c : Fin 4) (s : State) : Host.Outcome State Fault Refusal :=
  .next (event (fun s => s.modChannel c fun ch => { ch with fade := none }) s)

/-- LOST_SAMPLE (R122): a present sample of an unmuted channel is gated to silence during WAKING. -/
def execLostSample (c : Fin 4) (s : State) : Host.Outcome State Fault Refusal :=
  .next (event (fun s =>
    if s.channels[c].power = .waking ∧ s.channels[c].muted = false then
      s.modChannel c fun ch => { ch with wakeLoss := true }
    else s) s)

end Sys2Proof.Machine
end

