-- ==== Sys2Proof/Machine/Solver.lean ====
section
/-! DEFINITION. The Alignment Solver (sections 3.2 to 3.8): freezing, the solve pass, the hold timer, the set-up at RUN
entry. The commands SETTLE_EXPIRY, HOLD_TIMER_EXPIRY and REFRESH_TIMER_EXPIRY. -/

namespace Sys2Proof.Machine

/-! ### Hand-overs (R68) -/

/-- D takes a value; a change is handed to the Delay Engine in the same event (R68, R76). -/
def setDelayTarget (d : Nat) (s : State) : State :=
  if d = s.solver.delay then s else formTargets (s.modSolver fun v => { v with delay := d })

/-- The path time takes a value; a change is handed to the path band in the same event (R68, R90). -/
def setPathTime (p : Nat) (s : State) : State :=
  if p = s.solver.path then s else testPathBand p (s.modSolver fun v => { v with path := p })

/-! ### Freezing (section 3.4) -/

/-- While frozen a running hold timer is suspended, and it resumes when the solver stops being frozen (R59). -/
def HoldTimer.follow (frozen : Bool) : HoldTimer → HoldTimer
  | .running left => if frozen then .suspended left else .running left
  | .suspended left => if frozen then .suspended left else .running left
  | .stopped => .stopped

/-- Change the freeze flags; the hold timer follows (R58, R59). -/
def setFreeze (cue emergency : Bool) (s : State) : State :=
  s.modSolver fun v =>
    { v with cueFreeze := cue, emergencyFreeze := emergency, hold := v.hold.follow (cue || emergency) }

/-! ### Flights at the temperature of the moment (R42, R61) -/

/-- The speed of sound c(T) = 331.3 + 0.606 × T m/s in 0.0001 m/s, for T in 0.1 °C (R42). -/
def soundSpeed (t : Int) : Int := 3313000 + 606 * t

/-- The speed of sound at the reference temperature: 343.42 m/s. -/
def referenceSpeed : Int := 3434200

/-- The mean of two temperatures rounded to 0.1 °C, halves up (R42). -/
def meanTemperature (a b : Int) : Int := (a + b + 1) / 2

/-- The path temperature of an entry (R42, R61): the mean of its record's temperature and the own, or the own alone. -/
def pathTemperature (own : Int) (record : Option AlignRecord) : Int :=
  match record.bind (·.temperature) with
  | some t => meanTemperature t.toInt own
  | none => own

/-- F_now = F_ref × 343.42 / c(T) (R61). -/
def presentFlight (ref : Nat) (t : Int) : Int := roundHalfUp (ref * referenceSpeed) (soundSpeed t)

/-- F_ref = F_meas × c(T) / 343.42 (R42). -/
def referenceFlight (measured : Nat) (t : Int) : Int := roundHalfUp (measured * soundSpeed t) referenceSpeed

/-! ### The solve pass (section 3.5) -/

/-- What an entry offers in a pass: C before its clamp (R62), and the rank and path time it would give (R63). -/
structure Candidate where
  entry : Fin 16
  sum   : Int
  rank  : Nat
  path  : Int
  deriving DecidableEq, Repr

/-- The candidate value C (R62). -/
def Candidate.value (c : Candidate) : Nat := c.sum.toNat

/-- The entry's own conditions for a candidate (R60, 1 and 2), with the record they give. -/
def usableRecord (e : PeerEntry) : Option AlignRecord :=
  if e.state = .fresh ∨ e.state = .stale then
    e.record.filter fun r => r.solver != .fallback && decide (r.rank.toNat ≤ 13)
  else none

/-- The candidate of an entry, where it yields one (R60 to R62). -/
def candidateOf (s : State) (i : Fin 16) : Option Candidate :=
  let e := s.peers[i]
  match usableRecord e, effectiveFlight e.flights.history, effectiveFlight s.selfRec.history with
  | some r, some flight, some selfFlight =>
    let now := presentFlight flight (pathTemperature s.ownTemperature (some r))
    let selfNow := presentFlight selfFlight s.ownTemperature
    some
      { entry := i
        sum := r.delay.toNat + now - selfNow + s.precedence
        rank := r.rank.toNat + 1
        path := r.path.toNat + now }
  | _, _, _ => none

/-- All candidates of a pass, in index order. -/
def candidates (s : State) : List Candidate := (List.finRange 16).filterMap (candidateOf s)

/-- The winner: the largest value, the lowest index among equals (R63). -/
def winnerOf : List Candidate → Option Candidate
  | [] => none
  | c :: cs =>
    match winnerOf cs with
    | some d => if c.value < d.value then some d else some c
    | none => some c

/-- The largest zone target delay (R63). -/
def maxDelay : Nat := 1340000

/-- The largest path time (R63). -/
def maxPath : Nat := 16777215

/-- The new target of a pass (R63). -/
def Candidate.target (c : Candidate) : Nat := min c.value maxDelay

/-- The new path time of a pass (R63); a sum below 0 has no stated result (log 18). -/
def Candidate.newPath (c : Candidate) : Nat :=
  if c.path < 0 then min (Config.pathBelowZero c.path) maxPath else min c.path.toNat maxPath

/-- What every pass does, frozen or not (R7, R57, R59): the unread marks are cleared, and the computed target, the
low-clamp count and the temperature at last solve are set. -/
def computePass (s : State) : State :=
  let cs := candidates s
  let negative := (cs.filter fun c => decide (c.sum < 0)).length
  (s.setPeers (mapVector (fun e => { e with unread := false }) s.peers)).modSolver fun v =>
    { v with
      computed := (winnerOf cs).map Candidate.target
      lowClamps := satIncBy negative v.lowClamps
      lastTemperature := some s.ownTemperature }

/-- D after an applied pass: in ALIGNED it is replaced when it moves by the deadband or more (R64); else always (R65). -/
def passDelay (s : State) (target : Nat) : Nat :=
  if s.solver.state = .aligned ∧ flightDistance target s.solver.delay < s.image.elim 0 (·.deadband) then s.solver.delay
  else target

/-- An applied pass with its winner (R63 to R65). -/
def applyWinner (c : Candidate) (s : State) : State :=
  let d := passDelay s c.target
  setPathTime c.newPath <| setDelayTarget d <| s.modSolver fun v =>
    { v with
      state := .aligned
      winner := some c.entry
      rank := c.rank
      range := decide (maxDelay < c.value)
      hold := if v.state = .aligned then v.hold else .stopped }

/-- An applied pass without a candidate (R66). RANGE is kept with the D it belongs to: R66 does not name it, and R67 clears
it only with the fall to FALLBACK (log 40). -/
def applyNone (s : State) : State :=
  if s.solver.state = .aligned then
    s.modSolver fun v =>
      { v with state := .hold, winner := none, hold := .running (s.image.elim 0 (·.holdLimit) * 1000000) }
  else s

/-- One solve pass: applied if neither freeze flag is set, else computed only (R57, R59). -/
def solvePass (s : State) : State :=
  let winner := winnerOf (candidates s)
  let s := computePass s
  if s.frozen then s
  else
    match winner with
    | some c => applyWinner c s
    | none => applyNone s

/-- The set-up at RUN entry (R52, R53), with its hand-overs and the trigger of a delay station. -/
def solverSetup (s : State) : State :=
  if s.stc.kind = some .origin then
    setPathTime 0 <| setDelayTarget (s.image.elim 0 (·.originDelay)) <| s.modSolver fun v =>
      { v with state := .origin, rank := 0, winner := none }
  else
    let d := s.image.elim 0 (·.fallbackDelay)
    trigger <| setPathTime d <| setDelayTarget d <| s.modSolver fun v =>
      { v with state := .fallback, rank := 15, winner := none, range := false }

/-! ### The commands -/

/-- SETTLE_EXPIRY (R57): the settle timer stops and one solve pass runs. -/
def execSettleExpiry (s : State) : Host.Outcome State Fault Refusal :=
  .next (event (fun s =>
    if s.solver.settle.isSome then solvePass (s.modSolver fun v => { v with settle := none }) else s) s)

/-- The hold limit has passed (R67). -/
def holdExpired (s : State) : State :=
  let d := s.image.elim 0 (·.fallbackDelay)
  setPathTime d <| setDelayTarget d <| s.modSolver fun v =>
    { v with state := .fallback, rank := 15, range := false, hold := .stopped }

/-- The hold timer runs and is not suspended. -/
def HoldTimer.isRunning : HoldTimer → Bool
  | .running _ => true
  | _ => false

/-- HOLD_TIMER_EXPIRY (R67). -/
def execHoldTimerExpiry (s : State) : Host.Outcome State Fault Refusal :=
  .next (event (fun s => if s.solver.hold.isRunning then holdExpired s else s) s)

/-- REFRESH_TIMER_EXPIRY (R70): an ALIGN is handed in RUN. -/
def execRefreshTimerExpiry (s : State) : Host.Outcome State Fault Refusal :=
  .next (if s.stc.mode = .run ∧ s.solver.refresh.isSome then handAlign s else s)

end Sys2Proof.Machine
end

