-- ==== Sys2Proof/Machine/AirData.lean ====
section
/-! DEFINITION. The Air Data Input (section 3.1). The commands SECOND_TICK, AIR_REPLY and AIR_REPLY_TIMEOUT. -/

namespace Sys2Proof.Machine

/-- A change of own temperature is compared with the temperature at last solve: 0.5 °C or more raises a trigger (R56). -/
def temperatureTrigger (s : State) : State :=
  match s.solver.lastTemperature with
  | some t => if 5 ≤ (s.ownTemperature - t).natAbs then trigger s else s
  | none => s

/-- The own temperature takes a value, and a change is offered to the solver (R48, R49, R56). -/
def setTemperature (t : Int) (s : State) : State :=
  if s.air.temperature = t then s else temperatureTrigger (s.modAir fun a => { a with temperature := t })

/-- A sensor reply is good (R47). -/
def SensorReply.good (r : SensorReply) : Bool :=
  r.checkAgrees && decide (-300 ≤ r.temperature ∧ r.temperature ≤ 600) && decide (0 ≤ r.humidity ∧ r.humidity ≤ 100)

/-- A good reply (R48), with its humidity offered to the humidity band: the plain band on the first after LOST, a test
on each later one whose humidity differs (R91). -/
def takeGoodReply (temperature : Int) (humidity : Nat) (s : State) : State :=
  let wasLost := s.air.state == .lost
  let old := s.air.humidity
  let s := s.modAir fun a => { a with state := .valid, humidity := some humidity, misses := 0 }
  let s := setTemperature temperature s
  if wasLost then setHumidityBand (plainHumidityBand humidity) s
  else if old = some humidity then s
  else testHumidityBand humidity s

/-- A miss (R49): the tenth while VALID makes AIR LOST, with the default temperature and the default band (R91). -/
def takeAirMiss (s : State) : State :=
  let misses := min 255 (s.air.misses + 1)
  let s := s.modAir fun a => { a with misses := misses }
  if misses = 10 ∧ s.air.state = .valid then
    let s := s.modAir fun a => { a with state := .lost, humidity := none }
    let s := setTemperature s.defaultTemperature s
    setHumidityBand (s.image.elim 0 (·.defaultBand)) s
  else s

/-- One read request is sent on the air-sensor line in ANNOUNCE, RUN and CONFLICT (R47). -/
def sendAirRequest (s : State) : State :=
  if tableOpen s then s.modAir fun a => { a with request := some 50000 } else s

/-- The outstanding request is judged; without one a reply or a limit is not heeded (R47). -/
def judgeRequest (f : State → State) (s : State) : State :=
  if s.air.request.isSome then f (s.modAir fun a => { a with request := none }) else s

/-- SECOND_TICK (R8, R47): the entries age, and one read request is sent. -/
def execSecondTick (s : State) : Host.Outcome State Fault Refusal :=
  .next (event (fun s => sendAirRequest (ageEntries s)) s)

/-- AIR_REPLY (R48): a good reply is taken; any other is a miss. -/
def execAirReply (r : SensorReply) (s : State) : Host.Outcome State Fault Refusal :=
  .next (event (judgeRequest fun s =>
    if SensorReply.good r then takeGoodReply r.temperature r.humidity.toNat s else takeAirMiss s) s)

/-- AIR_REPLY_TIMEOUT (R49): no complete reply within 50 ms is a miss. -/
def execAirReplyTimeout (s : State) : Host.Outcome State Fault Refusal :=
  .next (event (judgeRequest takeAirMiss) s)

end Sys2Proof.Machine
end

