-- ==== Sys2Proof/Machine/Probing.lean ====
section
/-! DEFINITION. The Probe Unit as prober and listener (chapter 2): start attempts, the emission, capture windows and
their results. The commands PROBE_TIMER_EXPIRY, MARK_DEADLINE_EXPIRY, EMISSION_START, EMISSION_END, WINDOW_CLOSE and
CORRELATOR_PEAK. -/

namespace Sys2Proof.Machine

/-! ### Starting a round (section 2.2) -/

/-- The slot is FREE. -/
def Slot.isFree : Slot → Bool
  | .free => true
  | _ => false

/-- The owner of a reservation or of an open window. -/
def Slot.owner : Slot → Option Nat
  | .free => none
  | .reserved o => some o
  | .opened w => some w.owner

/-- The lowest-numbered FREE slot. -/
def freeSlot (s : State) : Option (Fin 2) := (List.finRange 2).find? fun i => s.probe.slots[i].isFree

/-- The probe channel's power state allows a round (R24, condition 7). -/
def probePowerAllows : Power → Bool
  | .active | .watch | .standby | .waking => true
  | .forcedOff | .fault => false

/-- The seven conditions of a start attempt (R24). -/
def startConditions (s : State) : Bool :=
  s.stc.mode == .run && !s.inEmergency && !s.bus.txQuiet && s.probe.round == .idle &&
  s.probe.slots.toList.all (fun slot => slot.owner != some s.number) && (freeSlot s).isSome &&
  (match s.probeChannel with
   | some c => probePowerAllows s.channels[c].power
   | none => false)

/-- Put a slot in place. -/
def setSlot (i : Fin 2) (slot : Slot) (s : State) : State :=
  s.modProbe fun u => { u with slots := u.slots.set i slot }

/-- A round starts (R24): the lowest FREE slot is reserved, the probe timer stopped, and the round goes on by the probe
channel's power state. -/
def startRound (s : State) : State :=
  match s.probeChannel, freeSlot s with
  | some c, some i =>
    let s := (setSlot i (.reserved s.number) s).modProbe fun u => { u with timer := none }
    match s.channels[c].power with
    | .active | .watch => enterMarking s
    | .standby => enterWaking c (s.modProbe fun u => { u with round := .waking })
    | .waking => s.modProbe fun u => { u with round := .waking }
    | .forcedOff | .fault => s
  | _, _ => s

/-- A start attempt from a PROBE action: refused, it counts in probe aborts (R24, R151). -/
def probeAction (s : State) : State := if startConditions s then startRound s else bump .probeAborts s

/-- PROBE_TIMER_EXPIRY (R23): a start attempt; a failed one starts the timer with 1 s and is not counted. -/
def execProbeTimerExpiry (s : State) : Host.Outcome State Fault Refusal :=
  .next (event (fun s =>
    if s.probe.timer.isSome then
      if startConditions s then startRound s else s.modProbe fun u => { u with timer := some 1000000 }
    else s) s)

/-! ### The MARK and the emission (section 2.3) -/

/-- The MARK is under attempt. -/
def markUnderAttempt (s : State) : Bool := s.bus.attempt.any (·.frame.body.isMark)

/-- MARK_DEADLINE_EXPIRY (R27): a waiting MARK is removed and the round aborted; a MARK under attempt is marked for
removal if the attempt fails (R168). -/
def execMarkDeadlineExpiry (s : State) : Host.Outcome State Fault Refusal :=
  .next (event (fun s =>
    if s.probe.deadline.isSome then
      let s := s.modProbe fun u => { u with deadline := none }
      if markUnderAttempt s then
        s.modBus fun b => { b with attempt := b.attempt.map fun a => { a with dropOnFailure := true } }
      else abortRound false s
    else s) s)

/-- A window for a source, from end-of-MARK + 2,000 µs to + 1,542,000 µs (R35, R36). -/
def newWindow (owner : Nat) (stamp : Instant) : Window where
  owner := owner
  opens := stamp + 2000#32
  closes := stamp + 1542000#32
  best := 0
  peaks := []
  discard := false
  latest := none
  heard := []
  lead := 0

/-- A RESERVED slot becomes the self window (R36). -/
def Slot.openSelf (stamp : Instant) : Slot → Slot
  | .reserved o => .opened (newWindow o stamp)
  | slot => slot

/-- The own end-of-MARK is handed to the Probe Unit (R26): the emission is due 2,000 µs after it (R28). -/
def ownEndOfMark (stamp : Instant) (s : State) : State :=
  if s.probe.round = .marking then
    bump .probeRounds (s.modProbe fun u =>
      { u with
        round := .emitting
        deadline := none
        startsAt := some (stamp + 2000#32)
        started := false
        lag := 0
        position := 0
        slots := mapVector (Slot.openSelf stamp) u.slots })
  else s

/-- The last sample of the emission has left (R28): the probe timer starts with interval + jitter. -/
def endEmission (s : State) : State :=
  s.modProbe fun u =>
    { u with
      round := .idle
      startsAt := none
      started := false
      lag := 0
      position := 0
      timer := some (s.image.elim 0 (·.probeInterval) * 1000000 + s.jitter) }

/-- EMISSION_START (R28): the first probe sample leaves. -/
def execEmissionStart (s : State) : Host.Outcome State Fault Refusal :=
  .next (event (fun s =>
    if s.probe.round = .emitting then s.modProbe fun u => { u with started := true } else s) s)

/-- EMISSION_END (R28): the last probe sample leaves. -/
def execEmissionEnd (s : State) : Host.Outcome State Fault Refusal :=
  .next (event (fun s => if s.probe.round = .emitting then endEmission s else s) s)

/-! ### Capture windows (sections 2.5 to 2.7) -/

/-- A MARK of another station is dispatched (R35, R18): the holding entry's timestamp is set, and a window may open. -/
def takeMark (station : Nat) (stamp : Instant) (s : State) : State :=
  match s.holder station with
  | none => s
  | some i =>
    let s := s.modPeer i fun e => { e with lastMark := some stamp }
    if s.inEmergency then s
    else if s.probe.slots.toList.any (·.openFor (· == station)) then bump .captureBusy s
    else
      match freeSlot s with
      | some j => setSlot j (.opened (newWindow station stamp)) s
      | none => bump .captureBusy s

/-- The correlator finds a peak (R39): a new best score prunes the peaks below half of it; a peak of at least half the
best score joins a list of fewer than 8. -/
def Window.takePeak (offset score : Nat) (w : Window) : Window :=
  let w := { w with latest := some offset }
  let w := if w.best < score then { w with best := score, peaks := w.peaks.filter fun p => !(p.score * 2 < score) } else w
  if w.best ≤ score * 2 ∧ w.peaks.length < 8 then { w with peaks := w.peaks ++ [⟨offset, score⟩] } else w

/-- The largest arrival offset in µs (R37). -/
def maxOffset : Nat := 1369333

/-- The programme samples in a capture window of 1,540 ms (R37). -/
def windowSamples : Nat := 73920

/-- An instant of the 1 µs time base is not before another: less than half the range of the 32-bit time base past it. -/
def reached (start now : Instant) : Bool := (now - start).toNat < 2 ^ 31

/-- A microphone sample enters an open window from its start to its close (R37); the first one fixes how many µs after the
start the samples of the window begin. -/
def Window.hear (now : Instant) (x : Int) (w : Window) : Window :=
  if reached w.opens now ∧ reached w.closes now = false ∧ w.heard.length < windowSamples then
    { w with heard := x :: w.heard, lead := if w.heard = [] then (now - w.opens).toNat else w.lead }
  else w

/-- A slot takes a microphone sample. -/
def Slot.hear (now : Instant) (x : Int) : Slot → Slot
  | .opened w => .opened (w.hear now x)
  | slot => slot

/-- The 8,192 samples of a window from sample n, oldest first (R38). -/
def Window.span (n : Nat) (w : Window) : List Int := (w.heard.reverse.drop n).take 8192

/-- Samples k, k + 1, … are a station's sequence at a magnitude (R29). -/
def followsSequence (station magnitude : Nat) : Nat → List Int → Bool
  | _, [] => true
  | k, x :: xs =>
    x == (if Config.sequence station k then (magnitude : Int) else -magnitude) &&
      followsSequence station magnitude (k + 1) xs

/-- Samples are a station's sequence alone, without noise or distortion (R38). -/
def isSequenceAlone (station : Nat) : List Int → Bool
  | [] => false
  | x :: xs => x != 0 && xs.length == 8191 && followsSequence station x.natAbs 0 (x :: xs)

/-- The correlation of samples with a station's sequence from its sample k on (R38): each sample with the sign the sequence
has there, all added. -/
def correlation (station : Nat) : Nat → List Int → Int
  | _, [] => 0
  | k, x :: xs => (if Config.sequence station k then x else -x) + correlation station (k + 1) xs

/-- The arrival offset of sample n of a window, to the nearest µs: the samples begin `lead` µs after the window start and stand
125/6 µs apart, and a half goes up (R37, R38, log 28). -/
def Window.offsetOf (n : Nat) (w : Window) : Nat := w.lead + (125 * n + 3) / 6

/-- The samples from sample n are the owner's sequence alone, at an offset that is scored (R37, R38). -/
def Window.aloneAt (n : Nat) (w : Window) : Bool :=
  isSequenceAlone w.owner (w.span n) && decide (w.offsetOf n ≤ maxOffset)

/-- The score of a window at sample n of the programme sample grid (R38): the correlation of the 8,192 samples from it with
the owner's sequence, scaled so that the sequence alone scores 255, and limited to 0..255. Of the scale the spec gives this
point and its limits; between them it is open (log 28). Where the whole sequence does not lie in the window there is no
score, held as 0 (R37). -/
def Window.gridScore (n : Nat) (w : Window) : Nat :=
  let heard := w.span n
  let sum := correlation w.owner 0 heard
  if w.aloneAt n then 255
  else if heard.length < 8192 ∨ maxOffset < w.offsetOf n ∨ sum ≤ 0 then 0
  else min 255 (Config.scaled sum.toNat heard)

/-- How sample n of the grid stands against the others: by its score, and the sequence alone above all, since its correlation
at any other shift stays far below (R29, R38). -/
def Window.standing (n : Nat) (w : Window) : Nat := if w.aloneAt n then 256 else w.gridScore n

/-- Sample n is a local maximum of the grid's scores (R38): above the sample before it, and above the first that differs after
it, so that of equal scores in a row the earliest is the maximum. -/
def Window.isMaximum (n : Nat) (w : Window) : Bool :=
  decide (0 < w.gridScore n) && (n == 0 || decide (w.standing (n - 1) < w.standing n)) &&
    (((List.range 24).map fun d => w.standing (n + d + 1)).find? (· != w.standing n)).all fun x => decide (x < w.standing n)

/-- The grid's scores from 24 samples before sample n to 24 after it. -/
def Window.around (n : Nat) (w : Window) : List Nat :=
  (List.range 49).map fun k => if n + k < 24 then 0 else w.gridScore (n + k - 24)

/-- What interpolation makes of a local maximum of the grid (R38): nothing of the sequence alone, which scores 255 where it
arrives; else an offset less than a sample away, and a score no smaller, which are open (log 28). -/
def Window.refined (n : Nat) (w : Window) : Peak :=
  if w.aloneAt n then ⟨w.offsetOf n, 255⟩
  else
    { offset := min maxOffset (w.offsetOf n + max (-20) (min 20 (Config.refinedShift (w.around n)))).toNat
      score := max (w.gridScore n) (min 255 (Config.refinedScore (w.around n))) }

/-- The offset and the score that the correlator has at sample n: refined at a local maximum, the grid's elsewhere (R38). -/
def Window.scored (n : Nat) (w : Window) : Peak :=
  if w.isMaximum n then w.refined n else ⟨w.offsetOf n, w.gridScore n⟩

/-- How sample n stands against the others once the local maxima are refined. -/
def Window.rank (n : Nat) (w : Window) : Nat := if w.aloneAt n then 256 else (w.scored n).score

/-- Sample m, with an offset within 24 samples (500 µs) of sample n's, keeps sample n from being a peak: it stands higher, or
as high and before it (R38). -/
def Window.outdoes (m n : Nat) (w : Window) : Bool :=
  m != n && decide ((w.scored m).offset ≤ (w.scored n).offset + 500 ∧ (w.scored n).offset ≤ (w.scored m).offset + 500) &&
    (if m < n then decide (w.rank n ≤ w.rank m) else decide (w.rank n < w.rank m))

/-- A local maximum of the grid is a peak (R38): nothing within 24 samples on either side scores more, and nothing before it
there as much. A local maximum lies less than a sample off its place, so samples 25 away are looked at. -/
def Window.isPeak (n : Nat) (w : Window) : Bool :=
  w.isMaximum n && (List.range 51).all fun k => decide (n + k < 25) || !w.outdoes (n + k - 25) n

/-- How many samples of a window must have been heard before sample n is known to be a peak (R37, R38): those of the scores
within 25 samples of it, and of the scores around those, as far as they lie in the window (log 28). -/
def samplesNeeded (n : Nat) : Nat := min windowSamples (n + 8192 + 49)

/-- Sample n has been heard, and is a peak with this offset and score. -/
def Window.hasPeak (offset score n : Nat) (w : Window) : Bool :=
  decide (samplesNeeded n ≤ w.heard.length) && w.isPeak n && w.scored n == ⟨offset, score⟩

/-- The correlator finds a peak (R37, R38): at least the threshold, beyond the peak before it, at an offset and with a score
that it has at a sample; one of two samples can have an offset. -/
def peakPossible (s : State) (w : Window) (offset score : Nat) : Bool :=
  let n := (offset - w.lead) * 6 / 125
  decide (s.image.elim 1 (·.threshold) ≤ score) && w.latest.all (fun l => l + 500 < offset) &&
    (w.hasPeak offset score n || w.hasPeak offset score (n + 1))

/-- CORRELATOR_PEAK (R39): a command that names none of the window's peaks is no event (log 2). -/
def execCorrelatorPeak (i : Fin 2) (offset : Nat) (score : Byte) (s : State) : Host.Outcome State Fault Refusal :=
  .next (event (fun s =>
    match s.probe.slots[i] with
    | .opened w =>
      if peakPossible s w offset score.toNat then setSlot i (.opened (w.takePeak offset score.toNat)) s else s
    | _ => s) s)

/-- The microphone latency in µs: samples at 20.833 µs, rounded to the nearest µs (R41). -/
def micLatency (s : State) : Nat := (s.image.elim 0 (·.micLatency) * 20833 + 500) / 1000

/-- The path temperature of a window at its close (R42). -/
def windowTemperature (s : State) (w : Window) : Int :=
  if w.owner = s.number then s.ownTemperature
  else pathTemperature s.ownTemperature ((s.holder w.owner).bind fun i => s.peers[i].record)

/-- A measured flight as a reference flight (R42); below 0 the spec states no result (log 18). -/
def normalisedFlight (measured : Nat) (t : Int) : Nat :=
  let r := referenceFlight measured t
  if r < 0 then Config.flightBelowZero r else r.toNat

/-- The result of a window at its close (R40, R41): the earliest peak held is the arrival; a miss when there is none, or
when the measured flight is zero or negative. -/
def windowResult (s : State) (w : Window) : FlightResult :=
  match w.peaks with
  | [] => .miss
  | p :: _ =>
    if w.best = 0 ∨ p.offset ≤ micLatency s then .miss
    else .detection (normalisedFlight (p.offset - micLatency s) (windowTemperature s w))

/-- Deliver a result for a window's owner (R43); a delivered miss is counted. -/
def deliverResult (owner : Nat) (r : FlightResult) (s : State) : State :=
  let s := if r = .miss then bump .captureMisses s else s
  if owner = s.number then takeSelfResult r s else takePeerResult owner r s

/-- WINDOW_CLOSE (R40, R43): the slot becomes FREE and its result is delivered, unless its discard mark is set. -/
def execWindowClose (i : Fin 2) (s : State) : Host.Outcome State Fault Refusal :=
  .next (event (fun s =>
    match s.probe.slots[i] with
    | .opened w =>
      let result := windowResult s w
      let s := setSlot i .free s
      if w.discard && w.owner != s.number then s else deliverResult w.owner result s
    | _ => s) s)

end Sys2Proof.Machine
end

