-- ==== Sys2Proof/Machine/Cues.lean ====
section
/-! DEFINITION. The Cue Engine (chapter 8): taking a CUE, running a list, its actions. The command WAIT_TIMER_EXPIRY;
the command CUE goes through the receive checks (Receive.lean). -/

namespace Sys2Proof.Machine

/-- The context of a list that is RUNNING or WAITING (R140). -/
def ListState.context : ListState → Option ListContext
  | .idle => none
  | .running c => some c
  | .waiting c _ => some c

/-- A list ends: its record is set, the context is made absent and the list state IDLE (R144, R146, R153, R154). -/
def endList (cue position : Nat) (ending : Ending) (s : State) : State :=
  s.modCue fun e => { e with list := .idle, lastList := some ⟨cue, ending, position⟩ }

/-- The last CUE record is set (R143, R144). -/
def recordCue (source : Nat) (number : Byte) (outcome : CueOutcome) (s : State) : State :=
  s.modCue fun e => { e with lastCue := some ⟨source, number, outcome⟩ }

/-! ### The actions (section 8.4) -/

/-- OFFSET at the solver (R54, R148): P takes the value, and a delay station raises one trigger. -/
def offsetAction (value : Nat) (s : State) : State := trigger (s.modSolver fun v => { v with offset := value })

/-- THAW (R58, R148): the cue freeze is cleared, and one trigger is raised. -/
def thawAction (s : State) : State := trigger (setFreeze false s.solver.emergencyFreeze s)

/-- An action is handed to the block that owns the state it changes (R148 to R151). END and WAIT act on the list. -/
def performAction (a : Action) (s : State) : State :=
  match a with
  | .finish => s
  | .wait _ => s
  | .probe => probeAction s
  | .freeze => setFreeze true s.solver.emergencyFreeze s
  | .thaw => thawAction s
  | .mute set => forMarked set (fun c s => retargetAndAct c (s.modChannel c fun ch => { ch with storedMute := true })) s
  | .unmute set => forMarked set (fun c s => retargetAndAct c (s.modChannel c fun ch => { ch with storedMute := false })) s
  | .sleep set => forMarked set sleepChannel s
  | .wake set => forMarked set wakeChannel s
  | .offset value => offsetAction value s
  | .gain set value => forMarked set (fun c s => retargetAndAct c (s.modChannel c fun ch => { ch with storedGain := value })) s
  | .preset set value => forMarked set (fun c s => requestChannel c (s.modChannel c fun ch => { ch with preset := value })) s

/-- The list after an action at its position (R145, R152, R153). -/
def advanceList (c : ListContext) (a : Action) (s : State) : State :=
  match a with
  | .finish => endList c.cue c.position .complete s
  | .wait value =>
    s.modCue fun e => { e with list := .waiting { c with position := c.position + a.length } (value * 40000) }
  | _ => s.modCue fun e => { e with list := .running { c with position := c.position + a.length } }

/-- A RUNNING list takes the action at its position, or stops there with a cue fault (R145, R146). -/
def takeAction (s : State) : State :=
  match s.cue.list with
  | .running c =>
    match decodeAction (cueByte s) c.params c.position with
    | .error kind => bump .cueFaults (endList c.cue c.position (.fault kind) s)
    | .ok a => advanceList c a (performAction a s)
  | _ => s

/-- A run of actions, each an event of its own, up to the next WAIT or END, a fault, or the number of actions after which
another event is taken (R145, log 6). -/
def runActions : Nat → Option Nat → State → State
  | 0, _, s => s
  | fuel + 1, burst, s =>
    match s.cue.list, burst with
    | .running _, some 0 => s
    | .running _, some (k + 1) => runActions fuel (some k) (event takeAction s)
    | .running _, none => runActions fuel none (event takeAction s)
    | _, _ => s

/-- The first action of a run, and those that follow it at once (R144, R145); with `burst` another event is taken after
so many actions beyond the first (log 6). A list never takes more than 513 actions. -/
def runList (burst : Option Nat) (s : State) : State :=
  match s.cue.list with
  | .running _ => runActions 512 burst (event takeAction s)
  | _ => s

/-! ### CUE frames (section 8.2) -/

/-- Why a CUE is refused: the first condition that holds (R143). -/
def cueRefusal (s : State) (number : Byte) : Option CueOutcome :=
  if s.inEmergency then some .refusedEmergency
  else if !s.serving then some .refusedMode
  else if 63 < number.toNat then some .refusedNumber
  else none

/-- A running list is overtaken (R144, step 1). -/
def overtakeList (s : State) : State :=
  match s.cue.list.context with
  | some c =>
    (endList c.cue c.position .overtaken s).modCue fun e => { e with overtaken := satInc e.overtaken }
  | none => s

/-- A taken CUE sets the list context, or is undefined (R144, steps 2 to 4). -/
def startList (source : Nat) (number : Byte) (params : List Byte) (s : State) : State :=
  let n := number.toNat
  if cueByte s (8 * n) = 0#8 then
    recordCue source number .undefined <|
      (endList n (8 * n) .undefined s).modCue fun e => { e with undefined := satInc e.undefined }
  else
    recordCue source number .taken <| s.modCue fun e => { e with list := .running ⟨n, params, 8 * n⟩ }

/-- A dispatched CUE is refused and counted, or taken (R143, R144). -/
def acceptCue (source : Nat) (number : Byte) (params : List Byte) (s : State) : State :=
  match cueRefusal s number with
  | some outcome => bump .cueFaults (recordCue source number outcome s)
  | none => startList source number params (overtakeList s)

/-- A CUE reaches the Cue Engine (R142 to R145). A refused CUE leaves a list as it was, and no list is RUNNING after an
undefined one, so the run that follows is the new list's. -/
def takeCue (source : Nat) (number : Byte) (params : List Byte) (burst : Option Nat) (s : State) : State :=
  match cueRefusal s number with
  | some _ => acceptCue source number params s
  | none => runList burst (acceptCue source number params s)

/-- EMERGENCY entry abandons a running list (R154). -/
def abandonList (s : State) : State :=
  match s.cue.list.context with
  | some c => endList c.cue c.position .emergency s
  | none => s

/-- WAIT_TIMER_EXPIRY (R152): the list returns to RUNNING and takes its next actions. -/
def execWaitTimerExpiry (burst : Option Nat) (s : State) : Host.Outcome State Fault Refusal :=
  .next (match s.cue.list with
    | .waiting c _ => runList burst (s.modCue fun e => { e with list := .running c })
    | _ => s)

end Sys2Proof.Machine
end

