-- ==== Sys2Proof/Machine/Emergency.lean ====
section
/-! DEFINITION. Emergency Control (chapter 7): the contacts, the latch, the source set, the EMERGENCY mode and what it
does to the other blocks, and EVAC sending. The commands of the family. -/

namespace Sys2Proof.Machine

/-! ### Entry and exit (R131, R133) -/

/-- The equaliser takes an EMERGENCY entry or exit: requests in RUN and CONFLICT, gain targets in every mode (R101, R105,
R106). -/
def equaliserEmergency (s : State) : State :=
  forChannels retargetChannel (if s.serving then requestAll s else s)

/-- The Probe Unit takes EMERGENCY entry (R33, R44). -/
def probeEmergency (s : State) : State :=
  cancelWindows (fun _ => true) (if s.probe.round = .idle then s else abortRound false s)

/-- The station enters EMERGENCY. The equaliser takes its values before power control wakes the channels (R105). -/
def enterEmergency (s : State) : State :=
  let s := s.modEmc fun e => { e with emergency := true }
  let s := abandonList (probeEmergency s)
  let s := setFreeze s.solver.cueFreeze true s
  powerEmergencyEntry (equaliserEmergency s)

/-- The station leaves EMERGENCY: the emergency freeze is cleared with one trigger (R58), and the ordinary values
return. The equaliser acts before power control, which R133 and R99 leave open: a crossfade that the request starts at a
forced-off sounding channel is completed at once, in its silent second copy (log 43, the model's choice). -/
def leaveEmergency (s : State) : State :=
  let s := s.modEmc fun e => { e with emergency := false }
  let s := trigger (setFreeze s.solver.cueFreeze false s)
  powerEmergencyExit (equaliserEmergency s)

/-- EMERGENCY follows the own alarm and the source set (R131). -/
def followInputs (s : State) : State :=
  let wanted := s.ownAlarm || !s.emc.sources.isEmpty
  if wanted && !s.inEmergency then enterEmergency s
  else if !wanted && s.inEmergency then leaveEmergency s
  else s

/-! ### The source set (section 7.3) -/

/-- Add a number to a list in rising order, unless it is a member. -/
def addSource (n : Nat) : List Nat → List Nat
  | [] => [n]
  | m :: l => if n = m then m :: l else if n < m then n :: m :: l else m :: addSource n l

/-- An EVAC of another station (R128). -/
def takeEvac (station : Nat) (set : Bool) (s : State) : State :=
  followInputs (s.modEmc fun e =>
    { e with sources := if set then addSource station e.sources else e.sources.filter (· != station) })

/-- The CONTACT flag of an ALIGN or ROLL: clear, it removes the source; set, it changes nothing (R129). -/
def takeContactFlag (station : Nat) (contact : Bool) (s : State) : State :=
  if contact then s else takeEvac station false s

/-! ### The own alarm and EVAC sending (sections 7.2, 7.6) -/

/-- A ROLL that waits is handed anew with the new CONTACT flag (R137, R182). -/
def renewRoll (s : State) : State := if rollWaits s then handRoll s else s

/-- An EVAC SET is handed and the refresh timer starts with 1 s (R135). -/
def sendSet (s : State) : State := handEvac true (s.modEmc fun e => { e with refresh := some 1000000 })

/-- The own alarm has become asserted. Where a MARK waits, the order of the EVAC hand-over and of the entry, which
withdraws the MARK, is free (section 9.7, log 8). -/
def alarmAsserted (s : State) : State :=
  let evacFirst := markWaits s && Config.freeOrder s.freeCount
  let s := if markWaits s then s.setFreeCount (s.freeCount + 1) else s
  renewRoll (if evacFirst then followInputs (sendSet s) else sendSet (followInputs s))

/-- The own alarm has become released: the refresh timer stops and an EVAC CLEAR is handed (R135). -/
def alarmReleased (s : State) : State :=
  renewRoll (followInputs (handEvac false (s.modEmc fun e => { e with refresh := none })))

/-- A change of the contacts or the latch; a change of the own alarm that follows from it is acted on. -/
def changeContacts (f : EmergencyControl → EmergencyControl) (s : State) : State :=
  let t := s.modEmc f
  if s.ownAlarm = t.ownAlarm then t else if t.ownAlarm then alarmAsserted t else alarmReleased t

/-- A pin level of the emergency contact is the asserted one (R125). -/
def contactAsserted (s : State) (level : Bool) : Bool := level == s.stc.straps.activeHigh

/-- The 20 ms span of R125 runs while a pin differs from its debounced level. -/
def debounceSpan (pin debounced : Bool) : Option Nat := if pin = debounced then none else some 20000

/-! ### The commands -/

/-- CONTACT_PIN_CHANGE (R125): a change of a pin restarts its span. -/
def execContactPinChange (line : ContactLine) (level : Bool) (s : State) : Host.Outcome State Fault Refusal :=
  .next (match line with
    | .emergency =>
      if s.emc.contactPin = level then s
      else s.modEmc fun e =>
        { e with contactPin := level, contactSpan := debounceSpan (contactAsserted s level) e.contact }
    | .reset =>
      if s.emc.resetPin = level then s
      else s.modEmc fun e => { e with resetPin := level, resetSpan := debounceSpan level e.resetContact })

/-- DEBOUNCED_CONTACT_ASSERTED (R126, R127): at the end of its span the contact becomes asserted; in LATCHED mode it sets
the latch. -/
def execDebouncedContactAsserted (s : State) : Host.Outcome State Fault Refusal :=
  .next (event (fun s =>
    if s.emc.contactSpan.isSome ∧ s.emc.contact = false then
      changeContacts (fun e =>
        { e with contact := true, contactSpan := none, latch := e.latch || s.stc.straps.latched }) s
    else s) s)

/-- DEBOUNCED_CONTACT_RELEASED (R126, R127). -/
def execDebouncedContactReleased (s : State) : Host.Outcome State Fault Refusal :=
  .next (event (fun s =>
    if s.emc.contactSpan.isSome ∧ s.emc.contact then
      changeContacts (fun e => { e with contact := false, contactSpan := none }) s
    else s) s)

/-- RESET_CONTACT_ASSERTED (R127): in LATCHED mode it clears the latch if the alarm contact is released. -/
def execResetContactAsserted (s : State) : Host.Outcome State Fault Refusal :=
  .next (event (fun s =>
    if s.emc.resetSpan.isSome ∧ s.emc.resetContact = false then
      changeContacts (fun e =>
        { e with
          resetContact := true
          resetSpan := none
          latch := e.latch && !(s.stc.straps.latched && !e.contact) }) s
    else s) s)

/-- RESET_CONTACT_RELEASED (R127): no effect beyond the debounced level. -/
def execResetContactReleased (s : State) : Host.Outcome State Fault Refusal :=
  .next (event (fun s =>
    if s.emc.resetSpan.isSome ∧ s.emc.resetContact then
      changeContacts (fun e => { e with resetContact := false, resetSpan := none }) s
    else s) s)

/-- EVAC_REFRESH_EXPIRY (R135): while the own alarm is asserted, another SET is handed and the timer restarts. -/
def execEvacRefreshExpiry (s : State) : Host.Outcome State Fault Refusal :=
  .next (event (fun s => if s.emc.refresh.isSome ∧ s.ownAlarm then sendSet s else s) s)

end Sys2Proof.Machine
end

