-- ==== Sys2Proof/Machine/Startup.lean ====
section
/-! DEFINITION. Start-up Control (chapter 10): resets, LOADING and the image, ANNOUNCE, RUN entry, CONFLICT,
CONFIG_FAULT, duplicate numbers and the warm restart. The commands HARD_RESET, IMAGE_HEADER_READ, IMAGE_READ_TIMEOUT,
IMAGE_READ_COMPLETE and CLAIM_TIMER_EXPIRY. -/

namespace Sys2Proof.Machine

/-! ### CONFIG_FAULT (R186) -/

/-- Start-up Control and the table at CONFIG_FAULT entry: the reason, no image, kept lists dropped, UNUSED entries (R1,
R21). -/
def faultStartup (reason : FaultReason) (s : State) : State :=
  ((s.modStc fun c =>
      { c with
        mode := .configFault
        reason := reason
        identity := none
        kind := none
        claim := none
        reading := .none
        kept := Vector.replicate 16 none }).setImage none).setPeers
    (Vector.replicate 16 (PeerEntry.blank .unused none))

/-- The station enters CONFIG_FAULT (R186): the solver returns to its reset values (R52), the targets become 0 (R83), the
equaliser wants FLAT and its gain targets of R106, an emergency wakes the channels after that (R120), and one ROLL with
the fault flag is handed (R182). -/
def enterConfigFault (reason : FaultReason) (s : State) : State :=
  let s := (faultStartup reason s).modSolver fun _ => Solver.reset
  let s := forChannels retargetChannel (requestAll (formTargets s))
  let s := if s.inEmergency then forChannels enterWaking s else s
  handRoll s

/-! ### ANNOUNCE (R180) -/

/-- An entry as installed for its binding (R2, R20), with the lists kept for it when its index, kind and station are
unchanged (R21); a SINGLE entry's station is byte 1 of its binding alone (R200, log 39). -/
def installEntry (b : Binding) (kept : Option KeptLists) : PeerEntry :=
  match b with
  | .single st =>
    let e := PeerEntry.blank b (some st)
    match kept with
    | some k =>
      if k.station = st then { e with flights := { e.flights with history := k.history, suspects := k.suspects } } else e
    | none => e
  | b => PeerEntry.blank b none

/-- A channel's stored values as installed (R89, R100, R104). -/
def installChannel (img : Image) (c : Fin 4) (ch : Channel) : Channel :=
  { ch with storedGain := img.channels[c].startGain, storedMute := img.channels[c].startMute, preset := 0 }

/-- Every block installs its image values (R180). -/
def installImage (img : Image) (s : State) : State :=
  let kept := s.stc.kept
  let s := (s.setImage (some img)).setPeers (tabulate 16 fun i => installEntry img.bindings[i] kept[i])
  let s := s.modAir fun a => { a with temperature := img.defaultTemp }
  let s := s.modSolver fun v => { v with offset := img.offset }
  let s := s.modCue fun e => { e with memory := Cells.ofList 0#8 0 img.cueBytes }
  let s := forChannels (fun c s => s.modChannel c (installChannel img c)) s
  let s := s.modEq fun e =>
    { e with pathBand := some (plainPathBand s.solver.path), humidityBand := some img.defaultBand }
  refreshShelf s

/-- The station enters ANNOUNCE (R180): a ROLL is handed and the claim timer starts with 500 ms. -/
def enterAnnounce (img : Image) (s : State) : State :=
  let s := installImage img s
  let s := s.modStc fun c =>
    { c with
      mode := .announce
      identity := some (img.id, img.length)
      kind := some img.kind
      claim := some 500000
      reading := .none
      kept := Vector.replicate 16 none }
  handRoll (formTargets s)

/-! ### RUN and CONFLICT (R181, R185) -/

/-- RUN entry (R181): the solver's set-up, the first settings and gains, the release of the channels after them, the
probe timer, and the first ALIGN. -/
def enterRun (s : State) : State :=
  let s := s.modStc fun c => { c with mode := .run, claim := none }
  let s := solverSetup s
  let s := forChannels retargetChannel (requestAll s)
  let s := forChannels releaseChannel s
  let s := s.modProbe fun u => { u with timer := some (5000000 + s.jitter) }
  handAlign s

/-- CONFLICT entry (R185): the queue is emptied (R174), any round aborted with its self window cancelled and the probe
timer stopped (R23, R32), and the refresh timer stopped (R70). -/
def enterConflict (s : State) : State :=
  let s := s.modStc fun c => { c with mode := .conflict, claim := none }
  let s := emptyQueue s
  let s := match s.probe.round with
    | .idle => s
    | .waking | .marking => abortRound true s
    | .emitting => cancelSelfWindow (abortRound true s)
  (s.modProbe fun u => { u with timer := none }).modSolver fun v => { v with refresh := none }

/-! ### Resets and LOADING (R176 to R178) -/

/-- LOADING begins (R178): bad number straps end it at once with BAD_STRAP, else the image header is awaited. -/
def beginLoading (s : State) : State :=
  if isStation s.number then s.modStc fun c => { c with mode := .loading, reading := .header 100000 }
  else enterConfigFault .badStrap s

/-- Everything at its reset value, with the straps as sampled; the unit number, the input lines and the model's own
fields stay (logs 12, 34). -/
def resetState (straps : Straps) (s : State) : State where
  stc := { State.reset.stc with strapPins := straps, straps := straps, unit := s.stc.unit }
  image := none
  bus := State.reset.bus
  peers := State.reset.peers
  selfRec := FlightRecord.empty
  probe := State.reset.probe
  air := State.reset.air
  solver := Solver.reset
  delay := State.reset.delay
  level := State.reset.level
  eq := State.reset.eq
  channels := mapVector (fun ch => Channel.reset ch.ready ch.faultLine) s.channels
  cue := State.reset.cue
  emc :=
    { State.reset.emc with
      contactPin := s.emc.contactPin
      resetPin := s.emc.resetPin
      contactSpan := debounceSpan (s.emc.contactPin == straps.activeHigh) false
      resetSpan := debounceSpan s.emc.resetPin false }
  counters := State.reset.counters
  timeBase := 0
  freeCount := s.freeCount
  pending := s.pending

/-- The lists a warm restart keeps of an entry: those of a SINGLE entry (R21). -/
def keptOf (e : PeerEntry) : Option KeptLists :=
  match e.binding with
  | .single st => some ⟨st, e.flights.history, e.flights.suspects⟩
  | _ => none

/-- The lists kept at a warm restart; those still held when it comes in LOADING stay held (log 24). -/
def keptLists (s : State) : Vector (Option KeptLists) 16 :=
  if s.stc.mode = .loading then s.stc.kept else mapVector keptOf s.peers

/-- The warm restart (R188): counters, self record and entry lists are kept, the restart count goes up, and the straps
are sampled again. -/
def warmRestart (straps : Straps) (s : State) : State :=
  let r := resetState straps s
  beginLoading
    { r with
      stc := { r.stc with restarts := satInc s.stc.restarts, kept := keptLists s }
      selfRec := s.selfRec
      counters := s.counters }

/-- A RESTART (R187): for this unit number alone; refused and counted in EMERGENCY. -/
def takeRestart (unit : BitVec 32) (straps : Straps) (s : State) : State :=
  if unit ≠ s.stc.unit then s
  else if s.inEmergency then bump .cueFaults s
  else warmRestart straps s

/-! ### Duplicate numbers (R183, R184) -/

/-- The last duplicate ROLL is recorded. -/
def recordDuplicate (unit : BitVec 32) (won : Bool) (s : State) : State :=
  s.modStc fun c => { c with lastDuplicate := some (unit, won) }

/-- A ROLL with this station's own number (R184), its rows taken from the top: a set fault flag decides even when the unit
number is this station's own (log 38). -/
def contest (b : RollBody) (s : State) : State :=
  if b.faultFlag then handRollUnlessWaiting (recordDuplicate b.unit true s)
  else if b.unit = s.stc.unit then s
  else if b.unit.toNat < s.stc.unit.toNat then
    let s := recordDuplicate b.unit false s
    enterConflict (if s.stc.mode = .announce then enterRun s else s)
  else handRoll (recordDuplicate b.unit true s)

/-- A frame with this station's own number as source (R183): counted and acted on in ANNOUNCE and RUN. -/
def takeDuplicate (roll : Option RollBody) (s : State) : State :=
  if s.stc.mode = .announce ∨ s.stc.mode = .run then
    let s := s.modStc fun c => { c with duplicates := satInc c.duplicates }
    match roll with
    | none => handRollUnlessWaiting s
    | some b => contest b s
  else s

/-! ### The commands -/

/-- HARD_RESET (R176). -/
def execHardReset (straps : Straps) (s : State) : Host.Outcome State Fault Refusal :=
  .next (beginLoading (resetState straps s))

/-- IMAGE_HEADER_READ (R178): the cookie and the declared length are checked, and a failure ends the read. -/
def execImageHeaderRead (header : List Byte) (s : State) : Host.Outcome State Fault Refusal :=
  .next (match s.stc.mode, s.stc.reading with
    | .loading, .header _ =>
      if header.length < 10 then s
      else
        let h := header.take 10
        if checkHeader h = .none then s.modStc fun c => { c with reading := .body h 100000 }
        else enterConfigFault (checkHeader h) s
    | _, _ => s)

/-- IMAGE_READ_TIMEOUT (R178): the memory delivers nothing for 100 ms. -/
def execImageReadTimeout (s : State) : Host.Outcome State Fault Refusal :=
  .next (match s.stc.mode, s.stc.reading with
    | .loading, .header _ => enterConfigFault .noImage s
    | .loading, .body _ _ => enterConfigFault .noImage s
    | _, _ => s)

/-- IMAGE_READ_COMPLETE (R179): the checks are made in order, leading to ANNOUNCE or CONFIG_FAULT. Bytes beyond the
declared length are not read; with fewer the read is not complete (log 35). -/
def execImageReadComplete (rest : List Byte) (s : State) : Host.Outcome State Fault Refusal :=
  .next (match s.stc.mode, s.stc.reading with
    | .loading, .body header _ =>
      let wanted := field header 2 2 - 10
      if rest.length < wanted then s
      else
        match checkImage s.number (header ++ rest.take wanted) with
        | .error reason => enterConfigFault reason s
        | .ok img => enterAnnounce img s
    | _, _ => s)

/-- CLAIM_TIMER_EXPIRY (R181): the station mode becomes RUN. -/
def execClaimTimerExpiry (s : State) : Host.Outcome State Fault Refusal :=
  .next (if s.stc.mode = .announce ∧ s.stc.claim.isSome then enterRun s else s)

end Sys2Proof.Machine
end

