-- ==== Sys2Proof/Machine/Report.lean ====
section
/-! DEFINITION. The Report Unit (chapter 11): the six report spaces as bytes (R203), and the answer to a QUERY. -/

namespace Sys2Proof.Machine

/-- A remaining time in ms (R197); whether a part of a ms rounds up is not stated (log 17). -/
def remainingMs (us : Nat) : Nat :=
  us / 1000 + if us % 1000 != 0 && Config.msRoundsUp us then 1 else 0

/-- A timer in k bytes: remaining ms, all-ones when stopped (R197). -/
def timerBE (k : Nat) (t : Option Nat) : List Byte := absentBE k (t.map remainingMs)

/-- One byte of a number. -/
def byteOf (n : Nat) : Byte := BitVec.ofNat 8 n

/-! ### Identity (space 0) -/

/-- The code of a station kind; all-ones when absent (R203). -/
def kindByte : Option StationKind → Byte
  | some .delay => 0
  | some .origin => 1
  | none => 0xFF

/-- The last duplicate ROLL: unit number and outcome (R203). -/
def duplicateBytes : Option (BitVec 32 × Bool) → List Byte
  | none => [0, 0, 0, 0, 0]
  | some (u, won) => split32 u ++ [if won then 1 else 2]

/-- The byte of the source set that holds the marks of stations 8k..8k + 7 (R203). -/
def sourceByte (sources : List Nat) (k : Nat) : Byte :=
  byteOf ((List.range 8).foldl (fun a j => a + bit (sources.contains (8 * k + j)) j) 0)

/-- Byte 24 of the identity entry (R203). -/
def alarmByte (s : State) : Byte :=
  byteOf (bit s.emc.contact 0 + bit s.emc.resetContact 1 + bit s.emc.latch 2 + bit s.ownAlarm 3 +
    bit s.inEmergency 4 + bit s.emc.refresh.isSome 5)

/-- The WAIT timer (R140). -/
def ListState.waitLeft : ListState → Option Nat
  | .waiting _ left => some left
  | _ => none

/-- The code of the list state (R203). -/
def ListState.code : ListState → Byte
  | .idle => 0
  | .running _ => 1
  | .waiting _ _ => 2

/-- Bytes 33..43: list state and context; the context's fields are absent while the list is IDLE (R140, log 21). -/
def listBytes (l : ListState) : List Byte :=
  match l.context with
  | none => [l.code] ++ List.replicate 10 0xFF
  | some c =>
    [l.code, byteOf c.cue, byteOf c.params.length] ++ (c.params ++ List.replicate 4 0xFF).take 4 ++ bytesBE 2 c.position ++
      timerBE 2 l.waitLeft

/-- The code of a CUE outcome (R203). -/
def CueOutcome.code : CueOutcome → Byte
  | .taken => 1 | .undefined => 2 | .refusedEmergency => 3 | .refusedMode => 4 | .refusedNumber => 5

/-- The last CUE record (R203). -/
def lastCueBytes : Option CueRecord → List Byte
  | none => [0, 0xFF, 0]
  | some r => [byteOf r.source, r.number, r.outcome.code]

/-- The code of an ending (R203). -/
def Ending.code : Ending → Byte
  | .complete => 1 | .undefined => 2 | .overtaken => 3 | .emergency => 4
  | .fault .unknownKind => 5 | .fault .memoryEnd => 6 | .fault .noParameter => 7 | .fault .valueRange => 8

/-- The last list record (R203). -/
def lastListBytes : Option ListRecord → List Byte
  | none => [0xFF, 0, 0xFF, 0xFF]
  | some r => [byteOf r.cue, r.ending.code] ++ bytesBE 2 r.position

/-- The identity entry, 63 bytes (R203). -/
def identityBytes (s : State) : List Byte :=
  split32 s.stc.unit ++
  [byteOf s.number,
   byteOf (bit s.stc.straps.fast 0 + bit s.stc.straps.latched 1 + bit s.stc.straps.activeHigh 2),
   byteOf s.stc.mode.code, byteOf s.stc.reason.code] ++
  split32 (s.stc.identity.elim 0 (·.1)) ++ bytesBE 2 (s.stc.identity.elim 0 (·.2)) ++
  [kindByte s.stc.kind] ++ split16 s.stc.restarts ++ split16 s.stc.duplicates ++
  duplicateBytes s.stc.lastDuplicate ++ [alarmByte s] ++
  (List.range 8).map (sourceByte s.emc.sources) ++
  listBytes s.cue.list ++ lastCueBytes s.cue.lastCue ++ lastListBytes s.cue.lastList ++
  split16 s.cue.overtaken ++ split16 s.cue.undefined ++
  [byteOf s.bus.tfc, byteOf (bit s.bus.txQuiet 0 + bit s.bus.yieldOwed 1), byteOf s.bus.recovery] ++
  [byteOf (queueCount s FrameBody.isEvac), byteOf (queueCount s FrameBody.isMark),
   byteOf (queueCount s FrameBody.isAlign), byteOf (queueCount s FrameBody.isRoll),
   byteOf (queueCount s FrameBody.isReply)]

/-! ### Alignment (space 1) -/

/-- The remaining time of the hold timer, running or suspended. -/
def HoldTimer.left : HoldTimer → Option Nat
  | .stopped => none
  | .running left => some left
  | .suspended left => some left

/-- The code of the hold timer (R203). -/
def HoldTimer.code : HoldTimer → Byte
  | .stopped => 0
  | .running _ => 1
  | .suspended _ => 2

/-- The alignment entry, 32 bytes (R203). -/
def alignmentBytes (s : State) : List Byte :=
  [(solverCode s.solver.state).setWidth 8, byteOf s.solver.rank] ++ bytesBE 3 s.solver.delay ++
  bytesBE 3 s.solver.path ++ absentBE 1 (s.solver.winner.map (·.val)) ++ [byteOf s.solver.offset] ++
  [byteOf (bit s.solver.cueFreeze 0 + bit s.solver.emergencyFreeze 1)] ++ timerBE 3 s.solver.settle ++
  timerBE 3 s.solver.hold.left ++ [s.solver.hold.code] ++ timerBE 3 s.solver.refresh ++ [s.solver.seq] ++
  [byteOf (bit s.solver.handed 0)] ++ temperatureBE s.solver.lastTemperature ++ absentBE 3 s.solver.computed ++
  [byteOf (bit s.solver.range 0)] ++ split16 s.solver.lowClamps ++ [flagsByte 0 (alignFlags s)]

/-! ### Peers (space 2) -/

/-- A list of flights: its count and three places, unused places 0 (R203). -/
def flightBytes (l : List Nat) : List Byte :=
  [byteOf l.length] ++ ((l.map (bytesBE 3)).flatten ++ List.replicate 9 0).take 9

/-- Bytes 8..18: the last record, 0 while none is present (R203). -/
def recordBytes : Option AlignRecord → List Byte
  | none => List.replicate 11 0
  | some r =>
    [r.seq, stateRankByte r.solver r.stateSpare r.rank] ++ split24 r.delay ++ split24 r.path ++
      (match r.temperature with
       | some t => split16 t
       | none => [0x80, 0x00]) ++ [flagsByte r.flagsSpare r.flags]

/-- The binding: kind, SINGLE station or POOL lo, POOL hi; what a kind does not have is absent (R203, log 21). -/
def bindingBytes : Binding → List Byte
  | .unused => [0, 0xFF, 0xFF]
  | .single st => [1, byteOf st, 0xFF]
  | .pool lo hi => [2, byteOf lo, byteOf hi]

/-- The code of an entry state (R203). -/
def EntryState.code : EntryState → Byte
  | .waiting => 0 | .fresh => 1 | .stale => 2 | .lost => 3

/-- The end of an entry of the peers space: lists, effective flight, miss count, last MARK timestamp. -/
def flightRecordBytes (f : FlightRecord) (misses : Option Nat) (mark : Option Instant) : List Byte :=
  flightBytes f.history ++ flightBytes f.suspects ++ absentBE 3 (effectiveFlight f.history) ++ absentBE 1 misses ++
    absentBE 4 (mark.map (·.toNat))

/-- A peer entry, 47 bytes (R203). The fields of an UNUSED entry are absent (R191): its state and miss count are all-ones,
while its flags, the counts of its lists and their places are 0 (log 21). -/
def peerBytes (e : PeerEntry) : List Byte :=
  bindingBytes e.binding ++ [byteOf (e.peer.getD 0)] ++
  [if e.binding = .unused then 0xFF else e.state.code] ++
  [byteOf (bit e.record.isSome 0 + bit e.unread 1 + bit e.flights.stale 2 + bit e.lastMark.isSome 3)] ++
  absentBE 2 e.age ++ recordBytes e.record ++
  flightRecordBytes e.flights (if e.binding = .unused then none else some e.flights.misses) e.lastMark

/-- Entry 16 of the peers space: the self record (R203, log 21). -/
def selfBytes (f : FlightRecord) : List Byte :=
  [3, 0xFF, 0xFF, 0, 0xFF, byteOf (bit f.stale 2)] ++ absentBE 2 none ++ recordBytes none ++
    flightRecordBytes f (some f.misses) none

/-! ### Channels (space 3) -/

/-- A shelf as gain and corner; a flat shelf has gain FFh, and its corner is absent (R197, R203, log 21). -/
def shelfBytes : Option Shelf → List Byte
  | some sh => [byteOf sh.gain, byteOf sh.corner]
  | none => [0xFF, 0xFF]

/-- A setting: preset (FEh FLAT), shelf gain and corner (R203). -/
def settingBytes : Setting → List Byte
  | .flat => [0xFE, 0xFF, 0xFF]
  | .eq p sh => [byteOf p] ++ shelfBytes sh

/-- Entry 0 of the channels space (R203). -/
def stationAudioBytes (s : State) : List Byte :=
  ([byteOf s.slewCode] ++ absentBE 1 s.eq.pathBand ++ absentBE 1 s.eq.humidityBand ++ shelfBytes s.eq.shelf ++
    absentBE 1 (s.eq.cell.map (·.1)) ++ absentBE 1 (s.eq.cell.map (·.2)) ++ [byteOf (bit s.level.present 0)] ++
    [byteOf s.silenceLevel] ++ bytesBE 2 s.standbyDelay) ++ List.replicate 23 0

/-- The code of a slew state (R203). -/
def Slew.code : Slew → Byte
  | .settled => 0 | .up => 1 | .down => 2

/-- The crossfade's to-setting and position (R203). -/
def crossfadeBytes : Crossfade → List Byte
  | .idle => [0xFF, 0xFF, 0xFF, 0xFF, 0xFF]
  | .running _ dst k => settingBytes dst ++ bytesBE 2 k

/-- The pending slot: FFh empty, FEh FLAT (R203). -/
def waitingBytes : Option Setting → List Byte
  | none => [0xFF, 0xFF, 0xFF]
  | some w => settingBytes w

/-- The gain code of a gain target; absent for silence (R203, log 21). -/
def GainTarget.code : GainTarget → Byte
  | .silence => 0xFF
  | .gain g => byteOf g

/-- The code of a power state (R203). -/
def Power.code : Power → Byte
  | .active => 0 | .watch => 1 | .standby => 2 | .waking => 3 | .forcedOff => 4 | .fault => 5

/-- The code of a fault cause (R203). -/
def causeByte : Option FaultCause → Byte
  | none => 0 | some .line => 1 | some .readyLost => 2 | some .timeout => 3

/-- An entry of the channels space, 34 bytes (R203). -/
def channelBytes (s : State) (c : Fin 4) : List Byte :=
  let ch := s.channels[c]
  bytesBE 2 ch.target ++ bytesBE 4 ch.applied ++ [ch.slew.code] ++ bytesBE 2 (s.trim c) ++ split16 ch.jumps ++
  [byteOf ch.preset] ++ settingBytes ch.active ++ crossfadeBytes ch.crossfade ++ waitingBytes ch.waiting ++
  [byteOf ch.storedGain,
   byteOf (bit ch.storedMute 0 + bit (ch.gainTarget == .silence) 1 + bit (ch.ramp != .idle) 2),
   ch.gainTarget.code, ch.power.code, causeByte ch.cause,
   byteOf (bit ch.forcedOff 0 + bit ch.enable 1 + bit ch.ready 2 + bit ch.faultLine 3 + bit (s.autoStandby c) 4)] ++
  timerBE 3 (ch.silence.or ch.wake) ++ bytesBE 2 (s.wakeLimit c)

/-! ### Spaces -/

/-- The bytes of a report space (R191, R203). -/
def spaceBytes (s : State) (space : Nat) : List Byte :=
  match space with
  | 0 => identityBytes s
  | 1 => alignmentBytes s
  | 2 => (s.peers.toList.map peerBytes).flatten ++ selfBytes s.selfRec
  | 3 => stationAudioBytes s ++ ((List.finRange 4).map (channelBytes s)).flatten
  | 4 => (s.counters.toList.map split16).flatten
  | 5 =>
    [if s.air.state = .valid then 1 else 0] ++ temperatureBE (some s.air.temperature) ++ absentBE 1 s.air.humidity ++
      [byteOf s.air.misses]
  | _ => []

/-- The entry size and entry count of a space (R203). -/
def spaceShape (space : Nat) : Nat × Nat :=
  match space with
  | 0 => (63, 1)
  | 1 => (32, 1)
  | 2 => (47, 17)
  | 3 => (34, 5)
  | 4 => (2, 20)
  | 5 => (5, 1)
  | _ => (0, 0)

/-- The size of a space in bytes (R191). -/
def spaceSize (space : Nat) : Nat := (spaceShape space).1 * (spaceShape space).2

/-- The info block of a space: cookie, entry size, entry count (R203). -/
def infoBlock (space : Nat) : BitVec 32 :=
  BitVec.ofNat 16 (0x2A10 + space) ++ BitVec.ofNat 8 (spaceShape space).1 ++ BitVec.ofNat 8 (spaceShape space).2

/-! ### Answering a QUERY (R190, R193 to R195) -/

/-- The flags of a QUERY (R199). -/
def QueryBody.info (q : QueryBody) : Bool := q.flags.getLsbD 0

/-- The flags of a QUERY (R199). -/
def QueryBody.clear (q : QueryBody) : Bool := q.flags.getLsbD 1

/-- The space is not to be had: above 5, or not 0 or 4 in CONFIG_FAULT (R193, condition 1). -/
def noSpace (s : State) (q : QueryBody) : Bool :=
  5 < q.space.toNat || (s.stc.mode == .configFault && q.space.toNat != 0 && q.space.toNat != 4)

/-- The range of a QUERY does not lie in the space (R193, condition 3). -/
def badRange (q : QueryBody) : Bool :=
  q.count.toNat == 0 || 48 < q.count.toNat || spaceSize q.space.toNat < q.offset.toNat + q.count.toNat

/-- The bytes of the snapshot that a QUERY names (R192). -/
def snapshot (s : State) (q : QueryBody) : List Byte :=
  ((spaceBytes s q.space.toNat).drop q.offset.toNat).take q.count.toNat

/-- The content of the REPLY (R193, R194, R199). -/
def replyBody (s : State) (q : QueryBody) : FrameBody :=
  if noSpace s q then .replyStatus 1 q.space q.offset q.count q.flags none
  else if QueryBody.info q then .replyStatus 0 q.space q.offset q.count q.flags (some (infoBlock q.space.toNat))
  else if badRange q then .replyStatus 2 q.space q.offset q.count q.flags none
  else .replyData (q.space.setWidth 3) (q.offset.setWidth 10) (snapshot s q)

/-- Counter k is covered: both of its bytes lie in the range (R195). -/
def covered (q : QueryBody) (k : Nat) : Bool :=
  q.offset.toNat ≤ 2 * k && 2 * k + 2 ≤ q.offset.toNat + q.count.toNat

/-- The QUERY clears counters once its REPLY is admitted: space 4, OK, INFO clear, CLEAR set (R195). -/
def clears (s : State) (q : QueryBody) : Bool :=
  QueryBody.clear q && q.space == 4#8 && !noSpace s q && !QueryBody.info q && !badRange q

/-- Every covered counter is set to 0 (R195). -/
def clearCounters (q : QueryBody) (s : State) : State :=
  s.modCounters fun v => tabulate 20 fun k => if covered q k then 0 else v[k]

/-- A QUERY is answered in ANNOUNCE, RUN and CONFIG_FAULT (R190). -/
def answers (s : State) : Bool := s.stc.mode == .announce || s.stc.mode == .run || s.stc.mode == .configFault

/-- A QUERY addressed to this station is handed over (R190, R192 to R195): the REPLY is composed from the state of that
moment and handed to the queue, and a clear is applied after its admission. -/
def answerQuery (source : Nat) (q : QueryBody) (s : State) : State :=
  if answers s then
    let body := replyBody s q
    let admitted := admission s body != .refused
    let t := handFrame ⟨s.number, source, body⟩ s
    if admitted && clears s q then clearCounters q t else t
  else s

end Sys2Proof.Machine
end

