-- ==== Sys2Proof/Machine/Receive.lean ====
section
/-! DEFINITION. The receive side of the Zone Bus Interface (section 9.2): framing, checks and hand-over. The commands
LINE_CHARACTER and INTER_FRAME_GAP, and the rows of the received frames, each the confirmation of one whole valid frame
(log 4): ALIGN, ROLL, MARK, EVAC, CUE, QUERY, RESTART, REPLY and DUPLICATE_FRAME. -/

namespace Sys2Proof.Machine

/-! ### Confirmation and hand-over (R161 to R164) -/

/-- TX_QUIET ends: TFC becomes 0 and the recovery count returns to 0 (R173). -/
def recover (s : State) : State := s.modBus fun b => { b with tfc := 0, txQuiet := false, recovery := 0 }

/-- A valid frame of another station is counted (R161): in rx good, and while TX_QUIET in the recovery count, which ends
TX_QUIET at 128 (R173). -/
def countValid (s : State) : State :=
  let s := bump .rxGood s
  if s.bus.txQuiet then
    if s.bus.recovery + 1 = 128 then recover s else s.modBus fun b => { b with recovery := b.recovery + 1 }
  else s

/-- The content when it is a ROLL. -/
def FrameBody.asRoll : FrameBody → Option RollBody
  | .roll b => some b
  | _ => none

/-- A kept frame is handed to the block that takes its kind (R164). `straps` are the strap pins, which a warm restart
samples; `burst` says where a run of cue actions is interrupted. -/
def dispatch (f : Frame) (stamp : Instant) (straps : Straps) (burst : Option Nat) (s : State) : State :=
  match f.body with
  | .align r => event (fun s => takeContactFlag f.src r.flags.contact (tableTakesAlign f.src r s)) s
  | .roll b => event (takeContactFlag f.src b.contact) s
  | .mark => event (takeMark f.src stamp) s
  | .evac set => event (takeEvac f.src set) s
  | .cue n ps => takeCue f.src n ps burst s
  | .query q => event (answerQuery f.src q) s
  | .restart u => event (takeRestart u straps) s
  | .replyData .. | .replyStatus .. => s

/-- A frame whose CRC agrees is confirmed (R161 to R164): malformed, it is discarded and counted; from this station's own
number it goes to Start-up Control alone; otherwise it is kept when its destination is 63 or this station. -/
def confirmFrame (f : Frame) (stamp : Instant) (straps : Straps) (burst : Option Nat) (s : State) : State :=
  if isStation f.src && f.body.destinationAllowed f.dst then
    let s := countValid s
    if f.src = s.number then event (takeDuplicate (FrameBody.asRoll f.body)) s
    else if f.dst = 63 ∨ f.dst = s.number then dispatch f stamp straps burst s
    else s
  else bump .rxMalformed s

/-! ### Framing (R159, R160) -/

/-- The length declared by a header: 4 + payload + 1 (R159); `none` before the header is complete. -/
def declaredLength : List Byte → Option Nat
  | b0 :: _ :: _ :: b3 :: _ => some (4 + declaredPayload b0 b3 + 1)
  | _ => none

/-- The assembly moves to DISCARDING, counted once (R160). -/
def discardFrame (k : Counter) (s : State) : State := bump k (s.modBus fun b => { b with assembly := .discarding })

/-- A good character is taken into a frame (R159, R160). -/
def growFrame (chars : List Byte) (s : State) : State :=
  match declaredLength chars with
  | none => s.modBus fun b => { b with assembly := .assembling chars }
  | some len =>
    if 53 < len then discardFrame .rxMalformed s
    else if chars.length = len then s.modBus fun b => { b with assembly := .complete chars s.timeBase false }
    else s.modBus fun b => { b with assembly := .assembling chars }

/-- The receive assembly takes a character (R159, R160). After any complete frame it is overlong, this station's own
transmission included: R160 names no exception, and R162 speaks of a frame confirmed (log 37). -/
def assemble (char : LineChar) (s : State) : State :=
  match s.bus.assembly, char with
  | .seeking true, .good b => growFrame [b] s
  | .seeking _, _ => s.modBus fun b => { b with assembly := .seeking false }
  | .assembling chars, .good b => growFrame (chars ++ [b]) s
  | .assembling _, .broken => discardFrame .rxCrc s
  | .complete .., _ => discardFrame .rxOverlong s
  | .discarding, _ => s

/-- LINE_CHARACTER (R159, R160): line activity ends with the character, so the idle time is 0; a character this station
did not drive clears the owed yield (R170). -/
def execLineCharacter (char : LineChar) (driven : Bool) (s : State) : Host.Outcome State Fault Refusal :=
  .next (assemble char (s.modBus fun b => { b with idleMicros := 0, yieldOwed := b.yieldOwed && driven }))

/-- A complete frame followed by G of idle is checked (R161). -/
def checkFrame (chars : List Byte) (stamp : Instant) (burst : Option Nat) (s : State) : State :=
  if crcAgrees chars then
    match parseFrame chars with
    | some f => confirmFrame f stamp s.stc.strapPins burst s
    | none => bump .rxMalformed s
  else bump .rxCrc s

/-- INTER_FRAME_GAP (R159 to R161): idle time reaches G. -/
def execInterFrameGap (burst : Option Nat) (s : State) : Host.Outcome State Fault Refusal :=
  let ready := s.modBus fun b =>
    { b with assembly := .seeking true, idleMicros := max b.idleMicros (gapChars * s.characterTime) }
  .next (match s.bus.assembly with
    | .seeking _ | .discarding => ready
    | .assembling _ => bump .rxTruncated ready
    | .complete chars stamp own => if own then ready else checkFrame chars stamp burst ready)

/-! ### The rows of the received frames -/

/-- ALIGN (R3, R129). -/
def execAlign (src : Nat) (r : AlignRecord) (s : State) : Host.Outcome State Fault Refusal :=
  .next (confirmFrame ⟨src, 63, .align r⟩ s.timeBase s.stc.strapPins none s)

/-- ROLL (R129). -/
def execRoll (src : Nat) (b : RollBody) (s : State) : Host.Outcome State Fault Refusal :=
  .next (confirmFrame ⟨src, 63, .roll b⟩ s.timeBase s.stc.strapPins none s)

/-- MARK (R35), with its end-of-frame timestamp. -/
def execMark (src : Nat) (stamp : Instant) (s : State) : Host.Outcome State Fault Refusal :=
  .next (confirmFrame ⟨src, 63, .mark⟩ stamp s.stc.strapPins none s)

/-- EVAC (R128). -/
def execEvac (src : Nat) (set : Bool) (s : State) : Host.Outcome State Fault Refusal :=
  .next (confirmFrame ⟨src, 63, .evac set⟩ s.timeBase s.stc.strapPins none s)

/-- CUE (R142 to R145). A frame with more than 4 parameters is malformed (R161, R199). -/
def execCue (src dst : Nat) (n : Byte) (ps : List Byte) (burst : Option Nat) (s : State) :
    Host.Outcome State Fault Refusal :=
  .next (if ps.length ≤ 4 then confirmFrame ⟨src, dst, .cue n ps⟩ s.timeBase s.stc.strapPins burst s
    else bump .rxMalformed s)

/-- QUERY (R190). -/
def execQuery (src dst : Nat) (q : QueryBody) (s : State) : Host.Outcome State Fault Refusal :=
  .next (confirmFrame ⟨src, dst, .query q⟩ s.timeBase s.stc.strapPins none s)

/-- RESTART (R187): a warm restart samples the strap pins as they stand at that moment. -/
def execRestart (src : Nat) (unit : BitVec 32) (straps : Straps) (s : State) : Host.Outcome State Fault Refusal :=
  .next (confirmFrame ⟨src, 63, .restart unit⟩ s.timeBase straps none
    (s.modStc fun c => { c with strapPins := straps }))

/-- REPLY (R164): counted and handed to no block. Its content is not looked at. -/
def execReply (src dst : Nat) (s : State) : Host.Outcome State Fault Refusal :=
  .next (confirmFrame ⟨src, dst, .replyStatus 0 0 0 0 0 none⟩ s.timeBase s.stc.strapPins none s)

/-- DUPLICATE_FRAME (R183): a valid frame with this station's own number as source. -/
def execDuplicateFrame (roll : Option RollBody) (s : State) : Host.Outcome State Fault Refusal :=
  .next (confirmFrame ⟨s.number, 63, (match roll with | some b => .roll b | none => .mark)⟩ s.timeBase
    s.stc.strapPins none s)

/-- TX_QUIET_RECOVERY (R173): the recovery count reaches 128. -/
def execTxQuietRecovery (s : State) : Host.Outcome State Fault Refusal :=
  .next (if s.bus.txQuiet then recover s else s)

end Sys2Proof.Machine
end

