-- ==== Sys2Proof/Machine/Transmit.lean ====
section
/-! DEFINITION. The transmit side of the Zone Bus Interface (sections 9.4, 9.5): attempts, success, collision, fault
confinement. The commands TX_ATTEMPT, TX_SUCCESS and TX_COLLISION. -/

namespace Sys2Proof.Machine

/-- The start delay of a frame in character times (R169): G + 64 × class + number, plus 192 when the yield is owed and
the frame is not an EVAC. -/
def startDelay (s : State) (f : FrameBody) : Nat :=
  gapChars + 64 * f.cls + s.number + if s.bus.yieldOwed && !f.isEvac then 192 else 0

/-- An attempt may begin (R169): not TX_QUIET, not CONFLICT, none under way. -/
def mayAttempt (s : State) : Bool := !s.bus.txQuiet && s.stc.mode != .conflict && s.bus.attempt.isNone

/-- An attempt begins on the head: its attempted mark is set, and the frame copy is driven (R165, R169). -/
def beginAttempt (head : QueueEntry) (rest : List QueueEntry) (b : Bus) : Bus :=
  { b with
    queue := { head with attempted := true } :: rest
    attempt := some ⟨head.arrival, head.frame, false, false⟩ }

/-- TX_ATTEMPT (R169): idle time reaches the head frame's start delay. -/
def execTxAttempt (s : State) : Host.Outcome State Fault Refusal :=
  .next (match s.bus.queue with
    | [] => s
    | head :: rest =>
      if mayAttempt s then
        s.modBus fun b =>
          { beginAttempt head rest b with
            idleMicros := max b.idleMicros (startDelay s head.frame.body * s.characterTime) }
      else s)

/-- The frame assembled is this station's own transmission (R162). -/
def Assembly.markOwn : Assembly → Assembly
  | .complete chars stamp _ => .complete chars stamp true
  | a => a

/-- The bus at a success (R171): TFC falls, the entry is removed unless its frame was replaced, the yield becomes owed. -/
def attemptSucceeded (a : Attempt) (b : Bus) : Bus :=
  { b with
    attempt := none
    tfc := b.tfc - 1
    yieldOwed := true
    assembly := b.assembly.markOwn
    queue := if a.superseded then b.queue else b.queue.filter fun e => e.arrival != a.arrival }

/-- TX_SUCCESS (R171): the last stop bit is read back as driven; the own end-of-MARK goes to the Probe Unit (R26). -/
def execTxSuccess (s : State) : Host.Outcome State Fault Refusal :=
  .next (event (fun s =>
    match s.bus.attempt with
    | none => s
    | some a =>
      let s := bump .txGood (s.modBus (attemptSucceeded a))
      if a.frame.body.isMark then ownEndOfMark s.timeBase s else s) s)

/-- TX_QUIET is entered (R172): the queue is emptied, and a round in WAKING or MARKING is aborted (R32). -/
def enterTxQuiet (s : State) : State :=
  let s := bump .txQuietEntries (emptyQueue s)
  let s := s.modBus fun b => { b with txQuiet := true, recovery := 0 }
  match s.probe.round with
  | .waking | .marking => abortRound false s
  | .idle | .emitting => s

/-- The bus at a failure (R171): TFC rises by 8; the entry stays, or is removed if it is a MARK marked at its deadline
(R168). -/
def attemptFailed (a : Attempt) (b : Bus) : Bus :=
  { b with
    attempt := none
    tfc := b.tfc + 8
    queue := if a.dropOnFailure then b.queue.filter fun e => e.arrival != a.arrival else b.queue }

/-- TX_COLLISION (R171, R172): a character is read back wrong or broken. -/
def execTxCollision (s : State) : Host.Outcome State Fault Refusal :=
  .next (event (fun s =>
    match s.bus.attempt with
    | none => s
    | some a =>
      let s := bump .txCollision (s.modBus (attemptFailed a))
      let s := if a.dropOnFailure then abortRound false s else s
      if 64 ≤ s.bus.tfc then enterTxQuiet s else s) s)

end Sys2Proof.Machine
end

