-- ==== Sys2Proof/Machine/Sample.lean ====
section
/-! DEFINITION. One programme sample: the level detector (R109), the delay memory (R73, R74, R80), the chain and its gain
(R87, R96, R102), the output gate, the probe sequence and the microphone (R28, R37, R121, R122). The command
PROGRAMME_SAMPLE. Its parts stand in the order of log 27. -/

namespace Sys2Proof.Machine

/-! ### The level detector (R109) -/

/-- The largest absolute value among samples. -/
def largest (xs : List Int) : Nat := xs.foldl (fun m x => max m x.natAbs) 0

/-- A level at or above −`t` dBFS: level ≥ full scale × 10^(−t/20), without roots (R109). -/
def levelPresent (level t : Nat) : Bool := Config.fullScale ^ 20 ≤ level ^ 20 * 10 ^ t

/-- The judgement of a sample: the level over it and the 479 before it against the silence threshold (R109). -/
def judgeSample (s : State) (x : Int) : Bool := levelPresent (largest (x :: s.level.history)) s.silenceLevel

/-! ### Writing (R73, R109) -/

/-- The sample and its presence mark are written at the write position, and the sample joins the level history. -/
def writeSample (x : Int) (present : Bool) (s : State) : State :=
  let at' := s.delay.writePos
  (s.modDelay fun d => { d with memory := Cells.write 0 d.memory at' x }).modLevel fun l =>
    { l with marks := Cells.write false l.marks at' present, history := (x :: l.history).take 479 }

/-- The write position advances by one, from 65,535 back to 0 (R73). -/
def advanceWrite (s : State) : State := s.modDelay fun d => { d with writePos := (d.writePos + 1) % 65536 }

/-! ### One channel -/

/-- The read position: the write position of this sample minus the applied delay, rounded down to a whole sample, counted
backward around the memory (R74, R109). -/
def readPosition (s : State) (ch : Channel) : Nat := (s.delay.writePos + 65536 - ch.applied / 4096 % 65536) % 65536

/-- The stored samples on the newer side of a fractional read position, nearest first: at most 128, up to the sample
written in this programme sample (R74, log 15). -/
def newerSide (s : State) (ch : Channel) : List Int :=
  (List.range (min 128 (ch.applied / 4096 + 1))).map fun k => delaySample s ((readPosition s ch + k) % 65536)

/-- The 128 stored samples on the older side of a fractional read position, nearest first (R74). -/
def olderSide (s : State) (ch : Channel) : List Int :=
  (List.range 128).map fun k => delaySample s ((readPosition s ch + 65535 - k) % 65536)

/-- What a channel reads (R74): the stored sample at a whole applied delay, else the value interpolated between the stored
samples on either side of the read position. -/
def channelRead (s : State) (ch : Channel) : Int :=
  if ch.applied % 4096 = 0 then delaySample s (readPosition s ch)
  else Config.interpolated (newerSide s ch) (olderSide s ch) (ch.applied % 4096)

/-- The applied gain factor of this sample: a ramp at position k stands at (k + 1) / 960 of its way, and ends at 959
(R102). -/
def Channel.stepRamp (ch : Channel) : Channel :=
  match ch.ramp with
  | .idle => ch
  | .running start k =>
    if 959 ≤ k then ch.completeRamp
    else { ch with factor := .ramp start ch.gainTarget (k + 1), ramp := .running start (k + 1) }

/-- The crossfade position advances; after the sample at 2,399 the crossfade ends (R96, R98). -/
def Channel.stepCrossfade (ch : Channel) : Channel :=
  match ch.crossfade with
  | .idle => ch
  | .running src dst k =>
    if 2399 ≤ k then ch.endCrossfade else { ch with crossfade := .running src dst (k + 1) }

/-- The fade position advances; after the sample at 47 the gate passes unweighted (R121). -/
def Channel.stepFade (ch : Channel) : Channel :=
  { ch with fade := ch.fade.bind fun k => if 47 ≤ k then none else some (k + 1) }

/-- The weight of this sample at the gate, in 48ths (R121). -/
def Channel.fadeWeight (ch : Channel) : Nat := ch.fade.elim 48 (· + 1)

/-- The programme part of the output: the chain's output where the gate is open, else silence (R121). -/
def Channel.gateOut (ch : Channel) : Option ProgrammeOut :=
  if ch.power.gateOpen then some ⟨ch.chain, ch.fadeWeight⟩ else none

/-- The value of a sample that the gate lets out, in the unit of a programme sample: what the equaliser passes on, by the gain
factor and the weight of the opening fade (R87, R101, R121). -/
noncomputable def ProgrammeOut.value (o : ProgrammeOut) : ℝ :=
  o.chain.eq / 2400 * o.chain.gain.amplitude * (o.weight / 48)

/-- The probe sample that leaves a channel: this station's sequence on the probe channel during the emission (R28). -/
def probeOut (s : State) (c : Fin 4) : Option ProbeOut :=
  if s.probe.round = .emitting ∧ s.probe.started = true ∧ s.probeChannel = some c then
    some ⟨s.number, s.probe.position, s.probe.lag, s.image.elim 0 (·.probeLevel)⟩
  else none

/-- A sample gated to silence in WAKING is lost when its presence mark is present and the channel is not muted (R122). -/
def losesSample (s : State) (ch : Channel) : Bool :=
  ch.power == .waking && presenceMark s (readPosition s ch) && !ch.muted

/-- A channel takes one programme sample: its slew step (R80), its read, its factor and its chain in every power state
(R87), its gate, and the positions of its crossfade and fade. -/
def sampleChannel (c : Fin 4) (s : State) : State :=
  let moved := (s.channels[c].slewOnce s.slewStep).stepRamp
  let formed := equalise s c (channelRead s moved) moved
  s.modChannel c fun _ =>
    { formed.stepCrossfade.stepFade with
      output := ⟨formed.gateOut, probeOut s c⟩
      wakeLoss := moved.wakeLoss || losesSample s moved }

/-! ### The microphone (R37) -/

/-- The sample at the microphone input enters every open capture window (R37, log 28). -/
def hearSample (x : Int) (s : State) : State :=
  s.modProbe fun u => { u with slots := mapVector (Slot.hear s.timeBase x) u.slots }

/-! ### The emission (R28) -/

/-- The first programme sample of an emission fixes how many µs the programme samples lie after the places of the sequence's
samples, whose first is due at own end-of-MARK + 2,000 µs (R28). -/
def placeEmission (s : State) : State :=
  match s.probe.startsAt with
  | some due =>
    if s.probe.started = true ∧ s.probe.position = 0 then
      s.modProbe fun u => { u with lag := if reached due s.timeBase then (s.timeBase - due).toNat else 0 }
    else s
  | none => s

/-- The emission position advances; when the sample at 8,191 has left, the emission ends (R28). -/
def advanceEmission (s : State) : State :=
  if s.probe.round = .emitting ∧ s.probe.started = true then
    if 8191 ≤ s.probe.position then endEmission s
    else s.modProbe fun u => { u with position := u.position + 1 }
  else s

/-- One programme sample, with the microphone's sample of the same moment (log 27, log 28). -/
def takeSample (x microphone : Int) (s : State) : State :=
  let present := judgeSample s x
  let s := writeSample x present (setJudgement present s)
  advanceEmission (advanceWrite (forChannels sampleChannel (placeEmission (hearSample microphone s))))

/-- PROGRAMME_SAMPLE (R73). -/
def execProgrammeSample (sample : AudioInput) (s : State) : Host.Outcome State Fault Refusal :=
  .next (event (takeSample sample.programme sample.microphone) s)

end Sys2Proof.Machine
end

