-- ==== Sys2Proof/Machine/Tick.lean ====
section
/-! DEFINITION. What the block does when no command waits (log 3): a paused run of cue actions goes on by one action, else 1 µs of the
time base passes. A timer that stands at 0 waits for the command of its expiry. -/

namespace Sys2Proof.Machine

/-- 1 µs of the image read's limit (R178). -/
def ImageRead.tick : ImageRead → ImageRead
  | .none => .none
  | .header left => .header (left - 1)
  | .body h left => .body h (left - 1)

/-- 1 µs of the WAIT timer (R152). -/
def ListState.tick : ListState → ListState
  | .waiting c left => .waiting c (left - 1)
  | l => l

/-- 1 µs at a channel: its silence timer and its wake timer (R111). -/
def Channel.tick (ch : Channel) : Channel := { ch with silence := tickTimer ch.silence, wake := tickTimer ch.wake }

/-- 1 µs passes: the time base (R157), the idle time (R158) and every running timer. -/
def tick (s : State) : State :=
  { s with
    stc := { s.stc with claim := tickTimer s.stc.claim, reading := s.stc.reading.tick }
    bus := { s.bus with idleMicros := s.bus.idleMicros + 1 }
    probe := { s.probe with timer := tickTimer s.probe.timer, deadline := tickTimer s.probe.deadline }
    air := { s.air with request := tickTimer s.air.request }
    solver :=
      { s.solver with
        settle := tickTimer s.solver.settle
        hold := s.solver.hold.tick
        refresh := tickTimer s.solver.refresh }
    channels := mapVector Channel.tick s.channels
    cue := { s.cue with list := s.cue.list.tick }
    emc :=
      { s.emc with
        contactSpan := tickTimer s.emc.contactSpan
        resetSpan := tickTimer s.emc.resetSpan
        refresh := tickTimer s.emc.refresh }
    timeBase := s.timeBase + 1#32 }

/-- A list is RUNNING: a run of its actions was interrupted (R145, log 6). -/
def ListState.isRunning : ListState → Bool
  | .running _ => true
  | _ => false

/-- A step with nothing waiting: an interrupted run goes on at once by one action, so that other events may be taken
between any two (R145), or 1 µs passes. -/
def idle (s : State) : State := if s.cue.list.isRunning then runList (some 0) s else tick s

/-- Put a command at the front of the queue. -/
def State.push (c : Instr) (s : State) : State := s.setPending (c :: s.pending)

end Sys2Proof.Machine
end

