-- ==== Sys2Proof/Machine/Dispatch.lean ====
section
/-! DEFINITION. The dispatch: one arm per command, each a direct call of its meaning. -/

namespace Sys2Proof.Machine

/-- The effect of a command on everything but the queue. -/
def exec (i : Instr) (s : State) : Host.Outcome State Fault Refusal :=
  match i with
  | .hardReset straps => Sys2Proof.Machine.execHardReset straps s
  | .imageHeaderRead header => Sys2Proof.Machine.execImageHeaderRead header s
  | .imageReadTimeout => Sys2Proof.Machine.execImageReadTimeout s
  | .imageReadComplete rest => Sys2Proof.Machine.execImageReadComplete rest s
  | .claimTimerExpiry => Sys2Proof.Machine.execClaimTimerExpiry s
  | .align src record => Sys2Proof.Machine.execAlign src record s
  | .roll src body => Sys2Proof.Machine.execRoll src body s
  | .mark src stamp => Sys2Proof.Machine.execMark src stamp s
  | .evac src set => Sys2Proof.Machine.execEvac src set s
  | .cue src dst number params burst => Sys2Proof.Machine.execCue src dst number params burst s
  | .waitTimerExpiry burst => Sys2Proof.Machine.execWaitTimerExpiry burst s
  | .query src dst body => Sys2Proof.Machine.execQuery src dst body s
  | .restart src unit straps => Sys2Proof.Machine.execRestart src unit straps s
  | .reply src dst => Sys2Proof.Machine.execReply src dst s
  | .duplicateFrame roll => Sys2Proof.Machine.execDuplicateFrame roll s
  | .interFrameGap burst => Sys2Proof.Machine.execInterFrameGap burst s
  | .txAttempt => Sys2Proof.Machine.execTxAttempt s
  | .txSuccess => Sys2Proof.Machine.execTxSuccess s
  | .txCollision => Sys2Proof.Machine.execTxCollision s
  | .txQuietRecovery => Sys2Proof.Machine.execTxQuietRecovery s
  | .probeTimerExpiry => Sys2Proof.Machine.execProbeTimerExpiry s
  | .markDeadlineExpiry => Sys2Proof.Machine.execMarkDeadlineExpiry s
  | .emissionStart => Sys2Proof.Machine.execEmissionStart s
  | .emissionEnd => Sys2Proof.Machine.execEmissionEnd s
  | .windowClose slot => Sys2Proof.Machine.execWindowClose slot s
  | .secondTick => Sys2Proof.Machine.execSecondTick s
  | .entryStale entry => Sys2Proof.Machine.execEntryStale entry s
  | .entryLost entry => Sys2Proof.Machine.execEntryLost entry s
  | .poolRelease entry => Sys2Proof.Machine.execPoolRelease entry s
  | .airReply reply => Sys2Proof.Machine.execAirReply reply s
  | .airReplyTimeout => Sys2Proof.Machine.execAirReplyTimeout s
  | .settleExpiry => Sys2Proof.Machine.execSettleExpiry s
  | .holdTimerExpiry => Sys2Proof.Machine.execHoldTimerExpiry s
  | .refreshTimerExpiry => Sys2Proof.Machine.execRefreshTimerExpiry s
  | .slewComplete channel => Sys2Proof.Machine.execSlewComplete channel s
  | .crossfadeEnd channel => Sys2Proof.Machine.execCrossfadeEnd channel s
  | .rampEnd channel => Sys2Proof.Machine.execRampEnd channel s
  | .programmeJudgementChange present => Sys2Proof.Machine.execProgrammeJudgementChange present s
  | .silenceTimerExpiry channel => Sys2Proof.Machine.execSilenceTimerExpiry channel s
  | .readyAsserted channel => Sys2Proof.Machine.execReadyAsserted channel s
  | .readyLost channel => Sys2Proof.Machine.execReadyLost channel s
  | .faultLineAsserted channel => Sys2Proof.Machine.execFaultLineAsserted channel s
  | .faultLineReleased channel => Sys2Proof.Machine.execFaultLineReleased channel s
  | .wakeTimerExpiry channel => Sys2Proof.Machine.execWakeTimerExpiry channel s
  | .gateFadeEnd channel => Sys2Proof.Machine.execGateFadeEnd channel s
  | .lostSample channel => Sys2Proof.Machine.execLostSample channel s
  | .contactPinChange line level => Sys2Proof.Machine.execContactPinChange line level s
  | .debouncedContactAsserted => Sys2Proof.Machine.execDebouncedContactAsserted s
  | .debouncedContactReleased => Sys2Proof.Machine.execDebouncedContactReleased s
  | .resetContactAsserted => Sys2Proof.Machine.execResetContactAsserted s
  | .resetContactReleased => Sys2Proof.Machine.execResetContactReleased s
  | .evacRefreshExpiry => Sys2Proof.Machine.execEvacRefreshExpiry s
  | .correlatorPeak slot offset score => Sys2Proof.Machine.execCorrelatorPeak slot offset score s
  | .programmeSample sample => Sys2Proof.Machine.execProgrammeSample sample s
  | .lineCharacter char driven => Sys2Proof.Machine.execLineCharacter char driven s

end Sys2Proof.Machine
end

