-- ==== Sys2Proof/Safety.lean ====
section
/-! DEFINITION. What counts as a lawful state: the laws that the manual states of the part, block by block, each with what
it rests on, so that every step keeps them all. -/

namespace Sys2Proof.Machine

/-! ### Start-up (R176, R186, R200) -/

/-- The ranges of an installed image that other laws rest on (R200, R201). -/
def ImageRanges (img : Image) : Prop :=
  img.originDelay ≤ 100000 ∧ img.fallbackDelay ≤ 1340000 ∧ img.offset ≤ 60 ∧ img.cueBytes.length ≤ 512 ∧
  (∀ c : Fin 4, img.channels[c].trim ≤ 960 ∧ img.channels[c].startGain ≤ 184 ∧ img.channels[c].evacGain ≤ 184 ∧
    img.channels[c].evacPreset ≤ 3)

/-- The image, its identity and the station kind are held in ANNOUNCE, RUN and CONFLICT alone, the claim timer runs in
ANNOUNCE alone, the image is read in LOADING alone, and a fault reason stands in CONFIG_FAULT alone (R176, R180, R186). -/
def StartLaw (s : State) : Prop :=
  (s.image.isSome = true ↔ s.stc.mode = .announce ∨ s.stc.mode = .run ∨ s.stc.mode = .conflict) ∧
  (∀ img, s.image = some img → ImageRanges img) ∧
  s.stc.kind = s.image.map (·.kind) ∧
  s.stc.identity = s.image.map (fun img => (img.id, img.length)) ∧
  (s.stc.claim.isSome = true ↔ s.stc.mode = .announce) ∧
  (s.stc.reading ≠ .none ↔ s.stc.mode = .loading) ∧
  (s.stc.reason ≠ .none ↔ s.stc.mode = .configFault) ∧
  (isStation s.number = true ∨ s.stc.mode = .configFault)

/-- What holds until the station serves its zone (R82, R83, R106, R118, R120): D and the path time are 0; in LOADING and
ANNOUNCE every channel stands in STANDBY, FLAT and silent; in LOADING and CONFIG_FAULT every target is 0; in CONFIG_FAULT
every channel is FLAT, and out of EMERGENCY in STANDBY and silent. -/
def HeldLaw (s : State) : Prop :=
  (s.serving = false → s.solver.delay = 0 ∧ s.solver.path = 0) ∧
  (s.stc.mode = .loading ∨ s.stc.mode = .announce → ∀ c : Fin 4,
    s.channels[c].power = .standby ∧ s.channels[c].active = .flat ∧ s.channels[c].gainTarget = .silence) ∧
  (s.stc.mode = .loading ∨ s.stc.mode = .configFault → ∀ c : Fin 4, s.channels[c].target = 0) ∧
  (s.stc.mode = .configFault → ∀ c : Fin 4, s.channels[c].active = .flat ∧ s.channels[c].crossfade = .idle) ∧
  (s.stc.mode = .configFault → s.emc.emergency = false → ∀ c : Fin 4,
    s.channels[c].power = .standby ∧ s.channels[c].gainTarget = .silence)

/-! ### Peer Record Table (R4, R16) -/

/-- A list of flights of at most 3 values, and a suspect list of at most 3. -/
def FlightRecord.bounded (f : FlightRecord) : Prop :=
  f.history.length ≤ 3 ∧ f.suspects.length ≤ 3 ∧ f.misses ≤ 255

/-- What the binding and the state of an entry fix of its other fields (R1, R2, section 1.3). -/
def EntryLaw (e : PeerEntry) : Prop :=
  (e.binding = .unused → e.peer = none) ∧
  (∀ st, e.binding = .single st → e.peer = some st) ∧
  (∀ st, e.peer = some st → isStation st = true) ∧
  (e.peer = none → e.flights.history = [] ∧ e.flights.suspects = []) ∧
  (e.record.isSome = true ↔ e.state = .fresh ∨ e.state = .stale) ∧
  (e.record.isSome = true → e.peer.isSome = true) ∧
  (e.unread = true → e.record.isSome = true) ∧
  e.flights.bounded

/-- The two laws of the table: no two entries hold the same peer station and none holds the own number (R4); every list
holds at most 3 values, and an entry without a station holds none (R16). -/
def TableLaw (s : State) : Prop :=
  (∀ i : Fin 16, EntryLaw s.peers[i] ∧ s.peers[i].peer ≠ some s.number) ∧
  (∀ i j : Fin 16, i ≠ j → s.peers[i].peer = s.peers[j].peer → s.peers[i].peer = none) ∧
  s.selfRec.bounded ∧
  (∀ (i : Fin 16) (k : KeptLists), s.stc.kept[i] = some k → k.history.length ≤ 3 ∧ k.suspects.length ≤ 3)

/-! ### Probe Unit (R34, R39) -/

/-- A window (R37, R39): no more samples heard than it spans, no lead before the first of them, and its peaks at most 8,
earliest first, none later than the latest found, each at least half the best score, and at least one once there is a best
score. -/
def WindowLaw (w : Window) : Prop :=
  w.best ≤ 255 ∧ w.heard.length ≤ 73920 ∧ (w.heard = [] → w.lead = 0) ∧
  (∀ p ∈ w.peaks, ∃ l, w.latest = some l ∧ p.offset ≤ l) ∧
  w.peaks.length ≤ 8 ∧ w.peaks.Pairwise (fun p q => p.offset < q.offset) ∧ (∀ p ∈ w.peaks, w.best ≤ p.score * 2) ∧
  (w.best ≠ 0 → w.peaks ≠ [])

/-- A slot on its own: a reservation is this station's, for a round whose MARK has not been read back (R34). -/
def SlotState (s : State) : Slot → Prop
  | .free => True
  | .reserved o => o = s.number ∧ (s.probe.round = .waking ∨ s.probe.round = .marking)
  | .opened w => WindowLaw w

/-- The law of the capture slots (R34): the two slots never have the same owner, so at most one is RESERVED and no two
open windows belong to the same source. -/
def SlotLaw (s : State) : Prop :=
  (∀ i : Fin 2, SlotState s s.probe.slots[i]) ∧
  (s.probe.slots[0].owner = s.probe.slots[1].owner → s.probe.slots[0].owner = none) ∧
  s.probe.position ≤ 8191

/-- The law of the probe round (R23, R24, R26, R28, R30, R32): a round runs in RUN alone, with the probe timer stopped; the
MARK deadline runs in MARKING alone, the emission stands due and its position runs in EMITTING alone, a reservation stands
from the start of the round to its own end-of-MARK, only a MARK is marked for removal on failure (R168), and in MARKING and
EMITTING the probe channel is in ACTIVE or WATCH (R31). -/
def RoundLaw (s : State) : Prop :=
  (s.stc.mode ≠ .run → s.probe.round = .idle ∧ s.probe.timer = none) ∧
  (s.probe.round ≠ .idle → s.probe.timer = none) ∧
  (s.probe.round ≠ .marking → s.probe.deadline = none) ∧
  (s.probe.round ≠ .emitting → s.probe.started = false ∧ s.probe.position = 0 ∧ s.probe.startsAt = none ∧ s.probe.lag = 0) ∧
  (s.probe.round = .emitting → s.probe.startsAt.isSome = true) ∧
  (s.probe.round = .marking ∨ s.probe.round = .emitting → ∃ img, s.image = some img ∧
    (s.channels[img.probeChannel].power = .active ∨ s.channels[img.probeChannel].power = .watch)) ∧
  (s.probe.round = .waking ∨ s.probe.round = .marking → ∃ i : Fin 2, s.probe.slots[i] = .reserved s.number) ∧
  (∀ a, s.bus.attempt = some a → a.dropOnFailure = true → a.frame.body.isMark = true)

/-! ### Alignment Solver (R68, R71) -/

/-- The law of the solver's target (R68), and the ranges of R51. -/
def TargetLaw (s : State) : Prop :=
  s.solver.delay ≤ 1340000 ∧ s.solver.path ≤ 16777215 ∧ s.solver.offset ≤ 60 ∧
  (∀ d, s.solver.computed = some d → d ≤ 1340000)

/-- The rank that a station of a kind may carry with a solver state (R71): 0 at an origin station; else 1..15, with 15
exactly in FALLBACK. -/
def RankOk (kind : Option StationKind) (state : SolverState) (rank : Nat) : Prop :=
  match kind with
  | none => False
  | some .origin => rank = 0
  | some .delay => 1 ≤ rank ∧ rank ≤ 15 ∧ (rank = 15 ↔ state = .fallback)

/-- A frame's ALIGN record carries a rank that R71 allows. -/
def frameRankOk (kind : Option StationKind) (f : Frame) : Prop :=
  match f.body with
  | .align r => RankOk kind r.solver r.rank.toNat
  | _ => True

/-- The law of the published rank (R71): in RUN and CONFLICT the rank is as R71 says, before RUN the solver stands at its
reset rank with its timers stopped, and every ALIGN waiting or on the line carries such a rank. -/
def RankLaw (s : State) : Prop :=
  (if s.serving then
    RankOk s.stc.kind s.solver.state s.solver.rank ∧
    (s.stc.kind = some .origin → s.solver.state = .origin ∧ s.solver.settle = none ∧ s.solver.hold = .stopped) ∧
    (s.stc.kind = some .delay → s.solver.state ≠ .origin)
  else
    s.solver.state = .fallback ∧ s.solver.rank = 15 ∧ s.solver.settle = none ∧ s.solver.hold = .stopped) ∧
  (∀ e ∈ s.bus.queue, frameRankOk s.stc.kind e.frame) ∧
  (∀ a, s.bus.attempt = some a → frameRankOk s.stc.kind a.frame)

/-! ### The channels (R85, R89, R111) -/

/-- The applied delay of a channel (R78, R80, R85), in 1/4,096 sample: in range, at the target when SETTLED, on the near
side of it when slewing, and SETTLED in a jump state. -/
def ChannelDelayLaw (ch : Channel) : Prop :=
  ch.target ≤ 65280 ∧ ch.applied ≤ 65280 * 4096 ∧
  (ch.slew = .settled → ch.applied = ch.target * 4096) ∧
  (ch.slew = .up → ch.applied < ch.target * 4096) ∧
  (ch.slew = .down → ch.target * 4096 < ch.applied) ∧
  (ch.power.sounding = false → ch.slew = .settled)

/-- The law of the applied delay, as far as it speaks of one state (R85). -/
def DelayLaw (s : State) : Prop := ∀ c : Fin 4, ChannelDelayLaw s.channels[c]

/-- Every channel target is the one formed from D and the installed trim (R75, R76). -/
def FormedLaw (s : State) : Prop :=
  ∀ img, s.image = some img → ∀ c : Fin 4,
    s.channels[c].target = (s.solver.delay * 48 + 500) / 1000 + img.channels[c].trim

/-- A channel's equaliser and gain (R89, R97, R99, R102). -/
def ChannelEqLaw (ch : Channel) : Prop :=
  (ch.crossfade = .idle → ch.waiting = none ∧ ch.nextStages = StageMemories.silent) ∧
  (∀ a b k, ch.crossfade = .running a b k → k < 2400) ∧
  (∀ f k, ch.ramp = .running f k → k < 960) ∧
  (ch.ramp = .idle → ch.factor = .of ch.gainTarget) ∧
  (ch.power.sounding = false → ch.crossfade = .idle ∧ ch.ramp = .idle) ∧
  ch.preset ≤ 3 ∧ ch.storedGain ≤ 184

/-- No channel's equaliser or gain runs on in a silent state (R99, R102). -/
def EqLaw (s : State) : Prop := ∀ c : Fin 4, ChannelEqLaw s.channels[c]

/-- A channel stands as the row of its power state says (R111): enable, timers, gate fade, fault cause, wake-loss mark. -/
def ChannelPowerLaw (ch : Channel) : Prop :=
  ch.enable = ch.power.enabled ∧
  (ch.silence.isSome = true ↔ ch.power = .watch) ∧
  (ch.wake.isSome = true ↔ ch.power = .waking) ∧
  (ch.cause.isSome = true ↔ ch.power = .fault) ∧
  (∀ k, ch.fade = some k → k < 48 ∧ ch.power.gateOpen = true) ∧
  (ch.wakeLoss = true → ch.power = .waking)

/-- Every channel stands as the row of its power state says (R111). -/
def PowerLaw (s : State) : Prop := ∀ c : Fin 4, ChannelPowerLaw s.channels[c]

/-- A channel in WATCH is in effective silence, at a station that serves its zone (R112). -/
def WatchLaw (s : State) : Prop :=
  ∀ c : Fin 4, s.channels[c].power = .watch →
    s.serving = true ∧ (s.level.present = false ∨ s.channels[c].gainTarget = .silence)

/-! ### Emergency (R132, R134) -/

/-- The second law of chapter 7 (R132); in LEVEL mode the latch stays clear (R126). -/
def AlarmLaw (s : State) : Prop :=
  s.emc.emergency = (s.ownAlarm || !s.emc.sources.isEmpty) ∧
  s.emc.sources.Pairwise (· < ·) ∧
  (∀ n ∈ s.emc.sources, isStation n = true ∧ n ≠ s.number) ∧
  (s.stc.straps.latched = false → s.emc.latch = false)

/-- What the first law of chapter 7 rests on (R134): in EMERGENCY no round, no list, no window and, out of CONFIG_FAULT, the
emergency freeze; a frozen solver's hold timer does not run (R59), and lists run in RUN and CONFLICT alone (R155). -/
def CalmLaw (s : State) : Prop :=
  (s.emc.emergency = true →
    s.probe.round = .idle ∧ s.cue.list = .idle ∧ (∀ i : Fin 2, s.probe.slots[i] = .free) ∧
    (s.stc.mode ≠ .configFault → s.solver.emergencyFreeze = true)) ∧
  (s.solver.emergencyFreeze = true → s.emc.emergency = true) ∧
  (s.frozen = true → s.solver.hold.isRunning = false) ∧
  (s.cue.list ≠ .idle → s.serving = true)

/-! ### Cue Engine (R140) -/

/-- The ranges of the list context (R140). -/
def ListLaw (s : State) : Prop :=
  ∀ c, s.cue.list.context = some c → c.cue ≤ 63 ∧ c.params.length ≤ 4 ∧ c.position ≤ 512

/-! ### Zone Bus (R165, R167, R173, R174) -/

/-- The law of the transmit queue (R167) with its order (R165); a MARK waits or is on the line in MARKING alone (R26,
R30), and a MARK on the line still has its entry, the one of its place of arrival (R168). -/
def QueueLaw (s : State) : Prop :=
  s.bus.queue.length ≤ 8 ∧
  queueCount s FrameBody.isAlign ≤ 1 ∧ queueCount s FrameBody.isEvac ≤ 1 ∧ queueCount s FrameBody.isMark ≤ 1 ∧
  queueCount s FrameBody.isRoll ≤ 1 ∧
  s.bus.queue.Pairwise (fun a b => a.cls < b.cls ∨ a.cls = b.cls ∧ a.arrival < b.arrival) ∧
  (s.bus.queue.map (·.arrival)).Nodup ∧
  (∀ e ∈ s.bus.queue, e.arrival < s.bus.nextArrival) ∧
  (∀ e ∈ s.bus.queue, e.frame.body.isMark = true → s.probe.round = .marking) ∧
  (∀ a, s.bus.attempt = some a → a.frame.body.isMark = true →
    s.probe.round = .marking ∧ a.superseded = false ∧
    ∃ e ∈ s.bus.queue, e.frame.body.isMark = true ∧ e.arrival = a.arrival)

/-- The law of fault confinement (R173) and the law of silence (R174): in TX_QUIET and in CONFLICT nothing waits and
nothing is on the line. -/
def LineLaw (s : State) : Prop :=
  s.bus.tfc ≤ 71 ∧ (s.bus.txQuiet = true ↔ 64 ≤ s.bus.tfc) ∧ s.bus.recovery < 128 ∧
  (s.bus.txQuiet = true ∨ s.stc.mode = .conflict → s.bus.queue = [] ∧ s.bus.attempt = none)

/-- The row of the table that a received frame is, with its timestamp, the place where a run of cue actions is interrupted
and the strap pins that a warm restart samples (log 4). -/
def frameRow (f : Frame) (stamp : Instant) (burst : Option Nat) (straps : Straps) : Instr :=
  match f.body with
  | .align r => .align f.src r
  | .roll b => .roll f.src b
  | .mark => .mark f.src stamp
  | .evac set => .evac f.src set
  | .cue n ps => .cue f.src f.dst n ps burst
  | .query q => .query f.src f.dst q
  | .restart unit => .restart f.src unit straps
  | .replyData .. | .replyStatus .. => .reply f.src f.dst

/-! ### The addressed buffers -/

/-- The three buffers are in canonical form, and the write position and the level history have their ranges (R72, R108). -/
def MemoryLaw (s : State) : Prop :=
  Memory.wf s = true ∧ s.delay.writePos < 65536 ∧ s.level.history.length = 479

/-! ### All of them -/

/-- A lawful state: every law holds in it. -/
def Lawful (s : State) : Prop :=
  StartLaw s ∧ HeldLaw s ∧ TableLaw s ∧ SlotLaw s ∧ RoundLaw s ∧ TargetLaw s ∧ RankLaw s ∧ DelayLaw s ∧ FormedLaw s ∧
  EqLaw s ∧ PowerLaw s ∧ AlarmLaw s ∧ CalmLaw s ∧ ListLaw s ∧ QueueLaw s ∧ LineLaw s ∧ MemoryLaw s

/-! ### The ranges of an image as encoded (check 6 of R179, R200, R201) -/

/-- A stage's fields, as far as its kind uses them (R88, R201): 0 BYPASS, 1 PEAK, 2 LOW_SHELF, 3 HIGH_SHELF, 4 HIGH_PASS,
5 LOW_PASS. -/
def StageInRange (b : List Byte) : Prop :=
  field b 0 1 ≤ 5 ∧ (1 ≤ field b 0 1 → 20 ≤ field b 1 2 ∧ field b 1 2 ≤ 20000) ∧
  (1 ≤ field b 0 1 → field b 0 1 ≤ 3 → field b 3 1 ≤ 60) ∧
  (field b 0 1 = 1 → 3 ≤ field b 4 1 ∧ field b 4 1 ≤ 100)

/-- A channel section (R201). -/
def ChannelInRange (b : List Byte) : Prop :=
  field b 0 2 ≤ 960 ∧ field b 2 1 ≤ 1 ∧ 50 ≤ field b 3 2 ∧ field b 3 2 ≤ 2000 ∧ field b 5 1 ≤ 184 ∧ field b 6 1 ≤ 1 ∧
  field b 7 1 ≤ 3 ∧ field b 8 1 ≤ 184 ∧ ∀ q < 4, ∀ j < 5, StageInRange (b.drop (9 + 25 * q + 5 * j))

/-- The station section (R200). -/
def StationInRange (b : List Byte) : Prop :=
  field b 10 1 ≤ 1 ∧ field b 11 3 ≤ 100000 ∧ field b 14 3 ≤ 1340000 ∧ field b 17 1 ≤ 60 ∧ field b 18 2 ≤ 5000 ∧
  field b 20 1 ≤ 4 ∧ 1 ≤ field b 21 1 ∧ field b 21 1 ≤ 60 ∧ 2 ≤ field b 22 1 ∧ field b 22 1 ≤ 250 ∧
  5 ≤ field b 23 2 ∧ field b 23 2 ≤ 600 ∧ 10 ≤ field b 25 2 ∧ field b 25 2 ≤ 3600 ∧ 1 ≤ field b 27 1 ∧
  field b 27 1 ≤ 50 ∧ 60 ≤ field b 28 2 ∧ field b 28 2 ≤ 3600 ∧ 20 ≤ field b 31 1 ∧ field b 31 1 ≤ 60 ∧
  1 ≤ field b 32 1 ∧ -300 ≤ signedField b 34 ∧ signedField b 34 ≤ 600 ∧ field b 36 1 ≤ 3 ∧ 30 ≤ field b 37 1 ∧
  field b 37 1 ≤ 90 ∧ 10 ≤ field b 38 2 ∧ field b 38 2 ≤ 3600

/-- Every field that check 6 examines lies in its range (R179, R200, R201). -/
def FieldsInRange (b : List Byte) : Prop :=
  StationInRange b ∧
  (∀ i < 16, field b (40 + 3 * i) 1 ≤ 2 ∧
    (field b (40 + 3 * i) 1 = 1 → 1 ≤ field b (41 + 3 * i) 1 ∧ field b (41 + 3 * i) 1 ≤ 62)) ∧
  (∀ c < 4, ChannelInRange (b.drop (88 + 109 * c))) ∧
  (∀ p < 8, ∀ h < 4, field b (524 + 8 * p + 2 * h) 1 = 255 ∨
    field b (524 + 8 * p + 2 * h) 1 ≤ 48 ∧ field b (525 + 8 * p + 2 * h) 1 ≤ 3)

/-- The stage that five bytes of a preset give, by its kind (R201). -/
def stageAt (b : List Byte) : Stage :=
  match field b 0 1 with
  | 1 => .peak (field b 1 2) (field b 3 1) (field b 4 1)
  | 2 => .lowShelf (field b 1 2) (field b 3 1)
  | 3 => .highShelf (field b 1 2) (field b 3 1)
  | 4 => .highPass (field b 1 2)
  | 5 => .lowPass (field b 1 2)
  | _ => .bypass

/-! ### A cue action as its bytes spell it (R146, R147, R202) -/

/-- A value field gives a value: its own, 0..251, or that of the parameter it names, which is present (R147, R202). -/
def FieldGives (params : List Byte) (field : Byte) (v : Nat) : Prop :=
  field.toNat ≤ 251 ∧ v = field.toNat ∨ ∃ k p, field.toNat = 252 + k ∧ params[k]? = some p ∧ v = p.toNat

/-- A value field names a parameter that is not present (R147). -/
def FieldMissing (params : List Byte) (field : Byte) : Prop := ∃ k, field.toNat = 252 + k ∧ params.length ≤ k

/-- An action with one value field is found: NO_PARAMETER, then VALUE_RANGE for a value out of lo..hi or for a channel set
that is not good, else the action (R146, R147). -/
def FindsValued (params : List Byte) (field : Byte) (goodSet : Prop) (lo hi : Nat) (mk : Nat → Action)
    (found : Except CueFaultKind Action) : Prop :=
  (FieldMissing params field → found = .error .noParameter) ∧
  ∀ v, FieldGives params field v →
    (goodSet ∧ lo ≤ v ∧ v ≤ hi → found = .ok (mk v)) ∧ (¬(goodSet ∧ lo ≤ v ∧ v ≤ hi) → found = .error .valueRange)

/-- An action whose only operand is a channel set is found: a mark beyond channel 3 is VALUE_RANGE (R147, R202). -/
def FindsSet (b : Byte) (mk : BitVec 4 → Action) (found : Except CueFaultKind Action) : Prop :=
  (b.toNat ≤ 15 → found = .ok (mk (b.setWidth 4))) ∧ (15 < b.toNat → found = .error .valueRange)

/-- What stands at a position of cue memory, by its kind byte and the bytes after it, checked in the order of R146; beyond
the memory it is MEMORY_END (R153). -/
def ActionSpelled (mem : Nat → Byte) (params : List Byte) (position : Nat) : Prop :=
  let found := decodeAction mem params position
  let kind := (mem position).toNat
  let b1 := mem (position + 1)
  let b2 := mem (position + 2)
  let known := kind ≤ 3 ∨ 16 ≤ kind ∧ kind ≤ 21 ∨ 32 ≤ kind ∧ kind ≤ 33
  let last := position + (if kind ≤ 3 then 0 else if kind ≤ 21 then 1 else 2)
  (512 ≤ position → found = .error .memoryEnd) ∧
  (position < 512 → ¬known → found = .error .unknownKind) ∧
  (position < 512 → known → 512 ≤ last → found = .error .memoryEnd) ∧
  (last < 512 →
    (kind = 0x00 → found = .ok .finish) ∧ (kind = 0x01 → found = .ok .probe) ∧ (kind = 0x02 → found = .ok .freeze) ∧
    (kind = 0x03 → found = .ok .thaw) ∧ (kind = 0x10 → FindsSet b1 .mute found) ∧ (kind = 0x11 → FindsSet b1 .unmute found) ∧
    (kind = 0x12 → FindsSet b1 .sleep found) ∧ (kind = 0x13 → FindsSet b1 .wake found) ∧
    (kind = 0x14 → FindsValued params b1 True 0 60 .offset found) ∧
    (kind = 0x15 → FindsValued params b1 True 1 250 .wait found) ∧
    (kind = 0x20 → FindsValued params b2 (b1.toNat ≤ 15) 0 184 (.gain (b1.setWidth 4)) found) ∧
    (kind = 0x21 → FindsValued params b2 (b1.toNat ≤ 15) 0 3 (.preset (b1.setWidth 4)) found))

/-! ### The flags of an ALIGN (R69) -/

/-- The flags of this station's ALIGN, each over the state (R69). -/
def FlagsSpelled (s : State) (f : AlignFlags) : Prop :=
  (f.airLost = true ↔ s.air.state = .lost) ∧
  f.contact = (if s.stc.straps.latched then s.emc.latch else s.emc.contact) ∧
  (f.frozen = true ↔ s.solver.cueFreeze = true ∨ s.solver.emergencyFreeze = true) ∧
  (f.ampFault = true ↔ ∃ c : Fin 4, s.channels[c].power = .fault) ∧
  f.range = s.solver.range ∧
  (s.stc.kind = some .origin → (f.degraded = true ↔ s.air.state = .lost)) ∧
  (s.stc.kind ≠ some .origin → (f.degraded = true ↔
    s.solver.state = .hold ∨ s.solver.state = .fallback ∨
    (∃ i, s.solver.winner = some i ∧ (s.peers[i].state ≠ .fresh ∨ s.peers[i].flights.stale = true)) ∨
    s.selfRec.stale = true ∨ s.air.state = .lost))

/-- An ALIGN record composed of a state, each field over it (R69, R71). -/
def AlignComposed (s : State) (r : AlignRecord) : Prop :=
  r.solver = s.solver.state ∧ r.rank = BitVec.ofNat 4 s.solver.rank ∧ r.delay = BitVec.ofNat 24 s.solver.delay ∧
  r.path = BitVec.ofNat 24 s.solver.path ∧ r.flags = alignFlags s ∧ r.stateSpare = 0 ∧ r.flagsSpare = 0 ∧
  r.temperature = (if s.air.state = .valid then some (BitVec.ofInt 16 s.air.temperature) else none) ∧
  (s.solver.handed = false → r.seq = 0) ∧
  (s.solver.handed = true → (∃ e ∈ s.bus.queue, e.frame.body.isAlign = true ∧ e.attempted = false) →
    r.seq = s.solver.seq) ∧
  (s.solver.handed = true → (∀ e ∈ s.bus.queue, e.frame.body.isAlign = true → e.attempted = true) →
    r.seq = s.solver.seq + 1)

/-! ### Bands, air shelf and requests (R90, R92, R93, R94) -/

/-- The path band after an event, by the path time it hands over: kept within 5 ms of its span, else the plain band
(R90). -/
def BandFollowsPath (s t : State) : Prop :=
  (t.solver.path = s.solver.path ∨ s.eq.pathBand = none → t.eq.pathBand = s.eq.pathBand) ∧
  (t.solver.path ≠ s.solver.path → ∀ b, s.eq.pathBand = some b →
    t.eq.pathBand = some
      (if (b = 0 ∨ 100000 * b ≤ t.solver.path + 5000) ∧ (b = 7 ∨ t.solver.path ≤ 100000 * (b + 1) + 5000) then b
       else if 700000 ≤ t.solver.path then 7 else t.solver.path / 100000))

/-- The station air shelf after an event: looked up when a band has changed, down the rows of the humidity band's column
from the path band's, flat when every cell is unused (R92, R93); the cell that supplied it changes with it alone (log 22). -/
def ShelfFollowsBands (img : Image) (s t : State) : Prop :=
  (t.eq.pathBand = s.eq.pathBand → t.eq.humidityBand = s.eq.humidityBand → t.eq = s.eq) ∧
  (t.eq.shelf = s.eq.shelf → t.eq.cell = s.eq.cell) ∧
  (t.eq.pathBand ≠ s.eq.pathBand ∨ t.eq.humidityBand ≠ s.eq.humidityBand →
    ∀ p h, t.eq.pathBand = some p → t.eq.humidityBand = some h →
      (∀ r sh, r ≤ p → absorptionCell img.absorption r h = some sh →
        (∀ q, r < q → q ≤ p → absorptionCell img.absorption q h = none) →
        t.eq.shelf = some sh ∧ (t.eq.shelf ≠ s.eq.shelf → t.eq.cell = some (r, h))) ∧
      ((∀ q, q ≤ p → absorptionCell img.absorption q h = none) →
        t.eq.shelf = none ∧ (t.eq.shelf ≠ s.eq.shelf → t.eq.cell = none)))

/-- A channel after an event that may change the station air shelf: a new shelf makes a request for the wanted setting
(R93, R94). -/
def afterShelf (img : Image) (s t : State) (c : Fin 4) : Channel :=
  if t.eq.shelf = s.eq.shelf then s.channels[c]
  else
    s.channels[c].request
      (if s.serving then
        .eq (if s.emc.emergency then img.channels[c].evacPreset else s.channels[c].preset) t.eq.shelf
       else .flat)

/-- A channel after an event that may change D and the station air shelf: the request of a new shelf (R93), and the target
formed from a new D, taken as R78 and R79 say (R75, R76). -/
def afterPass (img : Image) (s t : State) (c : Fin 4) : Channel :=
  if t.solver.delay = s.solver.delay then afterShelf img s t c
  else
    (afterShelf img s t c).takeTarget
      (if s.stc.mode = .configFault then 0 else (t.solver.delay * 48 + 500) / 1000 + img.channels[c].trim)

/-! ### RUN entry (R181) -/

/-- What RUN entry makes of the solver, the bands and the channels (R52, R53, R82, R90, R92, R101, R104, R118). -/
def EntersService (img : Image) (s t : State) : Prop :=
  (img.kind = .delay → t.solver.state = .fallback ∧ t.solver.delay = img.fallbackDelay ∧ t.solver.rank = 15 ∧
    t.solver.path = img.fallbackDelay ∧ t.solver.winner = none ∧ t.solver.range = false ∧
    t.solver.settle = some 200000) ∧
  (img.kind = .origin → t.solver.state = .origin ∧ t.solver.delay = img.originDelay ∧ t.solver.rank = 0 ∧
    t.solver.path = 0 ∧ t.solver.winner = none ∧ t.solver.settle = none) ∧
  t.solver.handed = true ∧ t.solver.offset = s.solver.offset ∧ t.solver.cueFreeze = s.solver.cueFreeze ∧
  t.solver.emergencyFreeze = s.solver.emergencyFreeze ∧ t.solver.hold = .stopped ∧
  BandFollowsPath s t ∧ ShelfFollowsBands img s t ∧
  (∀ c : Fin 4,
    t.channels[c].target = (t.solver.delay * 48 + 500) / 1000 + img.channels[c].trim ∧
    t.channels[c].applied = t.channels[c].target * 4096 ∧ t.channels[c].slew = .settled ∧
    t.channels[c].active = .eq (if s.emc.emergency then img.channels[c].evacPreset else s.channels[c].preset) t.eq.shelf ∧
    t.channels[c].gainTarget =
      (if s.emc.emergency then .gain img.channels[c].evacGain
       else if s.channels[c].storedMute then .silence else .gain s.channels[c].storedGain) ∧
    t.channels[c].factor = .of t.channels[c].gainTarget ∧
    t.channels[c].storedGain = s.channels[c].storedGain ∧ t.channels[c].storedMute = s.channels[c].storedMute) ∧
  (∀ c : Fin 4, t.channels[c].power =
    (if s.emc.emergency || !img.channels[c].autoStandby || (s.level.present && t.channels[c].gainTarget != .silence)
     then (if s.channels[c].ready then .active else .waking) else .standby))

/-! ### The probe round and the probe channel (R25, R26, R30, R31, R32) -/

/-- The open self windows of a round in EMITTING: those an abort for the loss of the probe channel, or at CONFLICT entry,
closes without a result (R31, R32). -/
def selfWindows (s : State) : Nat :=
  s.probe.slots.toList.countP fun slot => match slot with
    | .opened w => w.owner == s.number && s.probe.round == .emitting
    | _ => false

/-- A round has been aborted (R30): no MARK of it is left, the emission has stopped, the reservation is FREE, a self window
open in EMITTING is closed and counted (R31, R32), the abort is counted, and the timer stands as its cause says. -/
def RoundAborted (timer : Option Nat) (s t : State) : Prop :=
  t.probe =
    { s.probe with
      round := .idle
      timer := timer
      deadline := none
      startsAt := none
      started := false
      lag := 0
      position := 0
      slots := t.probe.slots } ∧
  (∀ i : Fin 2,
    (s.probe.slots[i] = .free → t.probe.slots[i] = .free) ∧
    (∀ o, s.probe.slots[i] = .reserved o → t.probe.slots[i] = .free) ∧
    (∀ w, s.probe.slots[i] = .opened w →
      t.probe.slots[i] = if w.owner = s.number ∧ s.probe.round = .emitting then .free else .opened w)) ∧
  (∀ e ∈ t.bus.queue, e.frame.body.isMark = false) ∧ (∀ a, t.bus.attempt = some a → a.frame.body.isMark = false) ∧
  t.count .probeAborts = satInc (s.count .probeAborts) ∧
  (t.count .capturesCancelled).toNat = min 65535 ((s.count .capturesCancelled).toNat + selfWindows s)

/-- The round follows a channel's entry into a power state: in WAKING the probe channel's ACTIVE or WATCH takes it to
MARKING with one MARK and its deadline, its FAULT or FORCED_OFF aborts it (R25, R26); in MARKING and EMITTING any state but
ACTIVE and WATCH aborts it (R31); otherwise the Probe Unit stays as it is. -/
def RoundFollows (c : Fin 4) (p : Power) (s t : State) : Prop :=
  (s.probeChannel ≠ some c ∨ s.probe.round = .idle → t.probe = s.probe) ∧
  (s.probeChannel = some c → s.probe.round = .waking →
    (p = .active ∨ p = .watch →
      t.probe = { s.probe with round := .marking, deadline := some 50000 } ∧
      t.bus = (handFrame ⟨s.number, 63, .mark⟩ s).bus) ∧
    (p = .fault ∨ p = .forcedOff → RoundAborted (some 5000000) s t) ∧
    (p = .standby ∨ p = .waking → t.probe = s.probe)) ∧
  (s.probeChannel = some c → s.probe.round = .marking ∨ s.probe.round = .emitting →
    (p = .active ∨ p = .watch → t.probe = s.probe) ∧
    (p ≠ .active → p ≠ .watch → RoundAborted (some 5000000) s t))

/-! ### What the report spaces show (R203) -/

/-- Bytes `offset` to `offset + n - 1` of a report space. -/
def reportField (s : State) (space offset n : Nat) : List Byte := ((spaceBytes s space).drop offset).take n

/-- A field of one byte whose bits are those listed, from bit 0, and 0 beyond them (R197). -/
def ShowsBits (l : List Byte) (bits : List Bool) : Prop :=
  l.length = 1 ∧ ∀ k < 8, (l.getD 0 0).getLsbD k = bits.getD k false

/-- A field of n bytes that shows a number, all-ones when absent (R203). -/
def ShowsOption (n : Nat) (l : List Byte) (v : Option Nat) : Prop :=
  l = match v with
    | some v => bytesBE n v
    | none => List.replicate n 0xFF#8

/-- A field of n bytes that shows a timer: whole ms, all-ones when it is stopped (R197). -/
def ShowsTimer (n : Nat) (l : List Byte) (timer : Option Nat) : Prop :=
  (timer = none → l = List.replicate n 0xFF#8) ∧ ∀ left, timer = some left → left % 1000 = 0 → l = bytesBE n (left / 1000)

/-- A field that shows a temperature in two bytes, 8000h when absent (R197). -/
def ShowsTemperature (l : List Byte) (t : Option Int) : Prop :=
  l = match t with
    | some t => split16 (BitVec.ofInt 16 t)
    | none => [0x80#8, 0x00#8]

/-- The identity entry (R203). -/
def IdentityShown (s : State) : Prop :=
  let at' := reportField s 0
  at' 0 4 = split32 s.stc.unit ∧ at' 4 1 = bytesBE 1 s.number ∧
  ShowsBits (at' 5 1) [s.stc.straps.fast, s.stc.straps.latched, s.stc.straps.activeHigh] ∧
  at' 6 1 = bytesBE 1 s.stc.mode.code ∧ at' 7 1 = bytesBE 1 s.stc.reason.code ∧
  (s.stc.identity = none → at' 8 6 = List.replicate 6 0#8) ∧
  (∀ id n, s.stc.identity = some (id, n) → at' 8 4 = split32 id ∧ at' 12 2 = bytesBE 2 n) ∧
  (s.stc.kind = some .delay → at' 14 1 = [0#8]) ∧ (s.stc.kind = some .origin → at' 14 1 = [1#8]) ∧
  at' 15 2 = split16 s.stc.restarts ∧ at' 17 2 = split16 s.stc.duplicates ∧
  (s.stc.lastDuplicate = none → at' 19 5 = List.replicate 5 0#8) ∧
  (∀ unit won, s.stc.lastDuplicate = some (unit, won) → at' 19 5 = split32 unit ++ [if won then 1#8 else 2#8]) ∧
  ShowsBits (at' 24 1)
    [s.emc.contact, s.emc.resetContact, s.emc.latch, s.ownAlarm, s.emc.emergency, s.emc.refresh.isSome] ∧
  (∀ n < 64, ((at' (25 + n / 8) 1).getD 0 0).getLsbD (n % 8) = decide (n ∈ s.emc.sources)) ∧
  (s.cue.list = .idle → at' 33 1 = [0#8]) ∧
  (∀ c, s.cue.list = .running c → at' 33 1 = [1#8]) ∧
  (∀ c left, s.cue.list = .waiting c left → at' 33 1 = [2#8] ∧ ShowsTimer 2 (at' 42 2) (some left)) ∧
  (∀ c, s.cue.list.context = some c → at' 34 1 = bytesBE 1 c.cue ∧ at' 35 1 = bytesBE 1 c.params.length ∧
    at' 36 (min 4 c.params.length) = c.params.take 4 ∧ at' 40 2 = bytesBE 2 c.position) ∧
  (s.cue.lastCue = none → at' 44 1 = [0#8] ∧ at' 46 1 = [0#8]) ∧
  (∀ r, s.cue.lastCue = some r → at' 44 1 = bytesBE 1 r.source ∧ at' 45 1 = [r.number] ∧
    at' 46 1 = (match r.outcome with
      | .taken => [1#8]
      | .undefined => [2#8]
      | .refusedEmergency => [3#8]
      | .refusedMode => [4#8]
      | .refusedNumber => [5#8])) ∧
  (s.cue.lastList = none → at' 48 1 = [0#8]) ∧
  (∀ r, s.cue.lastList = some r → at' 47 1 = bytesBE 1 r.cue ∧ at' 49 2 = bytesBE 2 r.position ∧
    at' 48 1 = (match r.ending with
      | .complete => [1#8]
      | .undefined => [2#8]
      | .overtaken => [3#8]
      | .emergency => [4#8]
      | .fault .unknownKind => [5#8]
      | .fault .memoryEnd => [6#8]
      | .fault .noParameter => [7#8]
      | .fault .valueRange => [8#8])) ∧
  at' 51 2 = split16 s.cue.overtaken ∧ at' 53 2 = split16 s.cue.undefined ∧ at' 55 1 = bytesBE 1 s.bus.tfc ∧
  ShowsBits (at' 56 1) [s.bus.txQuiet, s.bus.yieldOwed] ∧ at' 57 1 = bytesBE 1 s.bus.recovery ∧
  at' 58 1 = bytesBE 1 (queueCount s FrameBody.isEvac) ∧ at' 59 1 = bytesBE 1 (queueCount s FrameBody.isMark) ∧
  at' 60 1 = bytesBE 1 (queueCount s FrameBody.isAlign) ∧ at' 61 1 = bytesBE 1 (queueCount s FrameBody.isRoll) ∧
  at' 62 1 = bytesBE 1 (queueCount s FrameBody.isReply)

/-- A field that shows the flags of an ALIGN (R197), with its two unnamed bits. -/
def ShowsFlags (l : List Byte) (f : AlignFlags) (spare : BitVec 2) : Prop :=
  ShowsBits l [f.degraded, f.airLost, f.contact, f.frozen, f.ampFault, f.range, spare.getLsbD 0, spare.getLsbD 1]

/-- The alignment entry (R203). -/
def AlignmentShown (s : State) : Prop :=
  let at' := reportField s 1
  at' 0 1 = bytesBE 1 (solverCode s.solver.state).toNat ∧ at' 1 1 = bytesBE 1 s.solver.rank ∧
  at' 2 3 = bytesBE 3 s.solver.delay ∧ at' 5 3 = bytesBE 3 s.solver.path ∧
  ShowsOption 1 (at' 8 1) (s.solver.winner.map (·.val)) ∧ at' 9 1 = bytesBE 1 s.solver.offset ∧
  ShowsBits (at' 10 1) [s.solver.cueFreeze, s.solver.emergencyFreeze] ∧ ShowsTimer 3 (at' 11 3) s.solver.settle ∧
  (s.solver.hold = .stopped → at' 14 4 = [0xFF#8, 0xFF#8, 0xFF#8, 0#8]) ∧
  (∀ left, s.solver.hold = .running left → ShowsTimer 3 (at' 14 3) (some left) ∧ at' 17 1 = [1#8]) ∧
  (∀ left, s.solver.hold = .suspended left → ShowsTimer 3 (at' 14 3) (some left) ∧ at' 17 1 = [2#8]) ∧
  ShowsTimer 3 (at' 18 3) s.solver.refresh ∧ at' 21 1 = [s.solver.seq] ∧ ShowsBits (at' 22 1) [s.solver.handed] ∧
  ShowsTemperature (at' 23 2) s.solver.lastTemperature ∧ ShowsOption 3 (at' 25 3) s.solver.computed ∧
  ShowsBits (at' 28 1) [s.solver.range] ∧ at' 29 2 = split16 s.solver.lowClamps ∧
  ShowsFlags (at' 31 1) (alignFlags s) 0

/-- A list of flights from byte `offset` of the peers space: its count, then three places, unused ones 0 (R203). -/
def FlightsShown (s : State) (offset : Nat) (flights : List Nat) : Prop :=
  reportField s 2 offset 1 = bytesBE 1 flights.length ∧
  ∀ k < 3, reportField s 2 (offset + 1 + 3 * k) 3 = bytesBE 3 (flights.getD k 0)

/-- The entries of the peers space (R203): a bound entry, its last record as carried, and the self record. -/
def PeersShown (s : State) : Prop :=
  (∀ i : Fin 16,
    let e := s.peers[i]
    let at' := fun offset n => reportField s 2 (47 * i + offset) n
    (e.binding = .unused → at' 0 1 = [0#8]) ∧
    (∀ st, e.binding = .single st → at' 0 1 = [1#8] ∧ at' 1 1 = bytesBE 1 st) ∧
    (∀ lo hi, e.binding = .pool lo hi → at' 0 1 = [2#8] ∧ at' 1 1 = bytesBE 1 lo ∧ at' 2 1 = bytesBE 1 hi) ∧
    at' 3 1 = bytesBE 1 (e.peer.getD 0) ∧
    (e.binding ≠ .unused →
      at' 4 1 = (match e.state with
        | .waiting => [0#8]
        | .fresh => [1#8]
        | .stale => [2#8]
        | .lost => [3#8]) ∧
      ShowsBits (at' 5 1) [e.record.isSome, e.unread, e.flights.stale, e.lastMark.isSome] ∧
      at' 42 1 = bytesBE 1 e.flights.misses) ∧
    ShowsOption 2 (at' 6 2) e.age ∧
    (e.record = none → at' 8 11 = List.replicate 11 0#8) ∧
    (∀ r, e.record = some r → at' 8 1 = [r.seq] ∧ at' 9 1 = [solverCode r.solver ++ r.stateSpare ++ r.rank] ∧
      at' 10 3 = split24 r.delay ∧ at' 13 3 = split24 r.path ∧
      ShowsTemperature (at' 16 2) (r.temperature.map (·.toInt)) ∧ ShowsFlags (at' 18 1) r.flags r.flagsSpare) ∧
    FlightsShown s (47 * i + 19) e.flights.history ∧ FlightsShown s (47 * i + 29) e.flights.suspects ∧
    ShowsOption 3 (at' 39 3) (effectiveFlight e.flights.history) ∧
    ShowsOption 4 (at' 43 4) (e.lastMark.map (·.toNat))) ∧
  reportField s 2 752 1 = [3#8] ∧ FlightsShown s 771 s.selfRec.history ∧ FlightsShown s 781 s.selfRec.suspects ∧
  ShowsOption 3 (reportField s 2 791 3) (effectiveFlight s.selfRec.history) ∧
  reportField s 2 794 1 = bytesBE 1 s.selfRec.misses ∧
  ShowsBits (reportField s 2 757 1) [false, false, s.selfRec.stale]

/-- A shelf in two bytes: gain and corner, gain byte FFh when flat (R197, R203). -/
def ShelfShown (l : List Byte) (shelf : Option Shelf) : Prop :=
  match shelf with
  | some sh => l = bytesBE 1 sh.gain ++ bytesBE 1 sh.corner
  | none => l.head? = some 0xFF#8

/-- A setting in three bytes: preset and shelf, FEh for FLAT (R203). -/
def SettingShown (l : List Byte) (w : Setting) : Prop :=
  match w with
  | .flat => l.head? = some 0xFE#8
  | .eq preset shelf => l.take 1 = bytesBE 1 preset ∧ ShelfShown (l.drop 1) shelf

/-- The entries of the channels space (R203): the station's, then one for each channel. -/
def ChannelsShown (s : State) : Prop :=
  let station := reportField s 3
  station 0 1 = bytesBE 1 s.slewCode ∧ ShowsOption 1 (station 1 1) s.eq.pathBand ∧
  ShowsOption 1 (station 2 1) s.eq.humidityBand ∧ ShelfShown (station 3 2) s.eq.shelf ∧
  ShowsOption 1 (station 5 1) (s.eq.cell.map (·.1)) ∧ ShowsOption 1 (station 6 1) (s.eq.cell.map (·.2)) ∧
  station 7 1 = [if s.level.present then 1#8 else 0#8] ∧ station 8 1 = bytesBE 1 s.silenceLevel ∧
  station 9 2 = bytesBE 2 s.standbyDelay ∧ station 11 23 = List.replicate 23 0#8 ∧
  ∀ c : Fin 4,
    let ch := s.channels[c]
    let at' := fun offset n => reportField s 3 (34 * (c + 1) + offset) n
    at' 0 2 = bytesBE 2 ch.target ∧ at' 2 4 = bytesBE 4 ch.applied ∧
    at' 6 1 = (match ch.slew with
      | .settled => [0#8]
      | .up => [1#8]
      | .down => [2#8]) ∧
    at' 7 2 = bytesBE 2 (s.trim c) ∧ at' 9 2 = split16 ch.jumps ∧ at' 11 1 = bytesBE 1 ch.preset ∧
    SettingShown (at' 12 3) ch.active ∧
    (ch.crossfade = .idle → at' 15 1 = [0xFF#8]) ∧
    (∀ a b k, ch.crossfade = .running a b k → SettingShown (at' 15 3) b ∧ at' 18 2 = bytesBE 2 k) ∧
    (ch.waiting = none → at' 20 1 = [0xFF#8]) ∧ (∀ w, ch.waiting = some w → SettingShown (at' 20 3) w) ∧
    at' 23 1 = bytesBE 1 ch.storedGain ∧
    ShowsBits (at' 24 1) [ch.storedMute, decide (ch.gainTarget = .silence), decide (ch.ramp ≠ .idle)] ∧
    (∀ g, ch.gainTarget = .gain g → at' 25 1 = bytesBE 1 g) ∧
    at' 26 1 = (match ch.power with
      | .active => [0#8]
      | .watch => [1#8]
      | .standby => [2#8]
      | .waking => [3#8]
      | .forcedOff => [4#8]
      | .fault => [5#8]) ∧
    at' 27 1 = (match ch.cause with
      | none => [0#8]
      | some .line => [1#8]
      | some .readyLost => [2#8]
      | some .timeout => [3#8]) ∧
    ShowsBits (at' 28 1) [ch.forcedOff, ch.enable, ch.ready, ch.faultLine, s.autoStandby c] ∧
    ShowsTimer 3 (at' 29 3) (ch.silence.or ch.wake) ∧ at' 32 2 = bytesBE 2 (s.wakeLimit c)

/-- The counters and the air entry (R203). -/
def CountersAndAirShown (s : State) : Prop :=
  (∀ k : Fin 20, reportField s 4 (2 * k) 2 = split16 s.counters[k]) ∧
  reportField s 5 0 1 = [if s.air.state = .valid then 1#8 else 0#8] ∧
  ShowsTemperature (reportField s 5 1 2) (some s.air.temperature) ∧ ShowsOption 1 (reportField s 5 3 1) s.air.humidity ∧
  reportField s 5 4 1 = bytesBE 1 s.air.misses

/-! ### CONFIG_FAULT entry (R186) -/

/-- The state after CONFIG_FAULT entry from LOADING (R186, R1, R21, R52, R83, R106, R120, R182): the reason stands, no image
is held, every entry is UNUSED, the solver and the targets are at their reset values, one ROLL with the fault flag is
handed, and in EMERGENCY every channel wakes at 0.0 dB; nothing else changes. -/
def EntersConfigFault (reason : FaultReason) (s t : State) : Prop :=
  t.stc =
    { s.stc with
      mode := .configFault
      reason := reason
      identity := none
      kind := none
      claim := none
      reading := .none
      kept := Vector.replicate 16 none } ∧
  t.image = none ∧ (∀ i : Fin 16, t.peers[i] = PeerEntry.blank .unused none) ∧ t.solver = Solver.reset ∧
  (s.emc.emergency = false → t.channels = s.channels) ∧
  (s.emc.emergency = true → ∀ c : Fin 4,
    t.channels[c].target = 0 ∧ t.channels[c].applied = 0 ∧ t.channels[c].active = .flat ∧
    t.channels[c].gainTarget = .gain 160 ∧ t.channels[c].factor = .of (.gain 160) ∧
    t.channels[c].power = (if s.channels[c].ready then .active else .waking) ∧ t.channels[c].enable = true) ∧
  (∃ roll : RollBody, roll.unit = s.stc.unit ∧ roll.imageId = 0#32 ∧ roll.mode = 4#8 ∧ roll.faultFlag = true ∧
    roll.reason = BitVec.ofNat 4 reason.code ∧ roll.contact = s.ownAlarm ∧
    t.bus = (handFrame ⟨s.number, 63, .roll roll⟩ s).bus ∧
    t.counters = (handFrame ⟨s.number, 63, .roll roll⟩ s).counters) ∧
  t.selfRec = s.selfRec ∧ t.probe = s.probe ∧ t.air = s.air ∧ t.delay = s.delay ∧ t.level = s.level ∧ t.eq = s.eq ∧
  t.cue = s.cue ∧ t.emc = s.emc ∧ t.timeBase = s.timeBase ∧ t.freeCount = s.freeCount ∧ t.pending = s.pending

end Sys2Proof.Machine
end

