-- ==== Sys2Proof/Certificates/Slice0/Obligations.lean ====
section
/-! DEFINITION. The statements for the provers. -/

open Sys2Proof Sys2Proof.Machine

/-! ### The machine -/

/-- Every command reaches a run through this one: a step takes the command at the front of the queue. -/
def Obligations.StepTakesFrontCommand : Prop :=
  ∀ (c : Instr) (rest : List Instr) (s : State), s.pending = c :: rest → step s = exec c (s.setPending rest)

/-- With no command waiting 1 µs passes, and an interrupted run of cue actions goes on at once by its next action, an event
of its own, so that other commands are taken between any two (R145; logs 3 and 6, the model's choice). -/
def Obligations.EmptyQueueLetsTimePass : Prop :=
  ∀ s : State, s.pending = [] →
    (∀ c, s.cue.list = .running c → step s = .next (event takeAction s)) ∧
    ((∀ c, s.cue.list ≠ .running c) → ∃ t, step s = .next t ∧
      t.timeBase = s.timeBase + 1#32 ∧
      t.bus = { s.bus with idleMicros := s.bus.idleMicros + 1 } ∧
      (∃ reading, t.stc = { s.stc with claim := s.stc.claim.map (· - 1), reading := reading } ∧
        (∀ l, s.stc.reading = .header l → reading = .header (l - 1)) ∧
        (∀ h l, s.stc.reading = .body h l → reading = .body h (l - 1)) ∧
        (s.stc.reading = .none → reading = .none)) ∧
      t.probe = { s.probe with timer := s.probe.timer.map (· - 1), deadline := s.probe.deadline.map (· - 1) } ∧
      t.air = { s.air with request := s.air.request.map (· - 1) } ∧
      (∃ hold, t.solver =
          { s.solver with
            settle := s.solver.settle.map (· - 1), hold := hold, refresh := s.solver.refresh.map (· - 1) } ∧
        (∀ l, s.solver.hold = .running l → hold = .running (l - 1)) ∧
        (s.solver.hold.isRunning = false → hold = s.solver.hold)) ∧
      (∀ c : Fin 4, t.channels[c] =
        { s.channels[c] with
          silence := s.channels[c].silence.map (· - 1), wake := s.channels[c].wake.map (· - 1) }) ∧
      (∃ list, t.cue = { s.cue with list := list } ∧
        (∀ c l, s.cue.list = .waiting c l → list = .waiting c (l - 1)) ∧ (s.cue.list = .idle → list = .idle)) ∧
      t.emc =
        { s.emc with
          contactSpan := s.emc.contactSpan.map (· - 1)
          resetSpan := s.emc.resetSpan.map (· - 1)
          refresh := s.emc.refresh.map (· - 1) } ∧
      t.image = s.image ∧ t.peers = s.peers ∧ t.selfRec = s.selfRec ∧ t.delay = s.delay ∧ t.level = s.level ∧
      t.eq = s.eq ∧ t.counters = s.counters ∧ t.freeCount = s.freeCount ∧ t.pending = [])

/-- The block never stops, and a command leaves the waiting commands alone. -/
def Obligations.EveryCommandAnswersNext : Prop :=
  ∀ (c : Instr) (s : State), ∃ t, exec c s = .next t ∧ t.pending = s.pending

/-- The state after reset is lawful. -/
def Obligations.ResetIsLawful : Prop := Lawful State.reset ∧ WatchLaw State.reset

/-- R69, R70 and R71: an event in RUN that changes the solver state, D, the rank or a flag hands one ALIGN, composed from the
new state; any other event hands none. What is published, each flag and each field of the record are spelled over the state. -/
def Obligations.ChangedEventHandsOneAlign : Prop :=
  (∀ s : State, FlagsSpelled s (alignFlags s) ∧
    published s = { state := s.solver.state, delay := s.solver.delay, rank := s.solver.rank, flags := alignFlags s }) ∧
  ∀ old new : State,
    (¬(old.stc.mode = .run ∧ new.stc.mode = .run ∧ published old ≠ published new) → finishEvent old new = new) ∧
    (old.stc.mode = .run → new.stc.mode = .run → published old ≠ published new → ∃ r : AlignRecord,
      finishEvent old new =
        { handFrame ⟨new.number, 63, .align r⟩ new with
          solver :=
            { new.solver with
              seq := r.seq, handed := true, refresh := some (new.image.elim 0 (·.refresh) * 1000000) } } ∧
      AlignComposed new r)

/-! ### Start-up -/

/-- R176, R177, R178: a hard reset, in any state and with any straps. That the time base becomes 0 (log 9), that the input
lines and pins stay (log 12) and that freeCount stays (log 34) are the model's choices. -/
def Obligations.HardResetSetsEverything : Prop :=
  ∀ (straps : Straps) (s : State), exec (.hardReset straps) s = .next
    { State.reset with
      stc :=
        { State.reset.stc with
          mode := if isStation straps.number.toNat then .loading else .configFault
          strapPins := straps
          straps := straps
          unit := s.stc.unit
          reason := if isStation straps.number.toNat then .none else .badStrap
          reading := if isStation straps.number.toNat then .header 100000 else .none }
      channels := Vector.ofFn fun c : Fin 4 => Channel.reset s.channels[c].ready s.channels[c].faultLine
      emc :=
        { State.reset.emc with
          contactPin := s.emc.contactPin
          resetPin := s.emc.resetPin
          contactSpan := if s.emc.contactPin = straps.activeHigh then some 20000 else none
          resetSpan := if s.emc.resetPin then some 20000 else none }
      freeCount := s.freeCount
      pending := s.pending }

/-- R178, R179, R186: each failing check of the image read ends LOADING in CONFIG_FAULT with its own reason; a header that
passes is kept and the rest awaited. The last part spells out checks 5 to 11 over the bytes of the image, in their order, and
the fields of an image that passes. In EMERGENCY the solver's return to its reset values clears the emergency freeze, which is
log 23 (DEDUCED). -/
def Obligations.ImageReadChecked : Prop :=
  (∀ (s : State) (h : List Byte) (l : Nat), h.length = 10 → s.stc.mode = .loading → s.stc.reading = .header l →
    field h 0 2 = 0x6C3E → 1100 ≤ field h 2 2 → field h 2 2 ≤ 4096 →
    exec (.imageHeaderRead h) s = .next { s with stc := { s.stc with reading := .body h 100000 } }) ∧
  (∀ s : State, Lawful s → s.stc.mode = .loading →
    (∀ h l, h.length = 10 → s.stc.reading = .header l → field h 0 2 ≠ 0x6C3E →
      ∃ t, exec (.imageHeaderRead h) s = .next t ∧ EntersConfigFault .badCookie s t) ∧
    (∀ h l, h.length = 10 → s.stc.reading = .header l → field h 0 2 = 0x6C3E →
      (field h 2 2 < 1100 ∨ 4096 < field h 2 2) →
      ∃ t, exec (.imageHeaderRead h) s = .next t ∧ EntersConfigFault .badLength s t) ∧
    (∃ t, exec .imageReadTimeout s = .next t ∧ EntersConfigFault .noImage s t) ∧
    (∀ h l rest reason, s.stc.reading = .body h l → rest.length = field h 2 2 - 10 →
      checkImage s.number (h ++ rest) = .error reason →
      ∃ t, exec (.imageReadComplete rest) s = .next t ∧ EntersConfigFault reason s t)) ∧
    ∀ (own : Nat) (b : List Byte), field b 0 2 = 0x6C3E → 1100 ≤ field b 2 2 → field b 2 2 ≤ 4096 →
      let bad := fun reason : FaultReason => checkImage own b = .error reason
      let crcOk := (crc16 (b.take 8 ++ (b.take (field b 2 2)).drop 10)).toNat = field b 8 2
      let kind := fun i : Nat => field b (40 + 3 * i) 1
      let low := fun i : Nat => field b (41 + 3 * i) 1
      let high := fun i : Nat => field b (42 + 3 * i) 1
      (¬crcOk → bad .badCrc) ∧
      (crcOk → ¬FieldsInRange b → bad .fieldRange) ∧
      (crcOk → FieldsInRange b → 3 < field b 30 1 → bad .probeChannel) ∧
      (crcOk → FieldsInRange b → field b 30 1 ≤ 3 → field b 23 2 ≤ field b 22 1 → bad .badLimits) ∧
      (crcOk → FieldsInRange b → field b 30 1 ≤ 3 → field b 22 1 < field b 23 2 →
        ((∃ i < 16, kind i = 2 ∧ ¬(1 ≤ low i ∧ low i ≤ high i ∧ high i ≤ 62)) → bad .poolRange) ∧
        ((∀ i < 16, kind i = 2 → 1 ≤ low i ∧ low i ≤ high i ∧ high i ≤ 62) →
          ((∃ i < 16, kind i = 1 ∧ low i = own) → bad .selfBinding) ∧
          ((∀ i < 16, kind i = 1 → low i ≠ own) →
            ((∃ i < 16, ∃ j < i, kind i = 1 ∧ kind j = 1 ∧ low i = low j) → bad .duplicateSingle) ∧
            ((∀ i < 16, ∀ j < i, kind i = 1 → kind j = 1 → low i ≠ low j) → ∃ img, checkImage own b = .ok img ∧
              img.id = BitVec.ofNat 32 (field b 4 4) ∧ img.length = field b 2 2 ∧
              img.kind = (if field b 10 1 = 1 then .origin else .delay) ∧ img.originDelay = field b 11 3 ∧
              img.fallbackDelay = field b 14 3 ∧ img.offset = field b 17 1 ∧ img.deadband = field b 18 2 ∧
              img.slewCode = field b 20 1 ∧ img.refresh = field b 21 1 ∧ img.staleLimit = field b 22 1 ∧
              img.lostLimit = field b 23 2 ∧ img.holdLimit = field b 25 2 ∧ img.jumpLimit = field b 27 1 ∧
              img.probeInterval = field b 28 2 ∧ img.probeChannel.val = field b 30 1 ∧ img.probeLevel = field b 31 1 ∧
              img.threshold = field b 32 1 ∧ img.micLatency = field b 33 1 ∧ img.defaultTemp = signedField b 34 ∧
              img.defaultBand = field b 36 1 ∧ img.silenceLevel = field b 37 1 ∧ img.standbyDelay = field b 38 2 ∧
              img.cueBytes = (b.drop 588).take 512 ∧
              (∀ i : Fin 16, img.bindings[i] =
                if kind i = 0 then .unused else if kind i = 1 then .single (low i) else .pool (low i) (high i)) ∧
              (∀ c : Fin 4, img.channels[c].trim = field b (88 + 109 * c) 2 ∧
                img.channels[c].autoStandby = decide (field b (90 + 109 * c) 1 = 1) ∧
                img.channels[c].wakeLimit = field b (91 + 109 * c) 2 ∧
                img.channels[c].startGain = field b (93 + 109 * c) 1 ∧
                img.channels[c].startMute = decide (field b (94 + 109 * c) 1 = 1) ∧
                img.channels[c].evacPreset = field b (95 + 109 * c) 1 ∧
                img.channels[c].evacGain = field b (96 + 109 * c) 1 ∧ img.channels[c].presets.length = 4 ∧
                ∀ q < 4, (img.channels[c].presets.getD q []).length = 5 ∧ ∀ j < 5,
                  (img.channels[c].presets.getD q [])[j]? = some (stageAt (b.drop (97 + 109 * c + 25 * q + 5 * j)))) ∧
              ∀ p < 8, ∀ h < 4, absorptionCell img.absorption p h =
                if field b (524 + 8 * p + 2 * h) 1 = 255 then none
                else some ⟨field b (524 + 8 * p + 2 * h) 1, field b (525 + 8 * p + 2 * h) 1⟩))))

/-- R180, R20, R21, R104: a valid image is installed in every block and the station enters ANNOUNCE. That a SINGLE entry is
the same by its kind and byte 1 alone is log 39 (DEDUCED). -/
def Obligations.ValidImageEntersAnnounce : Prop :=
  ∀ (s : State) (h rest : List Byte) (l : Nat) (img : Image), Lawful s → s.stc.mode = .loading →
    s.stc.reading = .body h l → rest.length = field h 2 2 - 10 → checkImage s.number (h ++ rest) = .ok img →
    ∃ t, exec (.imageReadComplete rest) s = .next t ∧
      t.stc =
        { s.stc with
          mode := .announce
          identity := some (img.id, img.length)
          kind := some img.kind
          claim := some 500000
          reading := .none
          kept := Vector.replicate 16 none } ∧
      t.image = some img ∧
      (∀ i : Fin 16, t.peers[i].binding = img.bindings[i] ∧ t.peers[i].peer = img.bindings[i].singleStation ∧
        t.peers[i].state = .waiting ∧ t.peers[i].record = none ∧ t.peers[i].unread = false ∧ t.peers[i].age = none ∧
        t.peers[i].lastMark = none ∧ t.peers[i].flights.misses = 0 ∧ t.peers[i].flights.stale = false ∧
        (∀ k, s.stc.kept[i] = some k → img.bindings[i] = .single k.station →
          t.peers[i].flights.history = k.history ∧ t.peers[i].flights.suspects = k.suspects) ∧
        ((∀ k, s.stc.kept[i] = some k → img.bindings[i] ≠ .single k.station) →
          t.peers[i].flights.history = [] ∧ t.peers[i].flights.suspects = [])) ∧
      t.air = { s.air with temperature := img.defaultTemp } ∧
      t.solver = { s.solver with offset := img.offset } ∧
      (∀ a, cueByte t a = img.cueBytes.getD a 0) ∧ t.cue.list = s.cue.list ∧ t.cue.lastCue = s.cue.lastCue ∧
      t.cue.lastList = s.cue.lastList ∧ t.cue.overtaken = s.cue.overtaken ∧ t.cue.undefined = s.cue.undefined ∧
      (∀ c : Fin 4, t.channels[c] =
        { s.channels[c] with
          storedGain := img.channels[c].startGain
          storedMute := img.channels[c].startMute
          preset := 0
          target := img.channels[c].trim
          applied := img.channels[c].trim * 4096
          jumps := if img.channels[c].trim = 0 then s.channels[c].jumps else satInc s.channels[c].jumps }) ∧
      t.eq.pathBand = some 0 ∧ t.eq.humidityBand = some img.defaultBand ∧
      t.eq.shelf = (findCell img.absorption img.defaultBand 0).map (·.1) ∧
      (∃ roll : RollBody, roll.unit = s.stc.unit ∧ roll.imageId = img.id ∧ roll.mode = 1#8 ∧ roll.faultFlag = false ∧
        roll.reason = 0#4 ∧ roll.contact = s.ownAlarm ∧
        t.bus = (handFrame ⟨s.number, 63, .roll roll⟩ s).bus ∧
        t.counters = (handFrame ⟨s.number, 63, .roll roll⟩ s).counters) ∧
      t.selfRec = s.selfRec ∧ t.probe = s.probe ∧ t.delay = s.delay ∧ t.level = s.level ∧ t.emc = s.emc ∧
      t.timeBase = s.timeBase ∧ t.freeCount = s.freeCount ∧ t.pending = s.pending

/-- R181, R52, R53, R82, R90, R92, R101, R23, R70, R71: the claim timer's expiry makes the mode RUN, every block takes its RUN
entry, and the first ALIGN goes to the transmit queue. That the shelf's cell changes with the shelf alone is log 22. -/
def Obligations.ClaimExpiryEntersRun : Prop :=
  ∀ (s : State) (img : Image), Lawful s → s.stc.mode = .announce → s.image = some img →
    ∃ t, exec .claimTimerExpiry s = .next t ∧
      t.stc = { s.stc with mode := .run, claim := none } ∧ t.image = s.image ∧
      EntersService img s t ∧
      (∃ r : AlignRecord, t.bus = (handFrame ⟨s.number, 63, .align r⟩ s).bus ∧
        t.counters = (handFrame ⟨s.number, 63, .align r⟩ s).counters ∧ t.solver.seq = r.seq ∧
        (s.solver.handed = false → r.seq = 0) ∧ r.solver = t.solver.state ∧ r.rank = BitVec.ofNat 4 t.solver.rank ∧
        r.delay = BitVec.ofNat 24 t.solver.delay ∧ r.path = BitVec.ofNat 24 t.solver.path ∧ r.flags = alignFlags t ∧
        r.temperature = (if s.air.state = .valid then some (BitVec.ofInt 16 s.air.temperature) else none)) ∧
      t.solver.refresh = some (img.refresh * 1000000) ∧
      t.probe = { s.probe with timer := some (5000000 + s.stc.unit.toNat % 32 * 1000000) } ∧
      t.peers = s.peers ∧ t.selfRec = s.selfRec ∧ t.air = s.air ∧ t.delay = s.delay ∧ t.level = s.level ∧
      t.cue = s.cue ∧ t.emc = s.emc ∧ t.timeBase = s.timeBase ∧ t.freeCount = s.freeCount ∧ t.pending = s.pending

/-- R187, R188, R21, R177: a RESTART of another station. Its fields for the wrong unit, in EMERGENCY, and as a warm
restart. The model's choices: the time base becomes 0 (log 9), the input lines and pins stay (log 12), lists kept in LOADING
stay kept (log 24, inside keptLists), the straps sampled are an operand (log 25), freeCount stays (log 34). -/
def Obligations.RestartTaken : Prop :=
  ∀ (src : Nat) (unit : BitVec 32) (straps : Straps) (s : State), isStation src = true → src ≠ s.number →
    (unit ≠ s.stc.unit →
      exec (.restart src unit straps) s = .next (countValid { s with stc := { s.stc with strapPins := straps } })) ∧
    (unit = s.stc.unit → s.emc.emergency = true →
      exec (.restart src unit straps) s =
        .next (bump .cueFaults (countValid { s with stc := { s.stc with strapPins := straps } }))) ∧
    (unit = s.stc.unit → s.emc.emergency = false → exec (.restart src unit straps) s = .next
      { State.reset with
        stc :=
          { State.reset.stc with
            mode := if isStation straps.number.toNat then .loading else .configFault
            strapPins := straps
            straps := straps
            unit := s.stc.unit
            reason := if isStation straps.number.toNat then .none else .badStrap
            reading := if isStation straps.number.toNat then .header 100000 else .none
            restarts := satInc s.stc.restarts
            kept := if isStation straps.number.toNat then keptLists s else Vector.replicate 16 none }
        selfRec := s.selfRec
        channels := Vector.ofFn fun c : Fin 4 => Channel.reset s.channels[c].ready s.channels[c].faultLine
        emc :=
          { State.reset.emc with
            contactPin := s.emc.contactPin
            resetPin := s.emc.resetPin
            contactSpan := if s.emc.contactPin = straps.activeHigh then some 20000 else none
            resetSpan := if s.emc.resetPin then some 20000 else none }
        counters := (countValid s).counters
        freeCount := s.freeCount
        pending := s.pending }) ∧
    (∀ (i : Fin 16) (st : Nat), s.stc.mode ≠ .loading → s.peers[i].binding = .single st →
      (keptLists s)[i] = some ⟨st, s.peers[i].flights.history, s.peers[i].flights.suspects⟩) ∧
    (∀ i : Fin 16, s.stc.mode ≠ .loading → s.peers[i].binding.singleStation = none → (keptLists s)[i] = none)

/-- R163, R174, R183, R184, R185, R32: a frame that carries this station's own number; a contest lost drops the queue, aborts
the round and, in ANNOUNCE, takes the station through its RUN entry. A ROLL with the fault flag and the own unit number
meets two rows of R184; that the fault flag's row is taken is log 38, the model's choice. -/
def Obligations.OwnNumberContested : Prop :=
  ∀ (roll : Option RollBody) (s : State), isStation s.number = true →
    (s.stc.mode ≠ .announce → s.stc.mode ≠ .run → exec (.duplicateFrame roll) s = .next (countValid s)) ∧
    (s.stc.mode = .announce ∨ s.stc.mode = .run →
      let u := { countValid s with stc := { s.stc with duplicates := satInc s.stc.duplicates } }
      let won := fun unit : BitVec 32 => { u with stc := { u.stc with lastDuplicate := some (unit, true) } }
      let own := fun v : State => (⟨s.number, 63, .roll (composeRoll v)⟩ : Frame)
      (roll = none → rollWaits s = true → exec (.duplicateFrame roll) s = .next u) ∧
      (roll = none → rollWaits s = false → exec (.duplicateFrame roll) s = .next (handFrame (own u) u)) ∧
      (∀ b, roll = some b → b.faultFlag = true → rollWaits s = true →
        exec (.duplicateFrame roll) s = .next (won b.unit)) ∧
      (∀ b, roll = some b → b.faultFlag = true → rollWaits s = false →
        exec (.duplicateFrame roll) s = .next (handFrame (own (won b.unit)) (won b.unit))) ∧
      (∀ b, roll = some b → b.faultFlag = false → b.unit = s.stc.unit → exec (.duplicateFrame roll) s = .next u) ∧
      (∀ b, roll = some b → b.faultFlag = false → s.stc.unit.toNat < b.unit.toNat →
        exec (.duplicateFrame roll) s = .next (handFrame (own (won b.unit)) (won b.unit))) ∧
      (∀ b, roll = some b → b.faultFlag = false → b.unit.toNat < s.stc.unit.toNat →
        ∃ t, exec (.duplicateFrame roll) s = .next t ∧ t.stc.mode = .conflict ∧ t.stc.claim = none ∧
          t.stc.lastDuplicate = some (b.unit, false) ∧ t.stc.duplicates = satInc s.stc.duplicates ∧
          t.bus.queue = [] ∧ t.bus.attempt = none ∧ t.probe.round = .idle ∧ t.probe.timer = none ∧
          t.solver.refresh = none ∧ t.peers = s.peers ∧ t.selfRec = s.selfRec ∧ t.air = s.air ∧ t.delay = s.delay ∧
          t.level = s.level ∧ t.cue = s.cue ∧ t.emc = s.emc ∧ t.image = s.image ∧ t.timeBase = s.timeBase ∧
          t.freeCount = s.freeCount ∧ t.pending = s.pending ∧
          (s.stc.mode = .run → t.channels = s.channels ∧ t.eq = s.eq ∧ t.solver = { s.solver with refresh := none } ∧
            (t.count .txDropped).toNat = min 65535 ((s.count .txDropped).toNat + s.bus.queue.length)) ∧
          (s.stc.mode = .announce → Lawful s → ∀ img, s.image = some img → EntersService img s t ∧
            (t.count .txDropped).toNat = min 65535
              ((s.count .txDropped).toNat + s.bus.queue.length +
                if (∃ e ∈ s.bus.queue, e.frame.body.isAlign = true) then 0 else 1)) ∧
          (s.stc.mode = .run ∨ Lawful s →
            (s.probe.round ≠ .idle → RoundAborted none s t) ∧
            (s.probe.round = .idle → t.probe = { s.probe with timer := none } ∧
              t.count .probeAborts = s.count .probeAborts ∧
              t.count .capturesCancelled = s.count .capturesCancelled))))

/-! ### Received frames -/

/-- R161, R163, R164, R173: a valid frame of another station is counted whatever its destination, in rx good and, while
TX_QUIET, in the recovery count, whose 128th ends TX_QUIET; a REPLY does nothing more. A frame row with this station's own
number as source is a duplicate frame; one with a source or destination that its kind does not allow is malformed. -/
def Obligations.ValidFrameCounted : Prop :=
  (∀ s : State, s.bus.txQuiet = true →
    exec .txQuietRecovery s = .next { s with bus := { s.bus with tfc := 0, txQuiet := false, recovery := 0 } }) ∧
  (∀ s : State, isStation s.number = true →
    let own := s.number
    let same := fun (c : Instr) (roll : Option RollBody) => exec c s = exec (.duplicateFrame roll) s
    (∀ r, same (.align own r) none) ∧ (∀ b, same (.roll own b) (some b)) ∧ (∀ stamp, same (.mark own stamp) none) ∧
    (∀ set, same (.evac own set) none) ∧
    (∀ dst n ps burst, (dst = 63 ∨ isStation dst = true) → ps.length ≤ 4 → same (.cue own dst n ps burst) none) ∧
    (∀ dst q, isStation dst = true → same (.query own dst q) none) ∧
    (∀ dst, isStation dst = true → same (.reply own dst) none) ∧
    (∀ unit straps, exec (.restart own unit straps) s =
      exec (.duplicateFrame none) { s with stc := { s.stc with strapPins := straps } })) ∧
  (∀ (src : Nat) (s : State), isStation src = false →
    let malformed := fun c : Instr => exec c s = .next (bump .rxMalformed s)
    (∀ r, malformed (.align src r)) ∧ (∀ b, malformed (.roll src b)) ∧ (∀ stamp, malformed (.mark src stamp)) ∧
    (∀ set, malformed (.evac src set)) ∧ (∀ dst n ps burst, malformed (.cue src dst n ps burst)) ∧
    (∀ dst q, malformed (.query src dst q)) ∧ (∀ dst, malformed (.reply src dst)) ∧
    (∀ unit straps, exec (.restart src unit straps) s =
      .next (bump .rxMalformed { s with stc := { s.stc with strapPins := straps } }))) ∧
  (∀ (src dst : Nat) (s : State), isStation dst = false →
    let malformed := fun c : Instr => exec c s = .next (bump .rxMalformed s)
    (∀ n ps burst, dst ≠ 63 → malformed (.cue src dst n ps burst)) ∧ (∀ q, malformed (.query src dst q)) ∧
    malformed (.reply src dst)) ∧
  (∀ (src dst : Nat) (n : Byte) (ps : List Byte) (burst : Option Nat) (s : State), 4 < ps.length →
    exec (.cue src dst n ps burst) s = .next (bump .rxMalformed s)) ∧
  ∀ (src dst : Nat) (s : State), isStation src = true → isStation dst = true → src ≠ s.number →
    ∃ t, exec (.reply src dst) s = .next t ∧
      (∀ k, t.count k = if k = .rxGood then satInc (s.count k) else s.count k) ∧
      (s.bus.txQuiet = false → t.bus = s.bus) ∧
      (s.bus.txQuiet = true → s.bus.recovery ≠ 127 → t.bus = { s.bus with recovery := s.bus.recovery + 1 }) ∧
      (s.bus.txQuiet = true → s.bus.recovery = 127 →
        t.bus = { s.bus with tfc := 0, txQuiet := false, recovery := 0 }) ∧
      t = { s with bus := t.bus, counters := t.counters }

/-- The placing steps of R3: a SINGLE entry of the source, else the POOL entry that has adopted it, else the lowest free
POOL entry whose range contains it. -/
def Obligations.RecordPlacedInOrder : Prop :=
  ∀ (src : Nat) (s : State), TableLaw s → src ≠ s.number →
    (∀ i : Fin 16, s.peers[i].binding = .single src → placeRecord s src = some i) ∧
    (∀ i : Fin 16, s.peers[i].binding.isPool = true → s.peers[i].peer = some src → placeRecord s src = some i) ∧
    ((∀ i : Fin 16, s.peers[i].peer ≠ some src) →
      (∀ (i : Fin 16) (lo hi : Nat), s.peers[i].binding = .pool lo hi → lo ≤ src → src ≤ hi → s.peers[i].peer = none →
        (∀ (j : Fin 16) (lo' hi' : Nat), j < i → s.peers[j].binding = .pool lo' hi' → s.peers[j].peer = none →
          ¬(lo' ≤ src ∧ src ≤ hi')) →
        placeRecord s src = some i) ∧
      ((∀ (j : Fin 16) (lo' hi' : Nat), s.peers[j].binding = .pool lo' hi' → s.peers[j].peer = none →
          ¬(lo' ≤ src ∧ src ≤ hi')) →
        placeRecord s src = none))

/-- R3, R5, R6, R129: an ALIGN of another station. The state the table leaves, in each case, goes on to Emergency Control
with the CONTACT flag. -/
def Obligations.AlignTakenByTable : Prop :=
  ∀ (src : Nat) (r : AlignRecord) (s : State), isStation src = true → src ≠ s.number →
    let u := countValid s
    let done := fun v : State => exec (.align src r) s = .next (finishEvent u (takeContactFlag src r.flags.contact v))
    (s.stc.mode = .loading ∨ s.stc.mode = .configFault → done u) ∧
    (s.stc.mode = .announce ∨ s.stc.mode = .run ∨ s.stc.mode = .conflict →
      (placeRecord s src = none → done (bump .unmatchedAlign u)) ∧
      (∀ i old, placeRecord s src = some i → s.peers[i].record = some old → r.seq = old.seq →
        done { u with peers := s.peers.set i { s.peers[i] with age := some 0 } }) ∧
      (∀ i, placeRecord s src = some i → (∀ old, s.peers[i].record = some old → r.seq ≠ old.seq) →
        ∃ v, done v ∧
          v.peers = s.peers.set i
            { s.peers[i] with
              peer := some src
              record := some r
              age := some 0
              state := .fresh
              unread := if s.stc.kind = some .origin then s.peers[i].unread else true } ∧
          (∀ k, v.count k =
            if k = .recordGap ∧ s.peers[i].record.any (fun old => r.seq != old.seq + 1) = true ∨
               k = .recordOverrun ∧ s.stc.kind ≠ some .origin ∧ s.peers[i].unread = true
            then satInc (u.count k) else u.count k) ∧
          v.solver =
            { u.solver with
              settle := if s.stc.kind = some .delay ∧ s.serving = true then some (u.solver.settle.getD 200000)
                else u.solver.settle } ∧
          v = { u with peers := v.peers, counters := v.counters, solver := v.solver }))

/-- R129: the CONTACT flag of an ALIGN or ROLL of another station, in every mode; a frame with the own number as source
does not reach Emergency Control. -/
def Obligations.ContactFlagRemovesSource : Prop :=
  ∀ (src : Nat) (s : State), isStation src = true →
    (∀ r : AlignRecord, ∃ t, exec (.align src r) s = .next t ∧
      t.emc.sources =
        if src = s.number ∨ r.flags.contact = true then s.emc.sources else s.emc.sources.filter (· ≠ src)) ∧
    (∀ b : RollBody, ∃ t, exec (.roll src b) s = .next t ∧
      t.emc.sources =
        if src = s.number ∨ b.contact = true then s.emc.sources else s.emc.sources.filter (· ≠ src)) ∧
    (∀ b : RollBody, src ≠ s.number →
      (b.contact = true ∨ src ∉ s.emc.sources ∧ s.emc.emergency = (s.ownAlarm || !s.emc.sources.isEmpty)) →
      exec (.roll src b) s = .next (countValid s))

/-- R128, R131: an EVAC of another station changes the source set, and EMERGENCY follows the own alarm and the set. -/
def Obligations.EvacKeepsSourceSet : Prop :=
  ∀ (src : Nat) (set : Bool) (s : State), isStation src = true → src ≠ s.number → s.emc.sources.Pairwise (· < ·) →
    ∃ t, exec (.evac src set) s = .next t ∧
      (∀ n, n ∈ t.emc.sources ↔ (if set then n ∈ s.emc.sources ∨ n = src else n ∈ s.emc.sources ∧ n ≠ src)) ∧
      t.emc.sources.Pairwise (· < ·) ∧
      t.emc.emergency = (s.ownAlarm || !t.emc.sources.isEmpty) ∧
      t.emc = { s.emc with sources := t.emc.sources, emergency := t.emc.emergency } ∧
      t.stc = s.stc ∧ t.image = s.image ∧ t.peers = s.peers ∧ t.selfRec = s.selfRec ∧ t.air = s.air ∧ t.delay = s.delay ∧
      t.level = s.level ∧ t.timeBase = s.timeBase ∧ t.freeCount = s.freeCount ∧ t.pending = s.pending ∧
      (t.emc.emergency = s.emc.emergency →
        t.probe = s.probe ∧ t.solver = s.solver ∧ t.eq = s.eq ∧ t.channels = s.channels ∧ t.cue = s.cue ∧
        t.bus = (countValid s).bus ∧ t.counters = (countValid s).counters)

/-- R131, R133, R30, R33, R44, R58, R105, R119, R154: what an EVAC SET that brings the station into EMERGENCY does in RUN or
CONFLICT, with the counters of the aborted round and of the cancelled windows, and the ALIGN that FROZEN asks for at the end
(R70); and R101, R106, R120: in CONFIG_FAULT, where every channel takes 0.0 dB at once and wakes. -/
def Obligations.EmergencyEntered : Prop :=
  (∀ (src : Nat) (s : State), isStation src = true → src ≠ s.number → Lawful s → s.emc.emergency = false →
    s.stc.mode = .configFault →
    ∃ t, exec (.evac src true) s = .next t ∧ t.emc.emergency = true ∧
      t.solver = { s.solver with emergencyFreeze := true } ∧
      (∀ c : Fin 4, t.channels[c] =
        { s.channels[c] with
          gainTarget := .gain 160
          factor := .of (.gain 160)
          power := if s.channels[c].ready then .active else .waking
          enable := true
          wake := if s.channels[c].ready then none else some 500000
          fade := if s.channels[c].ready then some 0 else none }) ∧
      t.probe.round = .idle ∧ (∀ i : Fin 2, t.probe.slots[i] = .free) ∧
      t.bus = (countValid s).bus ∧ t.cue = s.cue ∧ t.eq = s.eq ∧ t.peers = s.peers ∧ t.selfRec = s.selfRec ∧
      t.stc = s.stc ∧ t.image = s.image ∧ t.air = s.air ∧ t.delay = s.delay ∧ t.level = s.level) ∧
  ∀ (src : Nat) (s : State), isStation src = true → src ≠ s.number → Lawful s → s.emc.emergency = false →
    s.serving = true →
    ∃ t, exec (.evac src true) s = .next (finishEvent (countValid s) t) ∧ t.emc.emergency = true ∧
      t.probe.round = .idle ∧ (∀ i : Fin 2, t.probe.slots[i] = .free) ∧
      (s.probe.round ≠ .idle → t.probe.timer = some 5000000) ∧
      (s.probe.round = .idle → t.probe.timer = s.probe.timer) ∧
      t.count .probeAborts = (if s.probe.round = .idle then s.count .probeAborts else satInc (s.count .probeAborts)) ∧
      (let cancelled := s.probe.slots.toList.countP fun slot => match slot with
         | .opened _ => true
         | _ => false
       (t.count .capturesCancelled).toNat = min 65535 ((s.count .capturesCancelled).toNat + cancelled)) ∧
      (∀ e ∈ t.bus.queue, e.frame.body.isMark = false) ∧ (∀ a, t.bus.attempt = some a → a.frame.body.isMark = false) ∧
      t.bus =
        { (countValid s).bus with
          queue := s.bus.queue.filter fun e => !e.frame.body.isMark
          attempt := s.bus.attempt.filter fun a => !a.frame.body.isMark } ∧
      t.solver = { s.solver with emergencyFreeze := true, hold := t.solver.hold } ∧
      (∀ left, s.solver.hold = .running left → t.solver.hold = .suspended left) ∧
      (s.solver.hold.isRunning = false → t.solver.hold = s.solver.hold) ∧
      t.cue.list = .idle ∧
      (∀ c, s.cue.list.context = some c → t.cue.lastList = some ⟨c.cue, .emergency, c.position⟩) ∧
      (s.cue.list = .idle → t.cue = s.cue) ∧
      (∀ (img : Image) (c : Fin 4), s.image = some img →
        t.channels[c].gainTarget = .gain img.channels[c].evacGain ∧
        t.channels[c].storedGain = s.channels[c].storedGain ∧ t.channels[c].storedMute = s.channels[c].storedMute ∧
        t.channels[c].preset = s.channels[c].preset ∧ t.channels[c].forcedOff = s.channels[c].forcedOff ∧
        t.channels[c].target = s.channels[c].target ∧ t.channels[c].applied = s.channels[c].applied ∧
        t.channels[c].power =
          (match s.channels[c].power with
           | .standby | .forcedOff | .fault => if s.channels[c].ready then .active else .waking
           | .watch => .active
           | .active => .active
           | .waking => .waking) ∧
        (s.channels[c].power.sounding = false →
          t.channels[c].active = .eq img.channels[c].evacPreset s.eq.shelf ∧
          t.channels[c].factor = .of (.gain img.channels[c].evacGain)) ∧
        (s.channels[c].crossfade ≠ .idle →
          t.channels[c].waiting = some (.eq img.channels[c].evacPreset s.eq.shelf)) ∧
        (let asked := s.channels[c].request (.eq img.channels[c].evacPreset s.eq.shelf)
         t.channels[c].active = asked.active ∧ t.channels[c].crossfade = asked.crossfade ∧
         t.channels[c].waiting = asked.waiting)) ∧
      t =
        { countValid s with
          emc := t.emc, probe := t.probe, bus := t.bus, counters := t.counters, cue := t.cue, solver := t.solver
          channels := t.channels } ∧
      t.emc = { s.emc with sources := [src], emergency := true }

/-- R131, R58, R105, R119: what the EVAC CLEAR that ends the last cause of EMERGENCY does in RUN or CONFLICT, with the
request for the selected preset and the ALIGN at the end (R70); and R101, R106, R120: in CONFIG_FAULT, where every channel goes
back to STANDBY and silence, and each one that leaves WAKING with its mark counts a wake loss (log 42, the model's choice). -/
def Obligations.EmergencyLeft : Prop :=
  (∀ (src : Nat) (s : State), isStation src = true → src ≠ s.number → Lawful s → s.emc.sources = [src] →
    s.ownAlarm = false → s.stc.mode = .configFault →
    ∃ t, exec (.evac src false) s = .next t ∧ t.emc.emergency = false ∧ t.emc.sources = [] ∧
      t.solver = { s.solver with emergencyFreeze := false } ∧
      (∀ c : Fin 4,
        t.channels[c].power = .standby ∧ t.channels[c].enable = false ∧ t.channels[c].silence = none ∧
        t.channels[c].wake = none ∧ t.channels[c].cause = none ∧ t.channels[c].fade = none ∧
        t.channels[c].wakeLoss = false ∧ t.channels[c].gainTarget = .silence ∧ t.channels[c].factor = .of .silence ∧
        t.channels[c].ramp = .idle ∧ t.channels[c].active = .flat ∧ t.channels[c].crossfade = .idle ∧
        t.channels[c].waiting = none ∧ t.channels[c].target = 0 ∧ t.channels[c].applied = 0 ∧
        t.channels[c].slew = .settled ∧ t.channels[c].forcedOff = s.channels[c].forcedOff ∧
        t.channels[c].ready = s.channels[c].ready ∧ t.channels[c].faultLine = s.channels[c].faultLine ∧
        t.channels[c].storedGain = s.channels[c].storedGain ∧ t.channels[c].storedMute = s.channels[c].storedMute ∧
        t.channels[c].preset = s.channels[c].preset) ∧
      (t.count .wakeLosses).toNat = min 65535 ((s.count .wakeLosses).toNat +
        (List.finRange 4).countP fun c => s.channels[c].power == .waking && s.channels[c].wakeLoss) ∧
      t.bus = (countValid s).bus ∧ t.probe = s.probe ∧ t.cue = s.cue ∧ t.eq = s.eq ∧ t.peers = s.peers ∧
      t.selfRec = s.selfRec ∧ t.stc = s.stc ∧ t.image = s.image ∧ t.air = s.air ∧ t.delay = s.delay ∧ t.level = s.level) ∧
  ∀ (src : Nat) (s : State), isStation src = true → src ≠ s.number → Lawful s → s.emc.sources = [src] →
    s.ownAlarm = false → s.serving = true →
    ∃ t, exec (.evac src false) s = .next (finishEvent (countValid s) t) ∧ t.emc.emergency = false ∧ t.emc.sources = [] ∧
      t.solver = { s.solver with emergencyFreeze := false, settle := t.solver.settle, hold := t.solver.hold } ∧
      (s.stc.kind = some .origin → t.solver.settle = s.solver.settle) ∧
      (s.stc.kind = some .delay → t.solver.settle = some (s.solver.settle.getD 200000)) ∧
      (∀ left, s.solver.hold = .suspended left → s.solver.cueFreeze = false → t.solver.hold = .running left) ∧
      (∀ c : Fin 4,
        t.channels[c].gainTarget =
          (if s.channels[c].storedMute then .silence else .gain s.channels[c].storedGain) ∧
        t.channels[c].forcedOff = s.channels[c].forcedOff ∧ t.channels[c].target = s.channels[c].target ∧
        t.channels[c].preset = s.channels[c].preset ∧
        (let wanted : Setting := .eq s.channels[c].preset s.eq.shelf
         let asked := s.channels[c].request wanted
         let off := s.channels[c].forcedOff = true ∧ s.channels[c].power.sounding = true
         (off → t.channels[c].active = wanted ∧ t.channels[c].crossfade = .idle ∧ t.channels[c].waiting = none) ∧
         (¬off → t.channels[c].active = asked.active ∧ t.channels[c].crossfade = asked.crossfade ∧
           t.channels[c].waiting = asked.waiting)) ∧
        (s.channels[c].forcedOff = true → s.channels[c].power.sounding = true → t.channels[c].power = .forcedOff) ∧
        (s.channels[c].power = .fault → t.channels[c].power = .fault) ∧
        (s.channels[c].forcedOff = false → s.channels[c].power = .active →
          t.channels[c].power =
            if s.autoStandby c = true ∧ (s.level.present = false ∨ s.channels[c].storedMute = true) then .watch
            else .active) ∧
        (s.channels[c].forcedOff = false → s.channels[c].power = .waking → t.channels[c].power = .waking)) ∧
      t.emc = { s.emc with sources := [], emergency := false } ∧
      (t.count .wakeLosses).toNat = min 65535 ((s.count .wakeLosses).toNat +
        (List.finRange 4).countP fun c =>
          s.channels[c].power == .waking && s.channels[c].wakeLoss && s.channels[c].forcedOff) ∧
      (∀ k : Counter, k ≠ .wakeLosses → t.count k = (countValid s).count k) ∧
      t =
        { countValid s with
          emc := t.emc, solver := t.solver, channels := t.channels, counters := t.counters }

/-- R12, R18, R35: a MARK of another station; its timestamp goes to the entry that holds the station, the one whose peer it is
under the law of the table, and a window opens when a slot is to be had. -/
def Obligations.MarkOpensWindow : Prop :=
  ∀ (src : Nat) (stamp : Instant) (s : State), isStation src = true → src ≠ s.number →
    let u := countValid s
    (TableLaw s → ∀ i : Fin 16, s.peers[i].peer = some src → s.holder src = some i) ∧
    ((∀ i : Fin 16, s.peers[i].peer ≠ some src) → s.holder src = none ∧ exec (.mark src stamp) s = .next u) ∧
    (∀ i : Fin 16, s.holder src = some i →
      let v := { u with peers := s.peers.set i { s.peers[i] with lastMark := some stamp } }
      let isOpen := fun slot : Slot => ∃ w, slot = .opened w ∧ w.owner = src
      (s.emc.emergency = true → exec (.mark src stamp) s = .next v) ∧
      (s.emc.emergency = false → (∃ j : Fin 2, isOpen s.probe.slots[j]) →
        exec (.mark src stamp) s = .next (bump .captureBusy v)) ∧
      (s.emc.emergency = false → (∀ j : Fin 2, s.probe.slots[j] ≠ .free) →
        exec (.mark src stamp) s = .next (bump .captureBusy v)) ∧
      (∀ j : Fin 2, s.emc.emergency = false → (∀ j : Fin 2, ¬isOpen s.probe.slots[j]) → s.probe.slots[j] = .free →
        (∀ k : Fin 2, k < j → s.probe.slots[k] ≠ .free) →
        exec (.mark src stamp) s = .next
          { v with
            probe :=
              { s.probe with
                slots := s.probe.slots.set j (.opened
                  { owner := src, opens := stamp + 2000#32, closes := stamp + 1542000#32, best := 0, peaks := []
                    discard := false, latest := none, heard := [], lead := 0 }) } }))

/-- R143: a CUE that is refused, and the outcome by the first condition that holds. -/
def Obligations.CueRefused : Prop :=
  ∀ (src dst : Nat) (number : Byte) (params : List Byte) (burst : Option Nat) (s : State),
    isStation src = true → src ≠ s.number → (dst = 63 ∨ dst = s.number ∧ isStation dst = true) → params.length ≤ 4 →
    let refused := fun outcome : CueOutcome =>
      exec (.cue src dst number params burst) s = .next
        (bump .cueFaults { countValid s with cue := { s.cue with lastCue := some ⟨src, number, outcome⟩ } })
    (s.emc.emergency = true → refused .refusedEmergency) ∧
    (s.emc.emergency = false → s.stc.mode ≠ .run → s.stc.mode ≠ .conflict → refused .refusedMode) ∧
    (s.emc.emergency = false → (s.stc.mode = .run ∨ s.stc.mode = .conflict) → 63 < number.toNat → refused .refusedNumber)

/-- R144, R145: a CUE that is taken overtakes a running list and sets the new one going, or is undefined. -/
def Obligations.CueTaken : Prop :=
  ∀ (src dst : Nat) (number : Byte) (params : List Byte) (burst : Option Nat) (s : State),
    isStation src = true → src ≠ s.number → (dst = 63 ∨ dst = s.number ∧ isStation dst = true) → params.length ≤ 4 →
    s.emc.emergency = false → (s.stc.mode = .run ∨ s.stc.mode = .conflict) → number.toNat ≤ 63 →
    let n := number.toNat
    let count := match s.cue.list.context with
      | some _ => satInc s.cue.overtaken
      | none => s.cue.overtaken
    (cueByte s (8 * n) = 0#8 →
      exec (.cue src dst number params burst) s = .next
        { countValid s with
          cue :=
            { s.cue with
              list := .idle
              lastCue := some ⟨src, number, .undefined⟩
              lastList := some ⟨n, .undefined, 8 * n⟩
              overtaken := count
              undefined := satInc s.cue.undefined } }) ∧
    (cueByte s (8 * n) ≠ 0#8 →
      exec (.cue src dst number params burst) s = .next (runList burst
        { countValid s with
          cue :=
            { s.cue with
              list := .running ⟨n, params, 8 * n⟩
              lastCue := some ⟨src, number, .taken⟩
              lastList := match s.cue.list.context with
                | some c => some ⟨c.cue, .overtaken, c.position⟩
                | none => s.cue.lastList
              overtaken := count } }))

/-- R145 to R153, R202, R100 to R103, R110, R116, R117: what action the bytes of cue memory and the parameters spell, checked in
the order of R146; one action of a RUNNING list, by its kind, with the gain target it sets anew, the ramp or the factor that
follows, what SLEEP and WAKE make of each channel they mark and of the probe round, and the round that a PROBE starts; and the
WAIT timer's expiry takes the next ones. -/
def Obligations.ListTakesAction : Prop :=
  (∀ (mem : Nat → Byte) (params : List Byte) (position : Nat), ActionSpelled mem params position) ∧
  (∀ (burst : Option Nat) (c : ListContext) (left : Nat) (s : State), s.cue.list = .waiting c left →
    exec (.waitTimerExpiry burst) s = .next (runList burst { s with cue := { s.cue with list := .running c } })) ∧
  (∀ (c : ListContext) (s : State), s.cue.list = .running c → runList (some 0) s = event takeAction s) ∧
  ∀ (c : ListContext) (s : State), s.cue.list = .running c →
    let at' := fun k : Nat => ListState.running { c with position := c.position + k }
    let action := decodeAction (cueByte s) c.params c.position
    let aimed := fun (ch : Fin 4) (g : GainTarget) (t : State) => s.serving = true → s.emc.emergency = false →
      t.channels[ch].gainTarget = g ∧
      (g = s.channels[ch].gainTarget →
        t.channels[ch].ramp = s.channels[ch].ramp ∧ t.channels[ch].factor = s.channels[ch].factor) ∧
      (g ≠ s.channels[ch].gainTarget → s.channels[ch].power.sounding = true →
        t.channels[ch].ramp = .running s.channels[ch].factor 0 ∧ t.channels[ch].factor = s.channels[ch].factor) ∧
      (g ≠ s.channels[ch].gainTarget → s.channels[ch].power.sounding = false →
        t.channels[ch].ramp = .idle ∧ t.channels[ch].factor = .of g) ∧
      t.channels[ch].power =
        (match s.channels[ch].power with
         | .active => if s.autoStandby ch = true ∧ (s.level.present = false ∨ g = .silence) then .watch else .active
         | .watch => if s.level.present = true ∧ g ≠ .silence then .active else .watch
         | .standby =>
           if s.level.present = true ∧ g ≠ .silence then (if s.channels[ch].ready then .active else .waking) else .standby
         | other => other)
    (∀ kind, action = .error kind → takeAction s = bump .cueFaults
      { s with cue := { s.cue with list := .idle, lastList := some ⟨c.cue, .fault kind, c.position⟩ } }) ∧
    (action = .ok .finish → takeAction s =
      { s with cue := { s.cue with list := .idle, lastList := some ⟨c.cue, .complete, c.position⟩ } }) ∧
    (∀ v, action = .ok (.wait v) → takeAction s =
      { s with cue := { s.cue with list := .waiting { c with position := c.position + 2 } (v * 40000) } }) ∧
    (action = .ok .freeze → takeAction s =
      { s with
        cue := { s.cue with list := at' 1 }
        solver := { s.solver with cueFreeze := true, hold := s.solver.hold.follow true } }) ∧
    (∀ v, action = .ok (.offset v) → takeAction s =
      { s with
        cue := { s.cue with list := at' 2 }
        solver :=
          { s.solver with
            offset := v
            settle := if s.serving = true ∧ s.stc.kind = some .delay then some (s.solver.settle.getD 200000)
              else s.solver.settle } }) ∧
    (action = .ok .thaw → takeAction s =
      { s with
        cue := { s.cue with list := at' 1 }
        solver :=
          { s.solver with
            cueFreeze := false
            hold := s.solver.hold.follow s.solver.emergencyFreeze
            settle := if s.serving = true ∧ s.stc.kind = some .delay then some (s.solver.settle.getD 200000)
              else s.solver.settle } }) ∧
    (action = .ok .probe → ∃ t, takeAction s = t ∧ t.cue = { s.cue with list := at' 1 } ∧
      (startConditions s = false → t = { bump .probeAborts s with cue := t.cue }) ∧
      (startConditions s = true → ∀ (img : Image) (i : Fin 2), s.image = some img → s.probe.slots[i] = .free →
        (∀ j : Fin 2, j < i → s.probe.slots[j] ≠ .free) →
        t.probe.timer = none ∧ t.probe.slots = s.probe.slots.set i (.reserved s.number) ∧
        t.count .probeAborts = s.count .probeAborts ∧
        (s.channels[img.probeChannel].power = .active ∨ s.channels[img.probeChannel].power = .watch →
          t.probe.round = .marking ∧ t.probe.deadline = some 50000 ∧ t.channels = s.channels ∧
          t.bus = (handFrame ⟨s.number, 63, .mark⟩ s).bus) ∧
        (s.channels[img.probeChannel].power = .waking → t.probe.round = .waking ∧ t.channels = s.channels) ∧
        (s.channels[img.probeChannel].power = .standby →
          (s.channels[img.probeChannel].ready = false →
            t.probe.round = .waking ∧ t.channels[img.probeChannel].power = .waking) ∧
          (s.channels[img.probeChannel].ready = true →
            t.probe.round = .marking ∧ t.channels[img.probeChannel].power.gateOpen = true)))) ∧
    (∀ (set : BitVec 4) (mute : Bool), action = .ok (if mute then .mute set else .unmute set) → ∃ t, takeAction s = t ∧
      t.cue = { s.cue with list := at' 2 } ∧
      ∀ ch : Fin 4, t.channels[ch].storedMute = (if set.getLsbD ch then mute else s.channels[ch].storedMute) ∧
        (set.getLsbD ch = true → t.channels[ch].storedGain = s.channels[ch].storedGain ∧
          aimed ch (if mute then .silence else .gain s.channels[ch].storedGain) t) ∧
        (set.getLsbD ch = false → t.channels[ch] = s.channels[ch])) ∧
    (∀ set v, action = .ok (.gain set v) → ∃ t, takeAction s = t ∧ t.cue = { s.cue with list := at' 3 } ∧
      ∀ ch : Fin 4, t.channels[ch].storedGain = (if set.getLsbD ch then v else s.channels[ch].storedGain) ∧
        (set.getLsbD ch = true → t.channels[ch].storedMute = s.channels[ch].storedMute ∧
          aimed ch (if s.channels[ch].storedMute then .silence else .gain v) t) ∧
        (set.getLsbD ch = false → t.channels[ch] = s.channels[ch])) ∧
    (∀ set v, action = .ok (.preset set v) → ∃ t, takeAction s = t ∧ t.cue = { s.cue with list := at' 3 } ∧
      ∀ ch : Fin 4, t.channels[ch] =
        if set.getLsbD ch then
          ({ s.channels[ch] with preset := v } : Channel).request
            (if s.serving then (if s.emc.emergency then wantedSetting s ch else .eq v s.eq.shelf) else .flat)
        else s.channels[ch]) ∧
    (∀ (set : BitVec 4) (off : Bool), action = .ok (if off then .sleep set else .wake set) → ∃ t, takeAction s = t ∧
      t.cue = { s.cue with list := at' 2 } ∧
      (∀ ch, off = true → s.probeChannel = some ch → set.getLsbD ch = true → s.channels[ch].power ≠ .fault →
        s.channels[ch].power ≠ .forcedOff → RoundFollows ch .forcedOff s t) ∧
      ∀ ch : Fin 4, t.channels[ch].forcedOff = (if set.getLsbD ch then off else s.channels[ch].forcedOff) ∧
        (set.getLsbD ch = true → t.channels[ch] = (if off then sleepChannel ch s else wakeChannel ch s).channels[ch]) ∧
        (set.getLsbD ch = false → t.channels[ch] = s.channels[ch]))

/-- R145, R146: a run of actions takes the action at its position and goes on with the next, as long as the list is RUNNING
and, with a number of further actions given, so many times more (log 6, the model's choice); it changes nothing when the list
is not RUNNING. A run that nothing interrupts ends at the next WAIT, the END or a cue fault. -/
def Obligations.ListRunEnds : Prop :=
  ∀ s : State,
    ((∀ c, s.cue.list ≠ .running c) → ∀ burst, runList burst s = s) ∧
    (∀ c, s.cue.list = .running c →
      runList none s = runList none (event takeAction s) ∧ runList (some 0) s = event takeAction s ∧
      ∀ n, runList (some (n + 1)) s = runList (some n) (event takeAction s)) ∧
    ∀ c, (runList none s).cue.list ≠ .running c

/-- R190, R191, R193, R194, R195, R203: a QUERY addressed to this station, answered or not, with its status, and what CLEAR
does; each space has as many bytes as its info block says, and shows each field of R203 in its place. What an absent field
shows and the unnamed bits of a record are logs 21 and 41 (DEDUCED). -/
def Obligations.QueryAnswered : Prop :=
  (∀ s : State,
    (spaceBytes s 0).length = 63 ∧ (spaceBytes s 1).length = 32 ∧ (spaceBytes s 2).length = 47 * 17 ∧
    (spaceBytes s 3).length = 34 * 5 ∧ (spaceBytes s 4).length = 2 * 20 ∧ (spaceBytes s 5).length = 5 ∧
    infoBlock 0 = 0x2A103F01#32 ∧ infoBlock 1 = 0x2A112001#32 ∧ infoBlock 2 = 0x2A122F11#32 ∧
    infoBlock 3 = 0x2A132205#32 ∧ infoBlock 4 = 0x2A140214#32 ∧ infoBlock 5 = 0x2A150501#32 ∧
    IdentityShown s ∧ AlignmentShown s ∧ PeersShown s ∧ ChannelsShown s ∧ CountersAndAirShown s) ∧
  ∀ (src : Nat) (q : QueryBody) (s : State), isStation src = true → isStation s.number = true → src ≠ s.number →
    let u := countValid s
    let hidden := 5 < q.space.toNat ∨ s.stc.mode = .configFault ∧ q.space.toNat ≠ 0 ∧ q.space.toNat ≠ 4
    let outside := q.count.toNat = 0 ∨ 48 < q.count.toNat ∨ spaceSize q.space.toNat < q.offset.toNat + q.count.toNat
    let reply := fun body : FrameBody => exec (.query src s.number q) s = .next (handFrame ⟨s.number, src, body⟩ u)
    (∀ dst, isStation dst = true → dst ≠ s.number → exec (.query src dst q) s = .next u) ∧
    (s.stc.mode = .loading ∨ s.stc.mode = .conflict → exec (.query src s.number q) s = .next u) ∧
    (s.stc.mode = .announce ∨ s.stc.mode = .run ∨ s.stc.mode = .configFault →
      (hidden → reply (.replyStatus 1 q.space q.offset q.count q.flags none)) ∧
      (¬hidden → q.flags.getLsbD 0 = true →
        reply (.replyStatus 0 q.space q.offset q.count q.flags (some (infoBlock q.space.toNat)))) ∧
      (¬hidden → q.flags.getLsbD 0 = false → outside →
        reply (.replyStatus 2 q.space q.offset q.count q.flags none)) ∧
      (¬hidden → q.flags.getLsbD 0 = false → ¬outside →
        let body : FrameBody := .replyData (q.space.setWidth 3) (q.offset.setWidth 10)
          (((spaceBytes u q.space.toNat).drop q.offset.toNat).take q.count.toNat)
        let t := handFrame ⟨s.number, src, body⟩ u
        (q.flags.getLsbD 1 = false ∨ q.space.toNat ≠ 4 ∨ admission u body = .refused →
          exec (.query src s.number q) s = .next t) ∧
        (q.flags.getLsbD 1 = true → q.space.toNat = 4 → admission u body ≠ .refused →
          ∃ v, exec (.query src s.number q) s = .next v ∧ v = { t with counters := v.counters } ∧
            ∀ k : Counter, v.count k =
              if q.offset.toNat ≤ 2 * k.index.val ∧ 2 * k.index.val + 1 ≤ q.offset.toNat + q.count.toNat - 1 then 0
              else t.count k)))

/-! ### The line -/

/-- R159, R160, R158, R170: what the receive assembly makes of a character, in each of its states. That a character after a
complete own transmission is counted too is log 37, the model's choice. -/
def Obligations.CharacterTaken : Prop :=
  ∀ (ch : LineChar) (driven : Bool) (s : State),
    let u := { s with bus := { s.bus with idleMicros := 0, yieldOwed := s.bus.yieldOwed && driven } }
    let put := fun a : Assembly => { u with bus := { u.bus with assembly := a } }
    let gives := fun v : State => exec (.lineCharacter ch driven) s = .next v
    let grown := fun chars : List Byte => fun v : State =>
      (chars.length < 4 → v = put (.assembling chars)) ∧
      (∀ b0 b1 b2 b3 rest, chars = b0 :: b1 :: b2 :: b3 :: rest →
        let len := 4 + declaredPayload b0 b3 + 1
        (48 < declaredPayload b0 b3 → v = bump .rxMalformed (put .discarding)) ∧
        (declaredPayload b0 b3 ≤ 48 → chars.length = len → v = put (.complete chars s.timeBase false)) ∧
        (declaredPayload b0 b3 ≤ 48 → chars.length ≠ len → v = put (.assembling chars)))
    (s.bus.assembly = .seeking false → gives (put (.seeking false))) ∧
    (s.bus.assembly = .seeking true → ch = .broken → gives (put (.seeking false))) ∧
    (∀ b, s.bus.assembly = .seeking true → ch = .good b → ∃ v, gives v ∧ grown [b] v) ∧
    (∀ chars b, s.bus.assembly = .assembling chars → ch = .good b → ∃ v, gives v ∧ grown (chars ++ [b]) v) ∧
    (∀ chars, s.bus.assembly = .assembling chars → ch = .broken → gives (bump .rxCrc (put .discarding))) ∧
    (∀ chars stamp own, s.bus.assembly = .complete chars stamp own → gives (bump .rxOverlong (put .discarding))) ∧
    (s.bus.assembly = .discarding → gives u)

/-- R159, R160, R161, R162: idle time reaches the gap. A frame cut short, one whose CRC disagrees and one that is malformed
are discarded and counted; an own transmission is not looked at; any other is confirmed as a whole valid frame, which is the
row of its kind in the table (log 4, DEDUCED). -/
def Obligations.GapChecksFrame : Prop :=
  ∀ (burst : Option Nat) (s : State),
    let u :=
      { s with
        bus := { s.bus with assembly := .seeking true, idleMicros := max s.bus.idleMicros (3 * s.characterTime) } }
    let gives := fun v : State => exec (.interFrameGap burst) s = .next v
    (∀ ready, s.bus.assembly = .seeking ready → gives u) ∧
    (s.bus.assembly = .discarding → gives u) ∧
    (∀ chars, s.bus.assembly = .assembling chars → gives (bump .rxTruncated u)) ∧
    (∀ chars stamp, s.bus.assembly = .complete chars stamp true → gives u) ∧
    (∀ chars stamp, s.bus.assembly = .complete chars stamp false →
      (chars.getLast? ≠ some (crc8 chars.dropLast) → gives (bump .rxCrc u)) ∧
      (chars.getLast? = some (crc8 chars.dropLast) → parseFrame chars = none → gives (bump .rxMalformed u)) ∧
      (∀ f, chars.getLast? = some (crc8 chars.dropLast) → parseFrame chars = some f →
        gives (confirmFrame f stamp s.stc.strapPins burst u) ∧
        exec (.interFrameGap burst) s = exec (frameRow f stamp burst s.stc.strapPins) u))

/-- R198, R199: a frame's bytes are read back as the frame, and its CRC agrees, for every frame a station may send. -/
def Obligations.FrameBytesReadBack : Prop :=
  ∀ f : Frame, Frame.wellFormed f = true → parseFrame (Frame.bytes f) = some f ∧ crcAgrees (Frame.bytes f) = true

/-- R165, R166, R167: the admission of a frame, in each case. -/
def Obligations.QueueAdmission : Prop :=
  ∀ (f : Frame) (s : State), QueueLaw s →
    let replaced := fun e : QueueEntry => f.body.replaces e.frame.body
    ((∃ e ∈ s.bus.queue, replaced e = true) → ∃ t, handFrame f s = t ∧
      t.bus.queue = s.bus.queue.map (fun e => if replaced e then { e with frame := f, attempted := false } else e) ∧
      (∀ a, s.bus.attempt = some a → (∀ e ∈ s.bus.queue, replaced e = true → e.arrival ≠ a.arrival) →
        t.bus.attempt = some a) ∧
      (∀ a, s.bus.attempt = some a → (∃ e ∈ s.bus.queue, replaced e = true ∧ e.arrival = a.arrival) →
        t.bus.attempt = some { a with superseded := true }) ∧
      (s.bus.attempt = none → t.bus.attempt = none) ∧
      t = { s with bus := { s.bus with queue := t.bus.queue, attempt := t.bus.attempt } }) ∧
    ((∀ e ∈ s.bus.queue, replaced e = false) →
      (s.bus.txQuiet = true ∨ s.stc.mode = .conflict → handFrame f s = bump .txDropped s) ∧
      (s.bus.txQuiet = false → s.stc.mode ≠ .conflict → s.bus.queue.length < 8 →
        handFrame f s =
          { s with
            bus :=
              { s.bus with
                queue := s.bus.queue.filter (fun e => e.cls ≤ f.body.cls) ++ [⟨f, s.bus.nextArrival, false⟩] ++
                  s.bus.queue.filter (fun e => f.body.cls < e.cls)
                nextArrival := s.bus.nextArrival + 1 } }) ∧
      (s.bus.txQuiet = false → s.stc.mode ≠ .conflict → s.bus.queue.length = 8 → f.body.isReply = true →
        handFrame f s = bump .txDropped s) ∧
      (s.bus.txQuiet = false → s.stc.mode ≠ .conflict → s.bus.queue.length = 8 → f.body.cls < 3 →
        ∀ keep last, s.bus.queue = keep ++ [last] →
          (last.cls ≤ f.body.cls ∨ (∃ a, s.bus.attempt = some a ∧ a.arrival = last.arrival) →
            handFrame f s = bump .txDropped s) ∧
          (f.body.cls < last.cls → (∀ a, s.bus.attempt = some a → a.arrival ≠ last.arrival) →
            handFrame f s = bump .txDropped
              { s with
                bus :=
                  { s.bus with
                    queue := keep.filter (fun e => e.cls ≤ f.body.cls) ++ [⟨f, s.bus.nextArrival, false⟩] ++
                      keep.filter (fun e => f.body.cls < e.cls)
                    nextArrival := s.bus.nextArrival + 1 } })))

/-- R169, R165: the head is attempted when the idle time reaches its start delay; nothing starts in TX_QUIET, in CONFLICT,
with an attempt under way, or with an empty queue. -/
def Obligations.AttemptBegins : Prop :=
  (∀ (head : QueueEntry) (rest : List QueueEntry) (s : State), s.bus.queue = head :: rest → s.bus.txQuiet = false →
    s.stc.mode ≠ .conflict → s.bus.attempt = none →
    let delay := 3 + 64 * head.frame.body.cls + s.number +
      if s.bus.yieldOwed = true ∧ head.frame.body.isEvac = false then 192 else 0
    exec .txAttempt s = .next
      { s with
        bus :=
          { s.bus with
            queue := { head with attempted := true } :: rest
            attempt := some ⟨head.arrival, head.frame, false, false⟩
            idleMicros := max s.bus.idleMicros (delay * (if s.stc.straps.fast then 10 else 40)) } }) ∧
  (∀ s : State, s.bus.queue = [] ∨ s.bus.txQuiet = true ∨ s.stc.mode = .conflict ∨ s.bus.attempt.isSome = true →
    exec .txAttempt s = .next s) ∧
  (∀ s s' c c' : Nat, isStation s = true → isStation s' = true → s ≠ s' → c ≤ 3 → c' ≤ 3 →
    ∀ y y' : Bool, (c = 0 → y = false) → (c' = 0 → y' = false) →
      3 + 64 * c + s + (if y then 192 else 0) ≠ 3 + 64 * c' + s' + (if y' then 192 else 0))

/-- R171, R26, R36, R162, R170: an attempt succeeds; after a MARK the round emits and the reservation becomes the self
window. -/
def Obligations.AttemptSucceeds : Prop :=
  ∀ (a : Attempt) (s : State), Lawful s → s.bus.attempt = some a →
    let gone := fun e : QueueEntry => !a.superseded && e.arrival == a.arrival
    let bus :=
      { s.bus with
        attempt := none
        tfc := s.bus.tfc - 1
        yieldOwed := true
        assembly := match s.bus.assembly with
          | .complete chars stamp _ => .complete chars stamp true
          | other => other
        queue := s.bus.queue.filter fun e => !gone e }
    (a.frame.body.isMark = false → exec .txSuccess s = .next (bump .txGood { s with bus := bus })) ∧
    (a.frame.body.isMark = true → ∃ t, exec .txSuccess s = .next t ∧ t.bus = bus ∧
      (∀ k, t.count k = if k = .txGood ∨ k = .probeRounds then satInc (s.count k) else s.count k) ∧
      t.probe.round = .emitting ∧ t.probe.deadline = none ∧ t.probe.timer = s.probe.timer ∧ t.probe.started = false ∧
      t.probe.position = 0 ∧ t.probe.startsAt = some (s.timeBase + 2000#32) ∧ t.probe.lag = 0 ∧
      (∀ i : Fin 2, s.probe.slots[i] = .reserved s.number → t.probe.slots[i] = .opened
        { owner := s.number, opens := s.timeBase + 2000#32, closes := s.timeBase + 1542000#32, best := 0, peaks := []
          discard := false, latest := none, heard := [], lead := 0 }) ∧
      (∀ i : Fin 2, s.probe.slots[i] ≠ .reserved s.number → t.probe.slots[i] = s.probe.slots[i]) ∧
      t = { s with bus := t.bus, counters := t.counters, probe := t.probe })

/-- R171, R172, R30, R32, R168: an attempt fails; TFC at 64 or more enters TX_QUIET with an empty queue, each entry of it
counted in tx dropped, and a MARK past its deadline is removed and its round aborted. -/
def Obligations.AttemptFails : Prop :=
  ∀ (a : Attempt) (s : State), Lawful s → s.bus.attempt = some a → ∃ t, exec .txCollision s = .next t ∧
    t.bus.attempt = none ∧ t.bus.tfc = s.bus.tfc + 8 ∧ t.count .txCollision = satInc (s.count .txCollision) ∧
    t.bus.yieldOwed = s.bus.yieldOwed ∧ t.bus.assembly = s.bus.assembly ∧
    (let left := s.bus.queue.filter fun e => !(a.dropOnFailure && e.arrival == a.arrival)
     (t.count .txDropped).toNat =
       if 64 ≤ s.bus.tfc + 8 then min 65535 ((s.count .txDropped).toNat + left.length) else (s.count .txDropped).toNat) ∧
    t.count .probeAborts =
      (if a.dropOnFailure = true ∨
          64 ≤ s.bus.tfc + 8 ∧ (s.probe.round = .waking ∨ s.probe.round = .marking)
       then satInc (s.count .probeAborts) else s.count .probeAborts) ∧
    (∀ k : Counter, k ≠ .txCollision → k ≠ .txDropped → k ≠ .probeAborts → k ≠ .txQuietEntries →
      t.count k = s.count k) ∧
    (s.bus.tfc + 8 < 64 → a.dropOnFailure = false →
      t = bump .txCollision { s with bus := { s.bus with attempt := none, tfc := s.bus.tfc + 8 } }) ∧
    (s.bus.tfc + 8 < 64 → a.dropOnFailure = true →
      t.bus.queue = s.bus.queue.filter (fun e => !e.frame.body.isMark) ∧ t.probe.round = .idle ∧
      t.probe.timer = some 5000000 ∧ t.bus.txQuiet = false ∧
      t.count .probeAborts = satInc (s.count .probeAborts)) ∧
    (64 ≤ s.bus.tfc + 8 → t.bus.txQuiet = true ∧ t.bus.queue = [] ∧ t.bus.recovery = 0 ∧
      t.count .txQuietEntries = satInc (s.count .txQuietEntries) ∧
      (s.probe.round = .waking ∨ s.probe.round = .marking → t.probe.round = .idle ∧ t.probe.timer = some 5000000) ∧
      (s.probe.round = .idle ∨ s.probe.round = .emitting → t.probe = s.probe)) ∧
    t = { s with bus := t.bus, counters := t.counters, probe := t.probe }

/-! ### Probing -/

/-- R23, R24: the probe timer's expiry starts a round when the seven conditions hold, and is tried again after 1 s when one
fails. -/
def Obligations.ProbeTimerStartsRound : Prop :=
  ∀ (left : Nat) (s : State), s.probe.timer = some left →
    let conditions := s.stc.mode = .run ∧ s.emc.emergency = false ∧ s.bus.txQuiet = false ∧ s.probe.round = .idle ∧
      (∀ i : Fin 2, s.probe.slots[i].owner ≠ some s.number) ∧ (∃ i : Fin 2, s.probe.slots[i] = .free) ∧
      (∃ img, s.image = some img ∧
        s.channels[img.probeChannel].power ≠ .forcedOff ∧ s.channels[img.probeChannel].power ≠ .fault)
    (¬conditions →
      exec .probeTimerExpiry s = .next { s with probe := { s.probe with timer := some 1000000 } }) ∧
    (conditions → ∀ (img : Image) (i : Fin 2), s.image = some img → s.probe.slots[i] = .free →
      (∀ j : Fin 2, j < i → s.probe.slots[j] ≠ .free) →
      ∃ t, exec .probeTimerExpiry s = .next t ∧ t.probe.timer = none ∧
        t.probe.slots = s.probe.slots.set i (.reserved s.number) ∧
        (s.channels[img.probeChannel].power = .active ∨ s.channels[img.probeChannel].power = .watch →
          t.probe.round = .marking ∧ t.probe.deadline = some 50000 ∧ t.channels = s.channels ∧
          t.bus = (handFrame ⟨s.number, 63, .mark⟩ s).bus ∧ t.counters = (handFrame ⟨s.number, 63, .mark⟩ s).counters) ∧
        (s.channels[img.probeChannel].power = .waking → t.probe.round = .waking ∧ t.channels = s.channels) ∧
        (s.channels[img.probeChannel].power = .standby →
          (s.channels[img.probeChannel].ready = false →
            t.probe.round = .waking ∧ t.channels[img.probeChannel].power = .waking) ∧
          (s.channels[img.probeChannel].ready = true →
            t.probe.round = .marking ∧ t.channels[img.probeChannel].power.gateOpen = true)) ∧
        t.stc = s.stc ∧ t.peers = s.peers ∧ t.selfRec = s.selfRec ∧ t.solver = s.solver ∧ t.emc = s.emc)

/-- R27, R28, R30, R168: the MARK deadline passes, with the MARK waiting or under attempt; the emission begins with its
first sample, and its end starts the probe timer with interval + jitter. -/
def Obligations.RoundRunsOrAborts : Prop :=
  (∀ s : State, s.probe.round = .emitting →
    exec .emissionStart s = .next { s with probe := { s.probe with started := true } } ∧
    ∀ img, s.image = some img → exec .emissionEnd s = .next
      { s with
        probe :=
          { s.probe with
            round := .idle
            startsAt := none
            started := false
            lag := 0
            position := 0
            timer := some (img.probeInterval * 1000000 + s.stc.unit.toNat % 32 * 1000000) } }) ∧
  ∀ (left : Nat) (s : State), s.probe.deadline = some left →
    (∀ a, s.bus.attempt = some a → a.frame.body.isMark = true →
      exec .markDeadlineExpiry s = .next
        { s with
          probe := { s.probe with deadline := none }
          bus := { s.bus with attempt := some { a with dropOnFailure := true } } }) ∧
    ((∀ a, s.bus.attempt = some a → a.frame.body.isMark = false) → ∃ t, exec .markDeadlineExpiry s = .next t ∧
      t.probe.round = .idle ∧ t.probe.deadline = none ∧ t.probe.started = false ∧ t.probe.position = 0 ∧
      t.probe.startsAt = none ∧ t.probe.lag = 0 ∧ t.probe.timer = some 5000000 ∧
      (∀ i : Fin 2, (∃ o, s.probe.slots[i] = .reserved o) → t.probe.slots[i] = .free) ∧
      (∀ i : Fin 2, (∀ o, s.probe.slots[i] ≠ .reserved o) → t.probe.slots[i] = s.probe.slots[i]) ∧
      t.bus = { s.bus with queue := s.bus.queue.filter (fun e => !e.frame.body.isMark) } ∧
      (∀ k, t.count k = if k = .probeAborts then satInc (s.count k) else s.count k) ∧
      t = { s with probe := t.probe, bus := t.bus, counters := t.counters })

/-- R29, R37 to R39: the score of a window at a sample of the grid, formed from the microphone samples heard; which samples are
local maxima, and what interpolation makes of one; which of them are peaks, the largest within 24 samples on either side and the
earliest of equals, the sequence alone among them; and what a peak does to the window it is found in, once its samples have been
heard. Open are the scale between its limits and the interpolation of a maximum, less than a sample from its place; the
correlation of the sequence alone stands above all others (log 28, the model's choice); a command that names no peak of the
window is no event (log 2). -/
def Obligations.PeakUpdatesWindow : Prop :=
  (∀ (w : Window) (n : Nat),
    let heard := (w.heard.reverse.drop n).take 8192
    let sign := fun k : Nat => if Config.sequence w.owner k then (1 : Int) else -1
    let sum := (heard.zipIdx.map fun p => sign p.2 * p.1).sum
    let alone := ∃ m : Nat, 0 < m ∧ heard = (List.range 8192).map fun k => sign k * m
    let offset := w.lead + (125 * n + 3) / 6
    w.offsetOf n = offset ∧ (w.aloneAt n = true ↔ alone ∧ offset ≤ 1369333) ∧
    (alone → offset ≤ 1369333 → w.gridScore n = 255) ∧
    (¬alone → heard.length = 8192 → offset ≤ 1369333 →
      w.gridScore n = if sum ≤ 0 then 0 else min 255 (Config.scaled sum.toNat heard)) ∧
    (heard.length < 8192 ∨ 1369333 < offset → w.gridScore n = 0)) ∧
  (∀ (w : Window) (n : Nat),
    let stands := fun k : Nat => if w.aloneAt k then 256 else w.gridScore k
    let around := (List.range 49).map fun k => if n + k < 24 then 0 else w.gridScore (n + k - 24)
    (w.isMaximum n = true ↔
      0 < w.gridScore n ∧ (∀ k, k + 1 = n → stands k < stands n) ∧
      ∀ d < 24, stands (n + d + 1) ≠ stands n → (∀ e < d, stands (n + e + 1) = stands n) → stands (n + d + 1) < stands n) ∧
    (w.isMaximum n = false → w.scored n = ⟨w.offsetOf n, w.gridScore n⟩) ∧
    (w.isMaximum n = true → w.aloneAt n = true → w.scored n = ⟨w.offsetOf n, 255⟩) ∧
    (w.isMaximum n = true → w.aloneAt n = false →
      (w.scored n).score = max (w.gridScore n) (min 255 (Config.refinedScore around)) ∧
      (w.scored n).offset = min 1369333 (w.offsetOf n + max (-20) (min 20 (Config.refinedShift around))).toNat)) ∧
  (∀ (w : Window) (n : Nat),
    let stands := fun k : Nat => if w.aloneAt k then 256 else (w.scored k).score
    (w.isPeak n = true ↔ w.isMaximum n = true ∧ ∀ m, m ≠ n →
      (w.scored m).offset ≤ (w.scored n).offset + 500 → (w.scored n).offset ≤ (w.scored m).offset + 500 →
      (m < n → stands m < stands n) ∧ (n < m → stands m ≤ stands n)) ∧
    (w.aloneAt n = true → (∀ m, m ≠ n → n ≤ m + 25 → m ≤ n + 25 → w.aloneAt m = false) →
      w.isPeak n = true ∧ w.scored n = ⟨w.offsetOf n, 255⟩)) ∧
  ∀ (i : Fin 2) (offset : Nat) (score : Byte) (w : Window) (img : Image) (s : State),
    s.probe.slots[i] = .opened w → s.image = some img →
    let found := fun n : Nat => img.threshold ≤ score.toNat ∧ (∀ l, w.latest = some l → l + 500 < offset) ∧
      min 73920 (n + 8241) ≤ w.heard.length ∧ w.isPeak n = true ∧ w.scored n = ⟨offset, score.toNat⟩
    ((∀ n, ¬found n) → exec (.correlatorPeak i offset score) s = .next s) ∧
    ∀ n, found n → WindowLaw w →
    ∃ w', exec (.correlatorPeak i offset score) s = .next
        { s with probe := { s.probe with slots := s.probe.slots.set i (.opened w') } } ∧
      w'.best = max w.best score.toNat ∧
      (let kept := w.peaks.filter fun p => decide (w'.best ≤ p.score * 2)
       w'.peaks = if w'.best ≤ score.toNat * 2 ∧ kept.length < 8 then kept ++ [⟨offset, score.toNat⟩] else kept) ∧
      w' = { w with best := w'.best, peaks := w'.peaks, latest := some offset } ∧ WindowLaw w'

/-- R12, R40, R41, R42, R43, R16: a window closes; its slot becomes FREE and its result goes to the record of its owner, under
the law of the table the entry whose peer the owner is. That a miss no entry takes is counted in capture misses is log 32
(DEDUCED). -/
def Obligations.WindowCloses : Prop :=
  ∀ (i : Fin 2) (w : Window) (img : Image) (s : State), s.probe.slots[i] = .opened w → s.image = some img →
    let latency := (img.micLatency * 20833 + 500) / 1000
    let freed := { s with probe := { s.probe with slots := s.probe.slots.set i .free } }
    let gives := fun v : State => exec (.windowClose i) s = .next (finishEvent s v)
    let after := fun (c : FlightChange) (v : State) =>
      let v := if c.relocated then bump .relocations v else v
      if c.changed = true ∧ s.serving = true ∧ s.stc.kind = some .delay then
        { v with solver := { s.solver with settle := some (s.solver.settle.getD 200000) } }
      else v
    (TableLaw s → ∀ e : Fin 16, s.peers[e].peer = some w.owner → s.holder w.owner = some e) ∧
    ((∀ e : Fin 16, s.peers[e].peer ≠ some w.owner) → s.holder w.owner = none) ∧
    (w.discard = true → w.owner ≠ s.number → gives freed) ∧
    (w.discard = false ∨ w.owner = s.number →
      (w.best = 0 ∨ w.peaks = [] ∨ (∃ p rest, w.peaks = p :: rest ∧ p.offset ≤ latency) →
        (w.owner = s.number →
          gives (bump .captureMisses { freed with selfRec := takeMiss s.selfRec })) ∧
        (w.owner ≠ s.number → ∀ e : Fin 16, s.holder w.owner = some e →
          gives (bump .captureMisses
            { freed with peers := s.peers.set e { s.peers[e] with flights := takeMiss s.peers[e].flights } })) ∧
        (w.owner ≠ s.number → s.holder w.owner = none → gives (bump .captureMisses freed))) ∧
      (∀ p rest, w.best ≠ 0 → w.peaks = p :: rest → latency < p.offset →
        let taken := fun (temperature : Int) (f : FlightRecord) =>
          takeDetection (img.jumpLimit * 1000) (normalisedFlight (p.offset - latency) temperature) f
        (w.owner = s.number →
          gives (after (taken s.air.temperature s.selfRec)
            { freed with selfRec := (taken s.air.temperature s.selfRec).record })) ∧
        (w.owner ≠ s.number → s.holder w.owner = none → gives freed) ∧
        (w.owner ≠ s.number → ∀ e : Fin 16, s.holder w.owner = some e →
          let into := fun temperature : Int =>
            gives (after (taken temperature s.peers[e].flights)
              { freed with
                peers := s.peers.set e
                  { s.peers[e] with flights := (taken temperature s.peers[e].flights).record } })
          (∀ record t, s.peers[e].record = some record → record.temperature = some t →
            into ((t.toInt + s.air.temperature + 1) / 2)) ∧
          ((∀ record, s.peers[e].record = some record → record.temperature = none) → into s.air.temperature))))

/-- R42, R61: a flight is carried to 20.0 °C and back by the speeds of sound, rounded to the nearest µs, halves up; a window's
flight is the first of the two where that is not negative. -/
def Obligations.FlightsRoundedHalfUp : Prop :=
  (∀ (flight : Nat) (t : Int), 0 ≤ referenceFlight flight t →
    normalisedFlight flight t = (referenceFlight flight t).toNat) ∧
  ∀ (flight : Nat) (t n : Int), 0 < 3313000 + 606 * t →
    (referenceFlight flight t = n ↔
      (2 * n - 1) * 3434200 ≤ 2 * flight * (3313000 + 606 * t) ∧
      2 * flight * (3313000 + 606 * t) < (2 * n + 1) * 3434200) ∧
    (presentFlight flight t = n ↔
      (2 * n - 1) * (3313000 + 606 * t) ≤ 2 * flight * 3434200 ∧
      2 * flight * 3434200 < (2 * n + 1) * (3313000 + 606 * t))

/-! ### Peer Record Table and air data -/

/-- R13: the effective flight, by how many values the history holds. -/
def Obligations.EffectiveFlightByCount : Prop :=
  effectiveFlight [] = none ∧ (∀ a, effectiveFlight [a] = some a) ∧
  (∀ a b, effectiveFlight [a, b] = some ((a + b) / 2)) ∧
  ∀ a b c m, m ∈ [a, b, c] → (m ≤ a ∧ m ≤ b ∨ m ≤ a ∧ m ≤ c ∨ m ≤ b ∧ m ≤ c) →
    (a ≤ m ∧ b ≤ m ∨ a ≤ m ∧ c ≤ m ∨ b ≤ m ∧ c ≤ m) → effectiveFlight [a, b, c] = some m

/-- R14, R15, R16: what a detection and a miss do to the flight data of an entry or of the self record. -/
def Obligations.ResultTakenByRecord : Prop :=
  ∀ (limit r : Nat) (f : FlightRecord), f.bounded →
    let last3 := fun l : List Nat => (l ++ [r]).drop ((l ++ [r]).length - 3)
    (f.history = [] →
      takeDetection limit r f = ⟨{ f with history := [r], misses := 0, stale := false }, true, false⟩) ∧
    (∀ e, effectiveFlight f.history = some e → max r e - min r e ≤ limit →
      takeDetection limit r f =
        ⟨{ history := last3 f.history, suspects := [], misses := 0, stale := false }, true, false⟩) ∧
    (∀ e, effectiveFlight f.history = some e → limit < max r e - min r e →
      ((last3 f.suspects).length = 3 → (∀ x ∈ last3 f.suspects, ∀ y ∈ last3 f.suspects, x ≤ y + limit) →
        takeDetection limit r f =
          ⟨{ history := last3 f.suspects, suspects := [], misses := 0, stale := false }, true, true⟩) ∧
      ((last3 f.suspects).length < 3 ∨ (∃ x ∈ last3 f.suspects, ∃ y ∈ last3 f.suspects, y + limit < x) →
        takeDetection limit r f =
          ⟨{ f with suspects := last3 f.suspects, misses := 0, stale := false }, false, false⟩)) ∧
    takeMiss f = { f with misses := min 255 (f.misses + 1), stale := f.stale || f.misses + 1 == 4 }

/-- R8, R9, R10, R11, R47, R55: the one-second tick ages every FRESH and STALE entry, raises a trigger for those whose age
reaches a limit, marks the windows of a released station, and sends the sensor a request; and what the age of an entry reaching
its limit does. -/
def Obligations.EntriesAgeToTheirLimits : Prop :=
  (∀ (img : Image) (s : State), s.image = some img →
    let limited := ∃ (i : Fin 16) (a : Nat), s.peers[i].age = some a ∧
      (s.peers[i].state = .fresh ∧ a + 1 = img.staleLimit ∨
        s.peers[i].state = .stale ∧ a + 1 = img.lostLimit ∧ s.peers[i].binding ≠ .unused)
    let released := fun st : Nat => ∃ (i : Fin 16) (a lo hi : Nat), s.peers[i].age = some a ∧ a + 1 = img.lostLimit ∧
      s.peers[i].state = .stale ∧ s.peers[i].binding = .pool lo hi ∧ s.peers[i].peer = some st
    ∃ t, exec .secondTick s = .next (finishEvent s t) ∧
      (∀ i : Fin 16,
        (s.peers[i].state = .waiting ∨ s.peers[i].state = .lost → t.peers[i] = s.peers[i]) ∧
        (∀ a, s.peers[i].age = some a → s.peers[i].state = .fresh →
          t.peers[i] =
            { s.peers[i] with age := some (a + 1), state := if a + 1 = img.staleLimit then .stale else .fresh }) ∧
        (∀ a, s.peers[i].age = some a → s.peers[i].state = .stale → a + 1 ≠ img.lostLimit →
          t.peers[i] = { s.peers[i] with age := some (a + 1) }) ∧
        (∀ a st, s.peers[i].age = some a → s.peers[i].state = .stale → a + 1 = img.lostLimit →
          s.peers[i].binding = .single st →
          t.peers[i] =
            { s.peers[i] with state := .lost, record := none, unread := false, age := some img.lostLimit }) ∧
        (∀ a lo hi, s.peers[i].age = some a → s.peers[i].state = .stale → a + 1 = img.lostLimit →
          s.peers[i].binding = .pool lo hi → t.peers[i] = PeerEntry.blank (.pool lo hi) none)) ∧
      t.air =
        { s.air with
          request := if s.stc.mode = .announce ∨ s.serving = true then some 50000 else s.air.request } ∧
      (limited → s.serving = true → s.stc.kind = some .delay →
        t.solver = { s.solver with settle := some (s.solver.settle.getD 200000) }) ∧
      (¬limited ∨ s.serving = false ∨ s.stc.kind ≠ some .delay → t.solver = s.solver) ∧
      (∀ j : Fin 2,
        (∀ w, s.probe.slots[j] = .opened w →
          (released w.owner → t.probe.slots[j] = .opened { w with discard := true }) ∧
          (¬released w.owner → t.probe.slots[j] = .opened w)) ∧
        ((∀ w, s.probe.slots[j] ≠ .opened w) → t.probe.slots[j] = s.probe.slots[j])) ∧
      t =
        { s with
          peers := t.peers, air := t.air, solver := t.solver, probe := { s.probe with slots := t.probe.slots } }) ∧
  ∀ (i : Fin 16) (img : Image) (s : State), s.image = some img →
    let triggered := fun v : State =>
      { v with
        solver :=
          { v.solver with
            settle := if s.serving = true ∧ s.stc.kind = some .delay then some (s.solver.settle.getD 200000)
              else s.solver.settle } }
    let put := fun e : PeerEntry => { s with peers := s.peers.set i e }
    (s.peers[i].state = .fresh → exec (.entryStale i) s = .next (finishEvent s (triggered
      (put { s.peers[i] with state := .stale, age := some img.staleLimit })))) ∧
    (∀ st, s.peers[i].state = .stale → s.peers[i].binding = .single st →
      exec (.entryLost i) s = .next (finishEvent s (triggered
        (put { s.peers[i] with state := .lost, record := none, unread := false, age := some img.lostLimit })))) ∧
    (∀ lo hi st, s.peers[i].state = .stale → s.peers[i].binding = .pool lo hi → s.peers[i].peer = some st →
      ∃ slots : Vector Slot 2,
        exec (.poolRelease i) s = .next (finishEvent s (triggered
          { put
              { binding := .pool lo hi
                peer := none
                state := .waiting
                record := none
                unread := false
                age := none
                flights := { history := [], suspects := [], misses := 0, stale := false }
                lastMark := none } with
            probe := { s.probe with slots := slots } })) ∧
        ∀ j : Fin 2,
          (∀ w, s.probe.slots[j] = .opened w → w.owner = st → slots[j] = .opened { w with discard := true }) ∧
          ((∀ w, s.probe.slots[j] = .opened w → w.owner ≠ st) → slots[j] = s.probe.slots[j]))

/-- R47, R48, R49, R56, R91, R92, R93: a request is judged once, as a good reply or as a miss; a new humidity band looks the air
shelf up, whose cell changes with it alone (log 22), a new shelf makes a request at every channel, and the event ends with the
ALIGN that a changed flag asks for (R70). -/
def Obligations.SensorRequestJudged : Prop :=
  ∀ (left : Nat) (img : Image) (s : State), s.air.request = some left → s.image = some img →
    let good := fun r : SensorReply =>
      r.checkAgrees = true ∧ -300 ≤ r.temperature ∧ r.temperature ≤ 600 ∧ 0 ≤ r.humidity ∧ r.humidity ≤ 100
    let drift := fun t : Int => ∃ old, s.solver.lastTemperature = some old ∧ 5 ≤ (t - old).natAbs
    let settleAfter := fun t : Int => fun settle : Option Nat =>
      (t ≠ s.air.temperature → drift t → s.serving = true → s.stc.kind = some .delay →
        settle = some (s.solver.settle.getD 200000)) ∧
      (t = s.air.temperature ∨ ¬drift t ∨ s.serving = false ∨ s.stc.kind ≠ some .delay → settle = s.solver.settle)
    let band := fun h : Int => (if h < 30 then 0 else if h < 50 then 1 else if h < 70 then 2 else 3 : Nat)
    let frame := fun v : State =>
      v =
        { s with
          air := v.air, solver := { s.solver with settle := v.solver.settle }, eq := v.eq, channels := v.channels } ∧
      v.eq.pathBand = s.eq.pathBand ∧ ShelfFollowsBands img s v ∧ ∀ c : Fin 4, v.channels[c] = afterShelf img s v c
    (∀ r, good r → ∃ t, exec (.airReply r) s = .next (finishEvent s t) ∧
      t.air = { state := .valid, temperature := r.temperature, humidity := some r.humidity.toNat, misses := 0
                request := none } ∧
      (s.air.state = .lost → t.eq.humidityBand = some (band r.humidity)) ∧
      (s.air.state = .valid → s.air.humidity = some r.humidity.toNat → t.eq.humidityBand = s.eq.humidityBand) ∧
      (∀ b : Nat, s.air.state = .valid → s.air.humidity ≠ some r.humidity.toNat → s.eq.humidityBand = some b →
        t.eq.humidityBand =
          if (b = 0 ∨ 10 + 20 * (b : Int) - 2 ≤ r.humidity) ∧ (b = 3 ∨ r.humidity ≤ 30 + 20 * (b : Int) + 2) then some b
          else some (band r.humidity)) ∧
      settleAfter r.temperature t.solver.settle ∧ frame t) ∧
    (∀ miss, (miss = .airReplyTimeout ∨ ∃ r, ¬good r ∧ miss = .airReply r) → ∃ t, exec miss s = .next (finishEvent s t) ∧
      (min 255 (s.air.misses + 1) ≠ 10 ∨ s.air.state = .lost →
        t = { s with air := { s.air with request := none, misses := min 255 (s.air.misses + 1) } }) ∧
      (s.air.misses = 9 → s.air.state = .valid →
        t.air = { state := .lost, temperature := img.defaultTemp, humidity := none, misses := 10, request := none } ∧
        t.eq.humidityBand = some img.defaultBand ∧ settleAfter img.defaultTemp t.solver.settle) ∧
      frame t)

/-! ### Alignment Solver -/

/-- R60, R62, R63: which entry wins a pass, with what it gives. -/
def Obligations.LargestCandidateWins : Prop :=
  (∀ c : Candidate, c.value = c.sum.toNat) ∧
  ∀ s : State,
    (candidates s = [] ↔ winnerOf (candidates s) = none) ∧
    (∀ w, winnerOf (candidates s) = some w →
      w ∈ candidates s ∧ ∀ c ∈ candidates s, c.value < w.value ∨ c.value = w.value ∧ w.entry ≤ c.entry) ∧
    (∀ i : Fin 16, (∃ c ∈ candidates s, c.entry = i) ↔
      (s.peers[i].state = .fresh ∨ s.peers[i].state = .stale) ∧
      (∃ r, s.peers[i].record = some r ∧ r.solver ≠ .fallback ∧ r.rank.toNat ≤ 13) ∧
      s.peers[i].flights.history ≠ [] ∧ s.selfRec.history ≠ []) ∧
    (∀ c ∈ candidates s, ∃ r flight selfFlight, s.peers[c.entry].record = some r ∧
      effectiveFlight s.peers[c.entry].flights.history = some flight ∧
      effectiveFlight s.selfRec.history = some selfFlight ∧
      (let temperature := match r.temperature with
         | some t => (t.toInt + s.air.temperature + 1) / 2
         | none => s.air.temperature
       let now := presentFlight flight temperature
       c.sum = (r.delay.toNat : Int) + now - presentFlight selfFlight s.air.temperature + (s.solver.offset * 500 : Nat) ∧
       c.rank = r.rank.toNat + 1 ∧ c.path = (r.path.toNat : Int) + now))

/-- R57, R7, R59, R63 to R66, R75, R90, R92, R93: the settle timer's expiry runs one pass; frozen it computes only, else it is
applied, the path band, the air shelf and each channel's target and setting follow, by R78 and R79 in its power state, and the
event ends with the ALIGN of R70. That the shelf's cell changes with the shelf alone is log 22. -/
def Obligations.SolvePassRuns : Prop :=
  ∀ (left : Nat) (img : Image) (s : State), s.solver.settle = some left → s.image = some img →
    let winner := winnerOf (candidates s)
    let negative := (candidates s).countP fun c => decide (c.sum < 0)
    ∃ t, exec .settleExpiry s = .next (finishEvent s t) ∧ t.solver.settle = none ∧
      (∀ i : Fin 16, t.peers[i] = { s.peers[i] with unread := false }) ∧
      t.solver.computed = winner.map (fun w => min w.value 1340000) ∧
      t.solver.lastTemperature = some s.air.temperature ∧
      t.solver.lowClamps.toNat = min 65535 (s.solver.lowClamps.toNat + negative) ∧
      t.solver.offset = s.solver.offset ∧ t.solver.cueFreeze = s.solver.cueFreeze ∧
      t.solver.emergencyFreeze = s.solver.emergencyFreeze ∧ t.solver.seq = s.solver.seq ∧
      t.solver.handed = s.solver.handed ∧ t.solver.refresh = s.solver.refresh ∧
      (s.frozen = true → t.solver.state = s.solver.state ∧ t.solver.delay = s.solver.delay ∧
        t.solver.rank = s.solver.rank ∧ t.solver.path = s.solver.path ∧ t.solver.winner = s.solver.winner ∧
        t.solver.range = s.solver.range ∧ t.solver.hold = s.solver.hold ∧ t.channels = s.channels ∧ t.eq = s.eq) ∧
      (s.frozen = false → ∀ w, winner = some w →
        t.solver.state = .aligned ∧ t.solver.winner = some w.entry ∧ t.solver.rank = w.rank ∧
        (0 ≤ w.path → t.solver.path = min w.path.toNat 16777215) ∧
        t.solver.range = decide (1340000 < w.value) ∧
        (s.solver.state = .aligned →
          max (min w.value 1340000) s.solver.delay - min (min w.value 1340000) s.solver.delay < img.deadband →
          t.solver.delay = s.solver.delay) ∧
        (s.solver.state ≠ .aligned ∨
          img.deadband ≤ max (min w.value 1340000) s.solver.delay - min (min w.value 1340000) s.solver.delay →
          t.solver.delay = min w.value 1340000) ∧
        (s.solver.state = .aligned → t.solver.hold = s.solver.hold) ∧
        (s.solver.state ≠ .aligned → t.solver.hold = .stopped)) ∧
      (s.frozen = false → winner = none → t.solver.delay = s.solver.delay ∧ t.solver.rank = s.solver.rank ∧
        t.solver.path = s.solver.path ∧ t.channels = s.channels ∧
        (s.solver.state = .aligned → t.solver.state = .hold ∧ t.solver.winner = none ∧
          t.solver.hold = .running (img.holdLimit * 1000000)) ∧
        (s.solver.state ≠ .aligned → t.solver.state = s.solver.state ∧ t.solver.hold = s.solver.hold)) ∧
      BandFollowsPath s t ∧ t.eq.humidityBand = s.eq.humidityBand ∧ ShelfFollowsBands img s t ∧
      (∀ c : Fin 4, t.channels[c] = afterPass img s t c) ∧
      t = { s with peers := t.peers, solver := t.solver, eq := t.eq, channels := t.channels }

/-- R67, R70, R75, R90, R92, R93: the hold timer and the refresh timer run out; at the fall to FALLBACK the path band, the air
shelf and each channel's target and setting follow, by R78 and R79 in its power state, and the event ends with the ALIGN of
R70; the refresh timer's hands an ALIGN whose every field is spelled over the state. That the shelf's cell changes with the
shelf alone is log 22. -/
def Obligations.HoldAndRefreshExpire : Prop :=
  ∀ (img : Image) (s : State), s.image = some img →
    (∀ left, s.solver.hold = .running left → ∃ t, exec .holdTimerExpiry s = .next (finishEvent s t) ∧
      t.solver =
        { s.solver with
          state := .fallback
          delay := img.fallbackDelay
          rank := 15
          path := img.fallbackDelay
          range := false
          hold := .stopped } ∧
      BandFollowsPath s t ∧ t.eq.humidityBand = s.eq.humidityBand ∧ ShelfFollowsBands img s t ∧
      (∀ c : Fin 4, t.channels[c] = afterPass img s t c) ∧
      t = { s with solver := t.solver, eq := t.eq, channels := t.channels }) ∧
    (s.stc.mode = .run → s.solver.refresh.isSome = true → ∃ r : AlignRecord, AlignComposed s r ∧
      exec .refreshTimerExpiry s = .next
        { handFrame ⟨s.number, 63, .align r⟩ s with
          solver := { s.solver with seq := r.seq, handed := true, refresh := some (img.refresh * 1000000) } }) ∧
    (s.stc.mode ≠ .run → exec .refreshTimerExpiry s = .next s)

/-! ### Audio -/

/-- R75, R78 to R80: what a new target does to a channel, and what one slew step does. That SLEW_COMPLETE at a SETTLED channel
changes nothing is log 2, the model's choice. -/
def Obligations.TargetTakenAndSlewed : Prop :=
  (∀ (target : Nat) (ch : Channel),
    (target = ch.target → ch.takeTarget target = ch) ∧
    (target ≠ ch.target → (ch.power = .standby ∨ ch.power = .forcedOff ∨ ch.power = .fault) →
      ch.takeTarget target =
        { ch with target := target, applied := target * 4096, slew := .settled, jumps := satInc ch.jumps }) ∧
    (target ≠ ch.target → (ch.power = .active ∨ ch.power = .watch ∨ ch.power = .waking) →
      (ch.applied = target * 4096 → ch.takeTarget target = { ch with target := target, slew := .settled }) ∧
      (ch.applied < target * 4096 → ch.takeTarget target = { ch with target := target, slew := .up }) ∧
      (target * 4096 < ch.applied → ch.takeTarget target = { ch with target := target, slew := .down }))) ∧
  (∀ (c : Fin 4) (img : Image) (s : State), s.image = some img → ChannelDelayLaw s.channels[c] →
    let step := 16 / 2 ^ img.slewCode
    (s.channels[c].slew = .up → s.channels[c].target * 4096 ≤ s.channels[c].applied + step →
      exec (.slewComplete c) s = .next
        { s with
          channels := s.channels.set c
            { s.channels[c] with applied := s.channels[c].target * 4096, slew := .settled } }) ∧
    (s.channels[c].slew = .down → s.channels[c].applied ≤ s.channels[c].target * 4096 + step →
      exec (.slewComplete c) s = .next
        { s with
          channels := s.channels.set c
            { s.channels[c] with applied := s.channels[c].target * 4096, slew := .settled } }) ∧
    (s.channels[c].slew = .settled → exec (.slewComplete c) s = .next s)) ∧
  ∀ (step : Nat) (ch : Channel),
    (ch.slew = .settled → ch.slewOnce step = ch) ∧
    (ch.slew = .up → ch.applied + step < ch.target * 4096 →
      ch.slewOnce step = { ch with applied := ch.applied + step }) ∧
    (ch.slew = .down → ch.target * 4096 + step < ch.applied →
      ch.slewOnce step = { ch with applied := ch.applied - step })

/-- R95, R97, R98, R102, R121, R122: requests, the end of a crossfade, of a ramp and of the opening fade, and a lost
sample. That a setting taken at once leaves the stage memories as they are is log 36 (DEDUCED). -/
def Obligations.RunningEffectsEnd : Prop :=
  (∀ (c : Fin 4) (s : State),
    exec (.gateFadeEnd c) s = .next { s with channels := s.channels.set c { s.channels[c] with fade := none } } ∧
    (s.channels[c].power = .waking → s.channels[c].gainTarget ≠ .silence →
      exec (.lostSample c) s = .next { s with channels := s.channels.set c { s.channels[c] with wakeLoss := true } }) ∧
    (s.channels[c].power ≠ .waking ∨ s.channels[c].gainTarget = .silence → exec (.lostSample c) s = .next s)) ∧
  (∀ (w : Setting) (ch : Channel),
    (∀ a b k, ch.crossfade = .running a b k → ch.request w = { ch with waiting := some w }) ∧
    (ch.crossfade = .idle → w = ch.active → ch.request w = ch) ∧
    (ch.crossfade = .idle → w ≠ ch.active → (ch.power = .standby ∨ ch.power = .forcedOff ∨ ch.power = .fault) →
      ch.request w = { ch with active := w }) ∧
    (ch.crossfade = .idle → w ≠ ch.active → (ch.power = .active ∨ ch.power = .watch ∨ ch.power = .waking) →
      ch.request w = { ch with crossfade := .running ch.active w 0, nextStages := StageMemories.silent })) ∧
  ∀ (c : Fin 4) (s : State),
    let put := fun ch : Channel => { s with channels := s.channels.set c ch }
    (∀ a b k, s.channels[c].crossfade = .running a b k →
      let ended :=
        { s.channels[c] with
          active := b
          crossfade := .idle
          waiting := none
          stages := s.channels[c].nextStages
          nextStages := StageMemories.silent }
      (s.channels[c].waiting = none → exec (.crossfadeEnd c) s = .next (put ended)) ∧
      (∀ w, s.channels[c].waiting = some w → exec (.crossfadeEnd c) s = .next (put (ended.request w)))) ∧
    (∀ f k, s.channels[c].ramp = .running f k → exec (.rampEnd c) s = .next
      (put { s.channels[c] with factor := .of s.channels[c].gainTarget, ramp := .idle }))

/-- R73, R74, R80, R87, R88, R96, R98, R101, R102, R109, R121, R122, R28, R31, R37: one programme sample, in any mode. It is written
with its mark; each channel slews, reads at its applied delay and passes its chain in every power state, with its ramp and
crossfade one step on, the two copies weighted by (2,400 - k) and k in 2,400, the factor start + (target - start) x (k + 1) / 960
of amplitudes 10^(dB/20); only an open gate lets the chain's output through, faded in over 48 samples; the probe sample is added
after it; and the microphone's sample enters the open windows. The order of the parts is log 27 and the microphone's sample is
log 28, both the model's choices; the arithmetic of a stage, of the interpolation and of full scale is left open (logs 13, 15),
that no value is rounded is log 16, and the lag of a probe sample is held as log 29 says. -/
def Obligations.ProgrammeSampleTaken : Prop :=
  (∀ (f : Nat → Filter) (m : StageMemories) (x : Int),
    copyOutput f m x =
      filterOutput (f 5) (m.stage 5) (filterOutput (f 4) (m.stage 4) (filterOutput (f 3) (m.stage 3)
        (filterOutput (f 2) (m.stage 2) (filterOutput (f 1) (m.stage 1) (filterOutput (f 0) (m.stage 0) x))))) ∧
    ∀ k, f k = .pass → filterOutput (f k) (m.stage k) x = x) ∧
  (∀ (s : State) (img : Image) (c : Fin 4) (preset k : Nat) (shelf : Option Shelf), s.image = some img →
    settingFilter s c .flat k = .pass ∧
    (∀ stage, k < 5 → (img.channels[c].presets.getD preset [])[k]? = some stage →
      settingFilter s c (.eq preset shelf) k = if stage = .bypass then .pass else .static stage) ∧
    settingFilter s c (.eq preset shelf) 5 = (match shelf with
      | some sh => .shelf sh
      | none => .pass)) ∧
  (∀ (start : Factor) (target : GainTarget) (code num : Nat),
    (Factor.of .silence).amplitude = 0 ∧ (Factor.of (.gain 0)).amplitude = 0.0001 ∧ (Factor.of (.gain 160)).amplitude = 1 ∧
    (Factor.of (.gain code)).amplitude = (10 : ℝ) ^ (((code : ℝ) / 2 - 80) / 20) ∧
    (Factor.ramp start target num).amplitude =
      start.amplitude + ((Factor.of target).amplitude - start.amplitude) * ((num : ℝ) / 960)) ∧
  (∀ out : ProgrammeOut,
    out.value = (out.chain.eq : ℝ) / 2400 * out.chain.gain.amplitude * ((out.weight : ℝ) / 48)) ∧
  ∀ (x microphone : Int) (s : State), Lawful s →
    let limit := s.image.elim 60 (·.silenceLevel)
    let step := 16 / 2 ^ s.image.elim 2 (·.slewCode)
    let since := fun due : Instant =>
      if (s.timeBase - due).toNat < 2 ^ 31 then (s.timeBase - due).toNat else 0
    let lag := if s.probe.position = 0 then s.probe.startsAt.elim 0 since else s.probe.lag
    let emitting := s.probe.round = .emitting ∧ s.probe.started = true
    ∃ t, exec (.programmeSample ⟨x, microphone⟩) s = .next t ∧
      t.delay.writePos = (s.delay.writePos + 1) % 65536 ∧
      delaySample t s.delay.writePos = x ∧ presenceMark t s.delay.writePos = t.level.present ∧
      (∀ a, a ≠ s.delay.writePos →
        delaySample t a = delaySample s a ∧ presenceMark t a = presenceMark s a) ∧
      t.level.history = x :: s.level.history.take 478 ∧
      t.level.present = decide (Config.fullScale ^ 20 ≤
        (s.level.history.foldl (fun m y => max m y.natAbs) x.natAbs) ^ 20 * 10 ^ limit) ∧
      (∀ c : Fin 4,
        let old := s.channels[c]
        let ch := t.channels[c]
        let pos := (s.delay.writePos + 65536 - ch.applied / 4096) % 65536
        let stored := fun a : Nat => delaySample t (a % 65536)
        ch.target = old.target ∧ ch.gainTarget = old.gainTarget ∧ ch.jumps = old.jumps ∧
        (old.slew = .settled → ch.applied = old.applied ∧ ch.slew = .settled) ∧
        (old.slew = .up → ch.applied = min (old.applied + step) (old.target * 4096)) ∧
        (old.slew = .down → ch.applied = max (old.applied - step) (old.target * 4096)) ∧
        (ch.slew = .settled ↔ ch.applied = ch.target * 4096) ∧
        (old.ramp = .idle → ch.ramp = .idle ∧ ch.factor = old.factor) ∧
        (∀ start k, old.ramp = .running start k → k < 959 →
          ch.ramp = .running start (k + 1) ∧ ch.factor = .ramp start old.gainTarget (k + 1)) ∧
        (∀ start, old.ramp = .running start 959 → ch.ramp = .idle ∧ ch.factor = .of old.gainTarget) ∧
        (ch.applied % 4096 = 0 → ch.chain.read = stored pos) ∧
        (ch.applied % 4096 ≠ 0 → ch.chain.read = Config.interpolated
          ((List.range (min 128 (ch.applied / 4096 + 1))).map fun k => stored (pos + k))
          ((List.range 128).map fun k => stored (pos + 65535 - k)) (ch.applied % 4096)) ∧
        ch.chain.gain = ch.factor ∧
        (let fromOut := fun w : Setting => copyOutput (settingFilter s c w) old.stages ch.chain.read
         let toOut := fun w : Setting => copyOutput (settingFilter s c w) old.nextStages ch.chain.read
         let kept := fun w : Setting => copyMemories (settingFilter s c w) old.stages ch.chain.read
         let next := fun w : Setting => copyMemories (settingFilter s c w) old.nextStages ch.chain.read
         (old.crossfade = .idle →
           ch.chain.eq = 2400 * fromOut old.active ∧ ch.stages = kept old.active ∧ ch.active = old.active ∧
           ch.crossfade = .idle) ∧
         ∀ a b k, old.crossfade = .running a b k →
           ch.chain.eq = (2400 - k) * fromOut a + k * toOut b ∧
           (k < 2399 → ch.crossfade = .running a b (k + 1) ∧ ch.active = old.active ∧ ch.waiting = old.waiting ∧
             ch.stages = kept a ∧ ch.nextStages = next b) ∧
           (k = 2399 → ch.active = b ∧ ch.waiting = none ∧ ch.stages = next b ∧ ch.nextStages = StageMemories.silent ∧
             (old.waiting = none ∨ old.waiting = some b → ch.crossfade = .idle) ∧
             (∀ w, old.waiting = some w → w ≠ b → ch.crossfade = .running b w 0))) ∧
        (ch.power ≠ .active → ch.power ≠ .watch → ch.output.programme = none) ∧
        (old.power = .active ∨ old.power = .watch → (ch.power = .active ∨ ch.power = .watch) ∧
          (old.fade = none → ch.output.programme = some ⟨ch.chain, 48⟩ ∧ ch.fade = none) ∧
          (∀ k, old.fade = some k → ch.output.programme = some ⟨ch.chain, k + 1⟩ ∧
            ch.fade = if k < 47 then some (k + 1) else none)) ∧
        (old.power ≠ .active → old.power ≠ .watch → ch.power = .active ∨ ch.power = .watch →
          ch.output.programme = some ⟨ch.chain, 1⟩ ∧ ch.fade = some 1) ∧
        (ch.output.probe = if emitting ∧ s.probeChannel = some c then
            some ⟨s.number, s.probe.position, lag, s.image.elim 0 (·.probeLevel)⟩
          else none) ∧
        (ch.power = .waking → presenceMark t pos = true → ch.gainTarget ≠ .silence → ch.wakeLoss = true)) ∧
      (emitting → s.probe.position < 8191 →
        t.probe = { s.probe with position := s.probe.position + 1, lag := lag, slots := t.probe.slots }) ∧
      (emitting → s.probe.position = 8191 →
        t.probe.round = .idle ∧ t.probe.position = 0 ∧ t.probe.startsAt = none ∧ t.probe.started = false ∧
        t.probe.timer = some (s.image.elim 0 (·.probeInterval) * 1000000 + s.stc.unit.toNat % 32 * 1000000)) ∧
      (∀ i : Fin 2,
        (∀ w, s.probe.slots[i] = .opened w → t.probe.slots[i] = .opened
          (if (s.timeBase - w.opens).toNat < 2 ^ 31 ∧ 2 ^ 31 ≤ (s.timeBase - w.closes).toNat ∧ w.heard.length < 73920 then
            { w with
              heard := microphone :: w.heard
              lead := if w.heard = [] then (s.timeBase - w.opens).toNat else w.lead }
           else w)) ∧
        ((∀ w, s.probe.slots[i] ≠ .opened w) → t.probe.slots[i] = s.probe.slots[i])) ∧
      t.stc = s.stc ∧ t.image = s.image ∧ t.peers = s.peers ∧ t.selfRec = s.selfRec ∧ t.air = s.air ∧
      t.solver.delay = s.solver.delay ∧ t.eq = s.eq ∧ t.cue = s.cue ∧ t.emc = s.emc ∧ t.timeBase = s.timeBase ∧
      t.freeCount = s.freeCount

/-! ### Channel power -/

/-- R110, R112, R113: the programme judgement changes, and each channel acts on its effective silence. -/
def Obligations.JudgementChangeTaken : Prop :=
  ∀ (present : Bool) (s : State),
    (s.level.present = present → exec (.programmeJudgementChange present) s = .next s) ∧
    (s.level.present ≠ present → ∃ t, exec (.programmeJudgementChange present) s = .next t ∧
      t.level = { s.level with present := present } ∧
      (s.serving = false → t = { s with level := t.level }) ∧
      (s.serving = true → ∀ c : Fin 4,
        let silent := present = false ∨ s.channels[c].gainTarget = .silence
        (s.channels[c].power = .watch → ¬silent → t.channels[c].power = .active) ∧
        (s.channels[c].power = .watch → silent → t.channels[c] = s.channels[c]) ∧
        (s.channels[c].power = .active → silent → s.autoStandby c = true → s.emc.emergency = false →
          t.channels[c].power = .watch ∧ t.channels[c].silence = some (s.standbyDelay * 1000000)) ∧
        (s.channels[c].power = .active → (¬silent ∨ s.autoStandby c = false ∨ s.emc.emergency = true) →
          t.channels[c] = s.channels[c]) ∧
        (s.channels[c].power = .standby → ¬silent →
          t.channels[c].power = (if s.channels[c].ready then .active else .waking) ∧ t.channels[c].enable = true) ∧
        (s.channels[c].power = .standby → silent → t.channels[c] = s.channels[c]) ∧
        (s.channels[c].power = .waking ∨ s.channels[c].power = .forcedOff ∨ s.channels[c].power = .fault →
          t.channels[c] = s.channels[c])) ∧
      t.stc = s.stc ∧ t.image = s.image ∧ t.peers = s.peers ∧ t.selfRec = s.selfRec ∧ t.air = s.air ∧ t.delay = s.delay ∧
      t.solver = s.solver ∧ t.eq = s.eq ∧ t.cue = s.cue ∧ t.emc = s.emc)

/-- R111, R112, R114, R115, R122, R25, R26, R31: the silence and wake timers and the amplifier lines move a channel; the other
channels stay as they are, leaving WAKING with the wake-loss mark counts one wake loss, a probe round follows its probe
channel, and the event ends with the ALIGN of R70 where AMP_FAULT has changed (R123). A retry at a ready line goes through
WAKING to ACTIVE or WATCH (R114, R115). -/
def Obligations.AmplifierMovesChannel : Prop :=
  ∀ (c : Fin 4) (s : State), Lawful s →
    let moved := fun (i : Instr) (p : Power) (cause : Option FaultCause) (ready faultLine : Bool) =>
      ∃ t, exec i s = .next (finishEvent s t) ∧ t.channels[c].power = p ∧ t.channels[c].cause = cause ∧
        t.channels[c].enable = (p == .active || p == .watch || p == .waking) ∧
        t.channels[c].silence = (if p = .watch then some (s.standbyDelay * 1000000) else none) ∧
        t.channels[c].wake = (if p = .waking then some (s.wakeLimit c * 1000) else none) ∧
        t.channels[c].forcedOff = s.channels[c].forcedOff ∧ t.channels[c].ready = ready ∧
        t.channels[c].faultLine = faultLine ∧ t.channels[c].target = s.channels[c].target ∧
        t.channels[c].gainTarget = s.channels[c].gainTarget ∧ t.channels[c].preset = s.channels[c].preset ∧
        (p.sounding = false → t.channels[c].applied = s.channels[c].target * 4096 ∧ t.channels[c].slew = .settled ∧
          t.channels[c].crossfade = .idle ∧ t.channels[c].ramp = .idle) ∧
        t.count .wakeLosses =
          (if s.channels[c].power = .waking ∧ s.channels[c].wakeLoss = true ∧ p ≠ .waking then satInc (s.count .wakeLosses)
           else s.count .wakeLosses) ∧
        (∀ d : Fin 4, d ≠ c → t.channels[d] = s.channels[d]) ∧ RoundFollows c p s t ∧
        (t.probe = s.probe → t.bus = s.bus ∧ ∀ k : Counter, k ≠ .wakeLosses → t.count k = s.count k) ∧
        (s.probe.round ≠ .idle → t.probe.round = .idle → t.bus =
          { s.bus with
            queue := s.bus.queue.filter fun e => !e.frame.body.isMark
            attempt := s.bus.attempt.filter fun a => !a.frame.body.isMark }) ∧
        t = { s with channels := t.channels, probe := t.probe, bus := t.bus, counters := t.counters }
    let ch := s.channels[c]
    let silent := s.level.present = false ∨ ch.gainTarget = .silence
    let quietStart := s.serving = true ∧ s.autoStandby c = true ∧ silent ∧ s.emc.emergency = false
    (ch.power = .watch → silent →
      moved (.silenceTimerExpiry c) .standby none ch.ready ch.faultLine) ∧
    (ch.power = .waking → quietStart → moved (.readyAsserted c) .watch none true ch.faultLine) ∧
    (ch.power = .waking → ¬quietStart → moved (.readyAsserted c) .active none true ch.faultLine) ∧
    (ch.power ≠ .waking → exec (.readyAsserted c) s = .next { s with channels := s.channels.set c { ch with ready := true } }) ∧
    (ch.power = .active ∨ ch.power = .watch → ch.ready = true →
      moved (.readyLost c) .fault (some .readyLost) false ch.faultLine) ∧
    (ch.power = .active ∨ ch.power = .watch ∨ ch.power = .waking → ch.faultLine = false →
      moved (.faultLineAsserted c) .fault (some .line) ch.ready true) ∧
    (ch.power = .fault → ch.faultLine = true → ch.forcedOff = true → ¬(s.emc.emergency = true ∧ s.serving = true) →
      moved (.faultLineReleased c) .forcedOff none ch.ready false) ∧
    (ch.power = .fault → ch.faultLine = true → (ch.forcedOff = false ∨ s.emc.emergency = true ∧ s.serving = true) →
      (ch.ready = false → moved (.faultLineReleased c) .waking none false false) ∧
      (ch.ready = true → quietStart → moved (.faultLineReleased c) .watch none true false) ∧
      (ch.ready = true → ¬quietStart → moved (.faultLineReleased c) .active none true false)) ∧
    (ch.power = .waking → moved (.wakeTimerExpiry c) .fault (some .timeout) ch.ready ch.faultLine)

/-- R116, R117, R111, R112, R25, R31: SLEEP and WAKE at one channel, in each power state, with the line ready or not, and the
abort of the round whose probe channel is put to sleep. -/
def Obligations.SleepAndWakeAtChannel : Prop :=
  ∀ (c : Fin 4) (s : State),
    let ch := s.channels[c]
    let silent := s.level.present = false ∨ ch.gainTarget = .silence
    (sleepChannel c s).channels[c].forcedOff = true ∧
    (sleepChannel c s).channels[c].power = (if ch.power = .fault then .fault else .forcedOff) ∧
    (ch.power ≠ .fault → ch.power ≠ .forcedOff →
      (sleepChannel c s).channels[c].enable = false ∧ (sleepChannel c s).channels[c].silence = none ∧
      (sleepChannel c s).channels[c].wake = none ∧ RoundFollows c .forcedOff s (sleepChannel c s)) ∧
    (ch.power = .fault ∨ ch.power = .forcedOff →
      sleepChannel c s = { s with channels := s.channels.set c { ch with forcedOff := true } }) ∧
    (wakeChannel c s).channels[c].forcedOff = false ∧
    (ch.power = .active ∨ ch.power = .watch ∨ ch.power = .standby ∨ ch.power = .waking →
      wakeChannel c s = { s with channels := s.channels.set c { ch with forcedOff := false } }) ∧
    (ch.power = .fault → ch.faultLine = true →
      wakeChannel c s = { s with channels := s.channels.set c { ch with forcedOff := false } }) ∧
    (ch.ready = false → ch.power = .fault → ch.faultLine = false → (wakeChannel c s).channels[c].power = .waking) ∧
    (ch.ready = true → ch.power = .fault → ch.faultLine = false →
      (wakeChannel c s).channels[c].power =
        if s.serving = true ∧ s.autoStandby c = true ∧ silent ∧ s.emc.emergency = false then .watch else .active) ∧
    (ch.ready = false → ch.power = .forcedOff →
      (wakeChannel c s).channels[c].power =
        if s.autoStandby c = true ∧ (s.serving = false ∨ s.level.present = false ∨ ch.gainTarget = .silence)
        then .standby else .waking) ∧
    (ch.ready = true → ch.power = .forcedOff →
      (wakeChannel c s).channels[c].power =
        if s.autoStandby c = true ∧ (s.serving = false ∨ silent) then .standby else .active) ∧
    (∀ d : Fin 4, d ≠ c → (sleepChannel c s).channels[d] = s.channels[d] ∧ (wakeChannel c s).channels[d] = s.channels[d])

/-! ### Emergency contacts -/

/-- R125, R135, R136: a contact pin changes; its 20 ms span starts again, or stops when the pin returns to its debounced
level. While the own alarm stands, each expiry of the refresh timer hands one EVAC SET and starts it again. -/
def Obligations.PinsDebouncedAndEvacRefreshed : Prop :=
  (∀ (left : Nat) (s : State), s.emc.refresh = some left → s.ownAlarm = true →
    let u := { s with emc := { s.emc with refresh := some 1000000 } }
    (s.stc.mode ≠ .conflict → s.bus.txQuiet = false → isStation s.number = true →
      exec .evacRefreshExpiry s = .next (handFrame ⟨s.number, 63, .evac true⟩ u)) ∧
    (s.stc.mode = .conflict ∨ s.bus.txQuiet = true ∨ isStation s.number = false →
      exec .evacRefreshExpiry s = .next u)) ∧
  ∀ (level : Bool) (s : State),
    (level = s.emc.contactPin → exec (.contactPinChange .emergency level) s = .next s) ∧
    (level ≠ s.emc.contactPin → exec (.contactPinChange .emergency level) s = .next
      { s with
        emc :=
          { s.emc with
            contactPin := level
            contactSpan := if (level = s.stc.straps.activeHigh ↔ s.emc.contact = true) then none else some 20000 } }) ∧
    (level = s.emc.resetPin → exec (.contactPinChange .reset level) s = .next s) ∧
    (level ≠ s.emc.resetPin → exec (.contactPinChange .reset level) s = .next
      { s with
        emc :=
          { s.emc with
            resetPin := level
            resetSpan := if level = s.emc.resetContact then none else some 20000 } })

/-- R125 to R127, R131, R134 to R137, R70: the debounced contacts set and clear the own alarm, EMERGENCY follows it as it
follows an EVAC of another station, and an EVAC and the refresh timer go with each change of it, handed as any frame is; a
waiting ROLL is handed anew, and in RUN one ALIGN ends the event. That the ALIGN comes last is log 7, and that either of the
EVAC and the withdrawal of a MARK may come first is log 8, both the model's choices. -/
def Obligations.OwnAlarmFollowsContacts : Prop :=
  ∀ s : State, Lawful s →
    let latched := s.stc.straps.latched
    let follows := fun (i : Instr) (contact resetContact latch : Bool) (contactSpan resetSpan : Option Nat) =>
      ∃ t, exec i s = .next t ∧ t.emc.contact = contact ∧ t.emc.resetContact = resetContact ∧ t.emc.latch = latch ∧
        t.emc.contactSpan = contactSpan ∧ t.emc.resetSpan = resetSpan ∧ t.emc.sources = s.emc.sources ∧
        t.emc.contactPin = s.emc.contactPin ∧ t.emc.resetPin = s.emc.resetPin ∧
        t.ownAlarm = (if latched then latch else contact) ∧
        t.emc.emergency = (t.ownAlarm || !s.emc.sources.isEmpty) ∧
        (t.ownAlarm = s.ownAlarm → t.emc.refresh = s.emc.refresh ∧ t = { s with emc := t.emc }) ∧
        (s.ownAlarm = false → t.ownAlarm = true → t.emc.refresh = some 1000000) ∧
        (s.ownAlarm = true → t.ownAlarm = false → t.emc.refresh = none) ∧
        (t.ownAlarm ≠ s.ownAlarm →
          let sends := s.stc.mode ≠ .conflict ∧ s.bus.txQuiet = false ∧ isStation s.number = true
          let evac : Frame := ⟨s.number, 63, .evac t.ownAlarm⟩
          let cut := fun v : State =>
            { v with
              bus :=
                { v.bus with
                  queue := v.bus.queue.filter fun e => !e.frame.body.isMark
                  attempt := v.bus.attempt.filter fun a => !a.frame.body.isMark } }
          let send := fun (f : Frame) (v : State) => { v with bus := (handFrame f v).bus }
          (sends → s.bus.queue = [] → ∃ e ∈ t.bus.queue, e.frame = evac) ∧
          (sends → (∃ e ∈ (handFrame evac s).bus.queue, e.frame = evac) → ∃ e ∈ t.bus.queue, e.frame = evac) ∧
          ∃ handed rolled : State,
            (sends → handed = send evac (cut s) ∨ handed = cut (send evac s)) ∧ (¬sends → handed = s) ∧
            (rollWaits handed = true → s.stc.mode ≠ .loading → s.stc.mode ≠ .conflict → isStation s.number = true →
              ∃ roll : RollBody, rolled = send ⟨s.number, 63, .roll roll⟩ handed ∧ roll.unit = s.stc.unit ∧
                roll.contact = t.ownAlarm ∧ roll.faultFlag = decide (s.stc.mode = .configFault)) ∧
            (rollWaits handed = false ∨ s.stc.mode = .loading ∨ s.stc.mode = .conflict ∨ isStation s.number = false →
              rolled = handed) ∧
            (s.stc.mode ≠ .run → t.bus = rolled.bus) ∧
            (s.stc.mode = .run → ∃ r : AlignRecord, r.flags = alignFlags t ∧ r.flags.contact = t.ownAlarm ∧
              r.solver = t.solver.state ∧ t.bus = (handFrame ⟨s.number, 63, .align r⟩ rolled).bus)) ∧
        (let same := fun v : State => t.channels = v.channels ∧ t.cue = v.cue ∧ t.probe = v.probe ∧ t.eq = v.eq ∧
           t.solver = { v.solver with seq := t.solver.seq, handed := t.solver.handed, refresh := t.solver.refresh }
         (s.emc.emergency = true → t.emc.emergency = true → same s) ∧
         (s.emc.emergency = false → t.emc.emergency = false → same s) ∧
         (s.emc.emergency = false → t.emc.emergency = true →
           ∀ n v, isStation n = true → n ≠ s.number → exec (.evac n true) s = .next v → same v) ∧
         (s.emc.emergency = true → t.emc.emergency = false →
           ∀ n v, isStation n = true → n ≠ s.number →
             exec (.evac n false) { s with emc := { t.emc with sources := [n], emergency := true } } = .next v → same v)) ∧
        t.stc = s.stc ∧ t.image = s.image ∧ t.peers = s.peers ∧ t.selfRec = s.selfRec ∧ t.air = s.air ∧
        t.delay = s.delay ∧ t.level = s.level ∧ t.timeBase = s.timeBase ∧ t.pending = s.pending
    (∀ left, s.emc.contactSpan = some left → s.emc.contact = false →
      follows .debouncedContactAsserted true s.emc.resetContact (s.emc.latch || latched) none s.emc.resetSpan) ∧
    (∀ left, s.emc.contactSpan = some left → s.emc.contact = true →
      follows .debouncedContactReleased false s.emc.resetContact s.emc.latch none s.emc.resetSpan) ∧
    (∀ left, s.emc.resetSpan = some left → s.emc.resetContact = false →
      follows .resetContactAsserted s.emc.contact true (s.emc.latch && s.emc.contact) s.emc.contactSpan none) ∧
    (∀ left, s.emc.resetSpan = some left → s.emc.resetContact = true →
      follows .resetContactReleased s.emc.contact false s.emc.latch s.emc.contactSpan none)

/-! ### Every step keeps the laws -/

/-- R176, R180, R186, R82, R83, R118, R120: what the station mode fixes. -/
def Obligations.StepKeepsModeLaws : Prop :=
  ∀ s t : State, Lawful s → step s = .next t → StartLaw t ∧ HeldLaw t

/-- R4, R16: the two laws of the Peer Record Table. -/
def Obligations.StepKeepsTableLaw : Prop :=
  ∀ s t : State, Lawful s → step s = .next t → TableLaw t

/-- R34, R39: the law of the capture slots; R23 to R32: the law of the probe round. -/
def Obligations.StepKeepsProbeLaws : Prop :=
  ∀ s t : State, Lawful s → step s = .next t → SlotLaw t ∧ RoundLaw t

/-- R68, R71: the law of the solver's target and the law of the published rank. -/
def Obligations.StepKeepsSolverLaws : Prop :=
  ∀ s t : State, Lawful s → step s = .next t → TargetLaw t ∧ RankLaw t

/-- R75, R85, R89, R99, R102, R111, R112: the laws of the channels, and that WATCH is effective silence. In a sounding state the
applied delay moves by at most one slew step, at a programme sample or the last step of a slew, and not otherwise: a command
that may run several cue actions is left to its actions, one by one (R145), and whoever frames it is a row of its own. -/
def Obligations.StepKeepsChannelLaws : Prop :=
  (∀ s t : State, Lawful s → step s = .next t → DelayLaw t ∧ FormedLaw t ∧ EqLaw t ∧ PowerLaw t) ∧
  (∀ s t : State, Lawful s → WatchLaw s → step s = .next t → WatchLaw t) ∧
  (∀ (s t : State) (c : Fin 4), Lawful s → WatchLaw s → step s = .next t →
    s.channels[c].power.sounding = true → t.channels[c].power.sounding = true →
    (∀ src dst n ps burst rest, s.pending ≠ .cue src dst n ps burst :: rest) →
    (∀ burst rest, s.pending ≠ .waitTimerExpiry burst :: rest) → (∀ burst rest, s.pending ≠ .interFrameGap burst :: rest) →
    let slewStep := 16 / 2 ^ s.image.elim 2 (·.slewCode)
    t.channels[c].applied ≤ s.channels[c].applied + slewStep ∧ s.channels[c].applied ≤ t.channels[c].applied + slewStep ∧
    (t.channels[c].applied ≠ s.channels[c].applied →
      ∃ rest, s.pending = .slewComplete c :: rest ∨ ∃ x, s.pending = .programmeSample x :: rest)) ∧
  ∀ (s : State) (c : Fin 4), s.channels[c].power.sounding = true → (event takeAction s).channels[c].power.sounding = true →
    (event takeAction s).channels[c].applied = s.channels[c].applied

/-- R132: the second law of Emergency Control, with what its first law rests on, and the ranges of a list. -/
def Obligations.StepKeepsEmergencyLaws : Prop :=
  ∀ s t : State, Lawful s → step s = .next t → AlarmLaw t ∧ CalmLaw t ∧ ListLaw t

/-- R165, R167, R173, R174: the law of the transmit queue, the law of fault confinement and the law of silence. -/
def Obligations.StepKeepsLineLaws : Prop :=
  ∀ s t : State, Lawful s → step s = .next t → QueueLaw t ∧ LineLaw t

/-- R72, R108, R140: the addressed buffers keep their canonical form. -/
def Obligations.StepKeepsMemoryLaw : Prop :=
  ∀ s t : State, Lawful s → step s = .next t → MemoryLaw t

/-- R134: while the station remains in RUN and in EMERGENCY its zone target delay does not change, and no round, list or
window runs. -/
def Obligations.EmergencyHoldsTarget : Prop :=
  ∀ s t : State, Lawful s → step s = .next t → s.stc.mode = .run → t.stc.mode = .run → s.emc.emergency = true →
    t.emc.emergency = true →
    t.solver.delay = s.solver.delay ∧ t.probe.round = .idle ∧ t.cue.list = .idle ∧
      (∀ i : Fin 2, t.probe.slots[i] = .free) ∧
      (∀ c : Fin 4, s.channels[c].output.probe = none → t.channels[c].output.probe = none)
end

