-- ==== Sys2Proof/Laws/State.lean ====
section
/-! SUPPORT. What each update of State does to each field, true by rfl, so that no later proof unfolds a record update. -/

namespace Sys2Proof.Machine.State

variable (s : State)

@[simp] theorem modStc_stc (f : Startup → Startup) : (s.modStc f).stc = f s.stc := rfl
@[simp] theorem modStc_image (f : Startup → Startup) : (s.modStc f).image = s.image := rfl
@[simp] theorem modStc_bus (f : Startup → Startup) : (s.modStc f).bus = s.bus := rfl
@[simp] theorem modStc_peers (f : Startup → Startup) : (s.modStc f).peers = s.peers := rfl
@[simp] theorem modStc_selfRec (f : Startup → Startup) : (s.modStc f).selfRec = s.selfRec := rfl
@[simp] theorem modStc_probe (f : Startup → Startup) : (s.modStc f).probe = s.probe := rfl
@[simp] theorem modStc_air (f : Startup → Startup) : (s.modStc f).air = s.air := rfl
@[simp] theorem modStc_solver (f : Startup → Startup) : (s.modStc f).solver = s.solver := rfl
@[simp] theorem modStc_delay (f : Startup → Startup) : (s.modStc f).delay = s.delay := rfl
@[simp] theorem modStc_level (f : Startup → Startup) : (s.modStc f).level = s.level := rfl
@[simp] theorem modStc_eq (f : Startup → Startup) : (s.modStc f).eq = s.eq := rfl
@[simp] theorem modStc_channels (f : Startup → Startup) : (s.modStc f).channels = s.channels := rfl
@[simp] theorem modStc_cue (f : Startup → Startup) : (s.modStc f).cue = s.cue := rfl
@[simp] theorem modStc_emc (f : Startup → Startup) : (s.modStc f).emc = s.emc := rfl
@[simp] theorem modStc_counters (f : Startup → Startup) : (s.modStc f).counters = s.counters := rfl
@[simp] theorem modStc_timeBase (f : Startup → Startup) : (s.modStc f).timeBase = s.timeBase := rfl
@[simp] theorem modStc_freeCount (f : Startup → Startup) : (s.modStc f).freeCount = s.freeCount := rfl
@[simp] theorem modStc_pending (f : Startup → Startup) : (s.modStc f).pending = s.pending := rfl

@[simp] theorem setImage_stc (i : Option Image) : (s.setImage i).stc = s.stc := rfl
@[simp] theorem setImage_image (i : Option Image) : (s.setImage i).image = i := rfl
@[simp] theorem setImage_bus (i : Option Image) : (s.setImage i).bus = s.bus := rfl
@[simp] theorem setImage_peers (i : Option Image) : (s.setImage i).peers = s.peers := rfl
@[simp] theorem setImage_selfRec (i : Option Image) : (s.setImage i).selfRec = s.selfRec := rfl
@[simp] theorem setImage_probe (i : Option Image) : (s.setImage i).probe = s.probe := rfl
@[simp] theorem setImage_air (i : Option Image) : (s.setImage i).air = s.air := rfl
@[simp] theorem setImage_solver (i : Option Image) : (s.setImage i).solver = s.solver := rfl
@[simp] theorem setImage_delay (i : Option Image) : (s.setImage i).delay = s.delay := rfl
@[simp] theorem setImage_level (i : Option Image) : (s.setImage i).level = s.level := rfl
@[simp] theorem setImage_eq (i : Option Image) : (s.setImage i).eq = s.eq := rfl
@[simp] theorem setImage_channels (i : Option Image) : (s.setImage i).channels = s.channels := rfl
@[simp] theorem setImage_cue (i : Option Image) : (s.setImage i).cue = s.cue := rfl
@[simp] theorem setImage_emc (i : Option Image) : (s.setImage i).emc = s.emc := rfl
@[simp] theorem setImage_counters (i : Option Image) : (s.setImage i).counters = s.counters := rfl
@[simp] theorem setImage_timeBase (i : Option Image) : (s.setImage i).timeBase = s.timeBase := rfl
@[simp] theorem setImage_freeCount (i : Option Image) : (s.setImage i).freeCount = s.freeCount := rfl
@[simp] theorem setImage_pending (i : Option Image) : (s.setImage i).pending = s.pending := rfl

@[simp] theorem modBus_stc (f : Bus → Bus) : (s.modBus f).stc = s.stc := rfl
@[simp] theorem modBus_image (f : Bus → Bus) : (s.modBus f).image = s.image := rfl
@[simp] theorem modBus_bus (f : Bus → Bus) : (s.modBus f).bus = f s.bus := rfl
@[simp] theorem modBus_peers (f : Bus → Bus) : (s.modBus f).peers = s.peers := rfl
@[simp] theorem modBus_selfRec (f : Bus → Bus) : (s.modBus f).selfRec = s.selfRec := rfl
@[simp] theorem modBus_probe (f : Bus → Bus) : (s.modBus f).probe = s.probe := rfl
@[simp] theorem modBus_air (f : Bus → Bus) : (s.modBus f).air = s.air := rfl
@[simp] theorem modBus_solver (f : Bus → Bus) : (s.modBus f).solver = s.solver := rfl
@[simp] theorem modBus_delay (f : Bus → Bus) : (s.modBus f).delay = s.delay := rfl
@[simp] theorem modBus_level (f : Bus → Bus) : (s.modBus f).level = s.level := rfl
@[simp] theorem modBus_eq (f : Bus → Bus) : (s.modBus f).eq = s.eq := rfl
@[simp] theorem modBus_channels (f : Bus → Bus) : (s.modBus f).channels = s.channels := rfl
@[simp] theorem modBus_cue (f : Bus → Bus) : (s.modBus f).cue = s.cue := rfl
@[simp] theorem modBus_emc (f : Bus → Bus) : (s.modBus f).emc = s.emc := rfl
@[simp] theorem modBus_counters (f : Bus → Bus) : (s.modBus f).counters = s.counters := rfl
@[simp] theorem modBus_timeBase (f : Bus → Bus) : (s.modBus f).timeBase = s.timeBase := rfl
@[simp] theorem modBus_freeCount (f : Bus → Bus) : (s.modBus f).freeCount = s.freeCount := rfl
@[simp] theorem modBus_pending (f : Bus → Bus) : (s.modBus f).pending = s.pending := rfl

@[simp] theorem setPeers_stc (v : Vector PeerEntry 16) : (s.setPeers v).stc = s.stc := rfl
@[simp] theorem setPeers_image (v : Vector PeerEntry 16) : (s.setPeers v).image = s.image := rfl
@[simp] theorem setPeers_bus (v : Vector PeerEntry 16) : (s.setPeers v).bus = s.bus := rfl
@[simp] theorem setPeers_peers (v : Vector PeerEntry 16) : (s.setPeers v).peers = v := rfl
@[simp] theorem setPeers_selfRec (v : Vector PeerEntry 16) : (s.setPeers v).selfRec = s.selfRec := rfl
@[simp] theorem setPeers_probe (v : Vector PeerEntry 16) : (s.setPeers v).probe = s.probe := rfl
@[simp] theorem setPeers_air (v : Vector PeerEntry 16) : (s.setPeers v).air = s.air := rfl
@[simp] theorem setPeers_solver (v : Vector PeerEntry 16) : (s.setPeers v).solver = s.solver := rfl
@[simp] theorem setPeers_delay (v : Vector PeerEntry 16) : (s.setPeers v).delay = s.delay := rfl
@[simp] theorem setPeers_level (v : Vector PeerEntry 16) : (s.setPeers v).level = s.level := rfl
@[simp] theorem setPeers_eq (v : Vector PeerEntry 16) : (s.setPeers v).eq = s.eq := rfl
@[simp] theorem setPeers_channels (v : Vector PeerEntry 16) : (s.setPeers v).channels = s.channels := rfl
@[simp] theorem setPeers_cue (v : Vector PeerEntry 16) : (s.setPeers v).cue = s.cue := rfl
@[simp] theorem setPeers_emc (v : Vector PeerEntry 16) : (s.setPeers v).emc = s.emc := rfl
@[simp] theorem setPeers_counters (v : Vector PeerEntry 16) : (s.setPeers v).counters = s.counters := rfl
@[simp] theorem setPeers_timeBase (v : Vector PeerEntry 16) : (s.setPeers v).timeBase = s.timeBase := rfl
@[simp] theorem setPeers_freeCount (v : Vector PeerEntry 16) : (s.setPeers v).freeCount = s.freeCount := rfl
@[simp] theorem setPeers_pending (v : Vector PeerEntry 16) : (s.setPeers v).pending = s.pending := rfl

@[simp] theorem modPeer_stc (i : Fin 16) (f : PeerEntry → PeerEntry) : (s.modPeer i f).stc = s.stc := rfl
@[simp] theorem modPeer_image (i : Fin 16) (f : PeerEntry → PeerEntry) : (s.modPeer i f).image = s.image := rfl
@[simp] theorem modPeer_bus (i : Fin 16) (f : PeerEntry → PeerEntry) : (s.modPeer i f).bus = s.bus := rfl
@[simp] theorem modPeer_peers (i : Fin 16) (f : PeerEntry → PeerEntry) : (s.modPeer i f).peers = s.peers.set i (f s.peers[i]) := rfl
@[simp] theorem modPeer_selfRec (i : Fin 16) (f : PeerEntry → PeerEntry) : (s.modPeer i f).selfRec = s.selfRec := rfl
@[simp] theorem modPeer_probe (i : Fin 16) (f : PeerEntry → PeerEntry) : (s.modPeer i f).probe = s.probe := rfl
@[simp] theorem modPeer_air (i : Fin 16) (f : PeerEntry → PeerEntry) : (s.modPeer i f).air = s.air := rfl
@[simp] theorem modPeer_solver (i : Fin 16) (f : PeerEntry → PeerEntry) : (s.modPeer i f).solver = s.solver := rfl
@[simp] theorem modPeer_delay (i : Fin 16) (f : PeerEntry → PeerEntry) : (s.modPeer i f).delay = s.delay := rfl
@[simp] theorem modPeer_level (i : Fin 16) (f : PeerEntry → PeerEntry) : (s.modPeer i f).level = s.level := rfl
@[simp] theorem modPeer_eq (i : Fin 16) (f : PeerEntry → PeerEntry) : (s.modPeer i f).eq = s.eq := rfl
@[simp] theorem modPeer_channels (i : Fin 16) (f : PeerEntry → PeerEntry) : (s.modPeer i f).channels = s.channels := rfl
@[simp] theorem modPeer_cue (i : Fin 16) (f : PeerEntry → PeerEntry) : (s.modPeer i f).cue = s.cue := rfl
@[simp] theorem modPeer_emc (i : Fin 16) (f : PeerEntry → PeerEntry) : (s.modPeer i f).emc = s.emc := rfl
@[simp] theorem modPeer_counters (i : Fin 16) (f : PeerEntry → PeerEntry) : (s.modPeer i f).counters = s.counters := rfl
@[simp] theorem modPeer_timeBase (i : Fin 16) (f : PeerEntry → PeerEntry) : (s.modPeer i f).timeBase = s.timeBase := rfl
@[simp] theorem modPeer_freeCount (i : Fin 16) (f : PeerEntry → PeerEntry) : (s.modPeer i f).freeCount = s.freeCount := rfl
@[simp] theorem modPeer_pending (i : Fin 16) (f : PeerEntry → PeerEntry) : (s.modPeer i f).pending = s.pending := rfl

@[simp] theorem modSelf_stc (f : FlightRecord → FlightRecord) : (s.modSelf f).stc = s.stc := rfl
@[simp] theorem modSelf_image (f : FlightRecord → FlightRecord) : (s.modSelf f).image = s.image := rfl
@[simp] theorem modSelf_bus (f : FlightRecord → FlightRecord) : (s.modSelf f).bus = s.bus := rfl
@[simp] theorem modSelf_peers (f : FlightRecord → FlightRecord) : (s.modSelf f).peers = s.peers := rfl
@[simp] theorem modSelf_selfRec (f : FlightRecord → FlightRecord) : (s.modSelf f).selfRec = f s.selfRec := rfl
@[simp] theorem modSelf_probe (f : FlightRecord → FlightRecord) : (s.modSelf f).probe = s.probe := rfl
@[simp] theorem modSelf_air (f : FlightRecord → FlightRecord) : (s.modSelf f).air = s.air := rfl
@[simp] theorem modSelf_solver (f : FlightRecord → FlightRecord) : (s.modSelf f).solver = s.solver := rfl
@[simp] theorem modSelf_delay (f : FlightRecord → FlightRecord) : (s.modSelf f).delay = s.delay := rfl
@[simp] theorem modSelf_level (f : FlightRecord → FlightRecord) : (s.modSelf f).level = s.level := rfl
@[simp] theorem modSelf_eq (f : FlightRecord → FlightRecord) : (s.modSelf f).eq = s.eq := rfl
@[simp] theorem modSelf_channels (f : FlightRecord → FlightRecord) : (s.modSelf f).channels = s.channels := rfl
@[simp] theorem modSelf_cue (f : FlightRecord → FlightRecord) : (s.modSelf f).cue = s.cue := rfl
@[simp] theorem modSelf_emc (f : FlightRecord → FlightRecord) : (s.modSelf f).emc = s.emc := rfl
@[simp] theorem modSelf_counters (f : FlightRecord → FlightRecord) : (s.modSelf f).counters = s.counters := rfl
@[simp] theorem modSelf_timeBase (f : FlightRecord → FlightRecord) : (s.modSelf f).timeBase = s.timeBase := rfl
@[simp] theorem modSelf_freeCount (f : FlightRecord → FlightRecord) : (s.modSelf f).freeCount = s.freeCount := rfl
@[simp] theorem modSelf_pending (f : FlightRecord → FlightRecord) : (s.modSelf f).pending = s.pending := rfl

@[simp] theorem modProbe_stc (f : ProbeUnit → ProbeUnit) : (s.modProbe f).stc = s.stc := rfl
@[simp] theorem modProbe_image (f : ProbeUnit → ProbeUnit) : (s.modProbe f).image = s.image := rfl
@[simp] theorem modProbe_bus (f : ProbeUnit → ProbeUnit) : (s.modProbe f).bus = s.bus := rfl
@[simp] theorem modProbe_peers (f : ProbeUnit → ProbeUnit) : (s.modProbe f).peers = s.peers := rfl
@[simp] theorem modProbe_selfRec (f : ProbeUnit → ProbeUnit) : (s.modProbe f).selfRec = s.selfRec := rfl
@[simp] theorem modProbe_probe (f : ProbeUnit → ProbeUnit) : (s.modProbe f).probe = f s.probe := rfl
@[simp] theorem modProbe_air (f : ProbeUnit → ProbeUnit) : (s.modProbe f).air = s.air := rfl
@[simp] theorem modProbe_solver (f : ProbeUnit → ProbeUnit) : (s.modProbe f).solver = s.solver := rfl
@[simp] theorem modProbe_delay (f : ProbeUnit → ProbeUnit) : (s.modProbe f).delay = s.delay := rfl
@[simp] theorem modProbe_level (f : ProbeUnit → ProbeUnit) : (s.modProbe f).level = s.level := rfl
@[simp] theorem modProbe_eq (f : ProbeUnit → ProbeUnit) : (s.modProbe f).eq = s.eq := rfl
@[simp] theorem modProbe_channels (f : ProbeUnit → ProbeUnit) : (s.modProbe f).channels = s.channels := rfl
@[simp] theorem modProbe_cue (f : ProbeUnit → ProbeUnit) : (s.modProbe f).cue = s.cue := rfl
@[simp] theorem modProbe_emc (f : ProbeUnit → ProbeUnit) : (s.modProbe f).emc = s.emc := rfl
@[simp] theorem modProbe_counters (f : ProbeUnit → ProbeUnit) : (s.modProbe f).counters = s.counters := rfl
@[simp] theorem modProbe_timeBase (f : ProbeUnit → ProbeUnit) : (s.modProbe f).timeBase = s.timeBase := rfl
@[simp] theorem modProbe_freeCount (f : ProbeUnit → ProbeUnit) : (s.modProbe f).freeCount = s.freeCount := rfl
@[simp] theorem modProbe_pending (f : ProbeUnit → ProbeUnit) : (s.modProbe f).pending = s.pending := rfl

@[simp] theorem modAir_stc (f : Air → Air) : (s.modAir f).stc = s.stc := rfl
@[simp] theorem modAir_image (f : Air → Air) : (s.modAir f).image = s.image := rfl
@[simp] theorem modAir_bus (f : Air → Air) : (s.modAir f).bus = s.bus := rfl
@[simp] theorem modAir_peers (f : Air → Air) : (s.modAir f).peers = s.peers := rfl
@[simp] theorem modAir_selfRec (f : Air → Air) : (s.modAir f).selfRec = s.selfRec := rfl
@[simp] theorem modAir_probe (f : Air → Air) : (s.modAir f).probe = s.probe := rfl
@[simp] theorem modAir_air (f : Air → Air) : (s.modAir f).air = f s.air := rfl
@[simp] theorem modAir_solver (f : Air → Air) : (s.modAir f).solver = s.solver := rfl
@[simp] theorem modAir_delay (f : Air → Air) : (s.modAir f).delay = s.delay := rfl
@[simp] theorem modAir_level (f : Air → Air) : (s.modAir f).level = s.level := rfl
@[simp] theorem modAir_eq (f : Air → Air) : (s.modAir f).eq = s.eq := rfl
@[simp] theorem modAir_channels (f : Air → Air) : (s.modAir f).channels = s.channels := rfl
@[simp] theorem modAir_cue (f : Air → Air) : (s.modAir f).cue = s.cue := rfl
@[simp] theorem modAir_emc (f : Air → Air) : (s.modAir f).emc = s.emc := rfl
@[simp] theorem modAir_counters (f : Air → Air) : (s.modAir f).counters = s.counters := rfl
@[simp] theorem modAir_timeBase (f : Air → Air) : (s.modAir f).timeBase = s.timeBase := rfl
@[simp] theorem modAir_freeCount (f : Air → Air) : (s.modAir f).freeCount = s.freeCount := rfl
@[simp] theorem modAir_pending (f : Air → Air) : (s.modAir f).pending = s.pending := rfl

@[simp] theorem modSolver_stc (f : Solver → Solver) : (s.modSolver f).stc = s.stc := rfl
@[simp] theorem modSolver_image (f : Solver → Solver) : (s.modSolver f).image = s.image := rfl
@[simp] theorem modSolver_bus (f : Solver → Solver) : (s.modSolver f).bus = s.bus := rfl
@[simp] theorem modSolver_peers (f : Solver → Solver) : (s.modSolver f).peers = s.peers := rfl
@[simp] theorem modSolver_selfRec (f : Solver → Solver) : (s.modSolver f).selfRec = s.selfRec := rfl
@[simp] theorem modSolver_probe (f : Solver → Solver) : (s.modSolver f).probe = s.probe := rfl
@[simp] theorem modSolver_air (f : Solver → Solver) : (s.modSolver f).air = s.air := rfl
@[simp] theorem modSolver_solver (f : Solver → Solver) : (s.modSolver f).solver = f s.solver := rfl
@[simp] theorem modSolver_delay (f : Solver → Solver) : (s.modSolver f).delay = s.delay := rfl
@[simp] theorem modSolver_level (f : Solver → Solver) : (s.modSolver f).level = s.level := rfl
@[simp] theorem modSolver_eq (f : Solver → Solver) : (s.modSolver f).eq = s.eq := rfl
@[simp] theorem modSolver_channels (f : Solver → Solver) : (s.modSolver f).channels = s.channels := rfl
@[simp] theorem modSolver_cue (f : Solver → Solver) : (s.modSolver f).cue = s.cue := rfl
@[simp] theorem modSolver_emc (f : Solver → Solver) : (s.modSolver f).emc = s.emc := rfl
@[simp] theorem modSolver_counters (f : Solver → Solver) : (s.modSolver f).counters = s.counters := rfl
@[simp] theorem modSolver_timeBase (f : Solver → Solver) : (s.modSolver f).timeBase = s.timeBase := rfl
@[simp] theorem modSolver_freeCount (f : Solver → Solver) : (s.modSolver f).freeCount = s.freeCount := rfl
@[simp] theorem modSolver_pending (f : Solver → Solver) : (s.modSolver f).pending = s.pending := rfl

@[simp] theorem modDelay_stc (f : DelayEngine → DelayEngine) : (s.modDelay f).stc = s.stc := rfl
@[simp] theorem modDelay_image (f : DelayEngine → DelayEngine) : (s.modDelay f).image = s.image := rfl
@[simp] theorem modDelay_bus (f : DelayEngine → DelayEngine) : (s.modDelay f).bus = s.bus := rfl
@[simp] theorem modDelay_peers (f : DelayEngine → DelayEngine) : (s.modDelay f).peers = s.peers := rfl
@[simp] theorem modDelay_selfRec (f : DelayEngine → DelayEngine) : (s.modDelay f).selfRec = s.selfRec := rfl
@[simp] theorem modDelay_probe (f : DelayEngine → DelayEngine) : (s.modDelay f).probe = s.probe := rfl
@[simp] theorem modDelay_air (f : DelayEngine → DelayEngine) : (s.modDelay f).air = s.air := rfl
@[simp] theorem modDelay_solver (f : DelayEngine → DelayEngine) : (s.modDelay f).solver = s.solver := rfl
@[simp] theorem modDelay_delay (f : DelayEngine → DelayEngine) : (s.modDelay f).delay = f s.delay := rfl
@[simp] theorem modDelay_level (f : DelayEngine → DelayEngine) : (s.modDelay f).level = s.level := rfl
@[simp] theorem modDelay_eq (f : DelayEngine → DelayEngine) : (s.modDelay f).eq = s.eq := rfl
@[simp] theorem modDelay_channels (f : DelayEngine → DelayEngine) : (s.modDelay f).channels = s.channels := rfl
@[simp] theorem modDelay_cue (f : DelayEngine → DelayEngine) : (s.modDelay f).cue = s.cue := rfl
@[simp] theorem modDelay_emc (f : DelayEngine → DelayEngine) : (s.modDelay f).emc = s.emc := rfl
@[simp] theorem modDelay_counters (f : DelayEngine → DelayEngine) : (s.modDelay f).counters = s.counters := rfl
@[simp] theorem modDelay_timeBase (f : DelayEngine → DelayEngine) : (s.modDelay f).timeBase = s.timeBase := rfl
@[simp] theorem modDelay_freeCount (f : DelayEngine → DelayEngine) : (s.modDelay f).freeCount = s.freeCount := rfl
@[simp] theorem modDelay_pending (f : DelayEngine → DelayEngine) : (s.modDelay f).pending = s.pending := rfl

@[simp] theorem modLevel_stc (f : LevelDetector → LevelDetector) : (s.modLevel f).stc = s.stc := rfl
@[simp] theorem modLevel_image (f : LevelDetector → LevelDetector) : (s.modLevel f).image = s.image := rfl
@[simp] theorem modLevel_bus (f : LevelDetector → LevelDetector) : (s.modLevel f).bus = s.bus := rfl
@[simp] theorem modLevel_peers (f : LevelDetector → LevelDetector) : (s.modLevel f).peers = s.peers := rfl
@[simp] theorem modLevel_selfRec (f : LevelDetector → LevelDetector) : (s.modLevel f).selfRec = s.selfRec := rfl
@[simp] theorem modLevel_probe (f : LevelDetector → LevelDetector) : (s.modLevel f).probe = s.probe := rfl
@[simp] theorem modLevel_air (f : LevelDetector → LevelDetector) : (s.modLevel f).air = s.air := rfl
@[simp] theorem modLevel_solver (f : LevelDetector → LevelDetector) : (s.modLevel f).solver = s.solver := rfl
@[simp] theorem modLevel_delay (f : LevelDetector → LevelDetector) : (s.modLevel f).delay = s.delay := rfl
@[simp] theorem modLevel_level (f : LevelDetector → LevelDetector) : (s.modLevel f).level = f s.level := rfl
@[simp] theorem modLevel_eq (f : LevelDetector → LevelDetector) : (s.modLevel f).eq = s.eq := rfl
@[simp] theorem modLevel_channels (f : LevelDetector → LevelDetector) : (s.modLevel f).channels = s.channels := rfl
@[simp] theorem modLevel_cue (f : LevelDetector → LevelDetector) : (s.modLevel f).cue = s.cue := rfl
@[simp] theorem modLevel_emc (f : LevelDetector → LevelDetector) : (s.modLevel f).emc = s.emc := rfl
@[simp] theorem modLevel_counters (f : LevelDetector → LevelDetector) : (s.modLevel f).counters = s.counters := rfl
@[simp] theorem modLevel_timeBase (f : LevelDetector → LevelDetector) : (s.modLevel f).timeBase = s.timeBase := rfl
@[simp] theorem modLevel_freeCount (f : LevelDetector → LevelDetector) : (s.modLevel f).freeCount = s.freeCount := rfl
@[simp] theorem modLevel_pending (f : LevelDetector → LevelDetector) : (s.modLevel f).pending = s.pending := rfl

@[simp] theorem modEq_stc (f : EqStation → EqStation) : (s.modEq f).stc = s.stc := rfl
@[simp] theorem modEq_image (f : EqStation → EqStation) : (s.modEq f).image = s.image := rfl
@[simp] theorem modEq_bus (f : EqStation → EqStation) : (s.modEq f).bus = s.bus := rfl
@[simp] theorem modEq_peers (f : EqStation → EqStation) : (s.modEq f).peers = s.peers := rfl
@[simp] theorem modEq_selfRec (f : EqStation → EqStation) : (s.modEq f).selfRec = s.selfRec := rfl
@[simp] theorem modEq_probe (f : EqStation → EqStation) : (s.modEq f).probe = s.probe := rfl
@[simp] theorem modEq_air (f : EqStation → EqStation) : (s.modEq f).air = s.air := rfl
@[simp] theorem modEq_solver (f : EqStation → EqStation) : (s.modEq f).solver = s.solver := rfl
@[simp] theorem modEq_delay (f : EqStation → EqStation) : (s.modEq f).delay = s.delay := rfl
@[simp] theorem modEq_level (f : EqStation → EqStation) : (s.modEq f).level = s.level := rfl
@[simp] theorem modEq_eq (f : EqStation → EqStation) : (s.modEq f).eq = f s.eq := rfl
@[simp] theorem modEq_channels (f : EqStation → EqStation) : (s.modEq f).channels = s.channels := rfl
@[simp] theorem modEq_cue (f : EqStation → EqStation) : (s.modEq f).cue = s.cue := rfl
@[simp] theorem modEq_emc (f : EqStation → EqStation) : (s.modEq f).emc = s.emc := rfl
@[simp] theorem modEq_counters (f : EqStation → EqStation) : (s.modEq f).counters = s.counters := rfl
@[simp] theorem modEq_timeBase (f : EqStation → EqStation) : (s.modEq f).timeBase = s.timeBase := rfl
@[simp] theorem modEq_freeCount (f : EqStation → EqStation) : (s.modEq f).freeCount = s.freeCount := rfl
@[simp] theorem modEq_pending (f : EqStation → EqStation) : (s.modEq f).pending = s.pending := rfl

@[simp] theorem modChannel_stc (c : Fin 4) (f : Channel → Channel) : (s.modChannel c f).stc = s.stc := rfl
@[simp] theorem modChannel_image (c : Fin 4) (f : Channel → Channel) : (s.modChannel c f).image = s.image := rfl
@[simp] theorem modChannel_bus (c : Fin 4) (f : Channel → Channel) : (s.modChannel c f).bus = s.bus := rfl
@[simp] theorem modChannel_peers (c : Fin 4) (f : Channel → Channel) : (s.modChannel c f).peers = s.peers := rfl
@[simp] theorem modChannel_selfRec (c : Fin 4) (f : Channel → Channel) : (s.modChannel c f).selfRec = s.selfRec := rfl
@[simp] theorem modChannel_probe (c : Fin 4) (f : Channel → Channel) : (s.modChannel c f).probe = s.probe := rfl
@[simp] theorem modChannel_air (c : Fin 4) (f : Channel → Channel) : (s.modChannel c f).air = s.air := rfl
@[simp] theorem modChannel_solver (c : Fin 4) (f : Channel → Channel) : (s.modChannel c f).solver = s.solver := rfl
@[simp] theorem modChannel_delay (c : Fin 4) (f : Channel → Channel) : (s.modChannel c f).delay = s.delay := rfl
@[simp] theorem modChannel_level (c : Fin 4) (f : Channel → Channel) : (s.modChannel c f).level = s.level := rfl
@[simp] theorem modChannel_eq (c : Fin 4) (f : Channel → Channel) : (s.modChannel c f).eq = s.eq := rfl
@[simp] theorem modChannel_channels (c : Fin 4) (f : Channel → Channel) : (s.modChannel c f).channels = s.channels.set c (f s.channels[c]) := rfl
@[simp] theorem modChannel_cue (c : Fin 4) (f : Channel → Channel) : (s.modChannel c f).cue = s.cue := rfl
@[simp] theorem modChannel_emc (c : Fin 4) (f : Channel → Channel) : (s.modChannel c f).emc = s.emc := rfl
@[simp] theorem modChannel_counters (c : Fin 4) (f : Channel → Channel) : (s.modChannel c f).counters = s.counters := rfl
@[simp] theorem modChannel_timeBase (c : Fin 4) (f : Channel → Channel) : (s.modChannel c f).timeBase = s.timeBase := rfl
@[simp] theorem modChannel_freeCount (c : Fin 4) (f : Channel → Channel) : (s.modChannel c f).freeCount = s.freeCount := rfl
@[simp] theorem modChannel_pending (c : Fin 4) (f : Channel → Channel) : (s.modChannel c f).pending = s.pending := rfl

@[simp] theorem modCue_stc (f : CueEngine → CueEngine) : (s.modCue f).stc = s.stc := rfl
@[simp] theorem modCue_image (f : CueEngine → CueEngine) : (s.modCue f).image = s.image := rfl
@[simp] theorem modCue_bus (f : CueEngine → CueEngine) : (s.modCue f).bus = s.bus := rfl
@[simp] theorem modCue_peers (f : CueEngine → CueEngine) : (s.modCue f).peers = s.peers := rfl
@[simp] theorem modCue_selfRec (f : CueEngine → CueEngine) : (s.modCue f).selfRec = s.selfRec := rfl
@[simp] theorem modCue_probe (f : CueEngine → CueEngine) : (s.modCue f).probe = s.probe := rfl
@[simp] theorem modCue_air (f : CueEngine → CueEngine) : (s.modCue f).air = s.air := rfl
@[simp] theorem modCue_solver (f : CueEngine → CueEngine) : (s.modCue f).solver = s.solver := rfl
@[simp] theorem modCue_delay (f : CueEngine → CueEngine) : (s.modCue f).delay = s.delay := rfl
@[simp] theorem modCue_level (f : CueEngine → CueEngine) : (s.modCue f).level = s.level := rfl
@[simp] theorem modCue_eq (f : CueEngine → CueEngine) : (s.modCue f).eq = s.eq := rfl
@[simp] theorem modCue_channels (f : CueEngine → CueEngine) : (s.modCue f).channels = s.channels := rfl
@[simp] theorem modCue_cue (f : CueEngine → CueEngine) : (s.modCue f).cue = f s.cue := rfl
@[simp] theorem modCue_emc (f : CueEngine → CueEngine) : (s.modCue f).emc = s.emc := rfl
@[simp] theorem modCue_counters (f : CueEngine → CueEngine) : (s.modCue f).counters = s.counters := rfl
@[simp] theorem modCue_timeBase (f : CueEngine → CueEngine) : (s.modCue f).timeBase = s.timeBase := rfl
@[simp] theorem modCue_freeCount (f : CueEngine → CueEngine) : (s.modCue f).freeCount = s.freeCount := rfl
@[simp] theorem modCue_pending (f : CueEngine → CueEngine) : (s.modCue f).pending = s.pending := rfl

@[simp] theorem modEmc_stc (f : EmergencyControl → EmergencyControl) : (s.modEmc f).stc = s.stc := rfl
@[simp] theorem modEmc_image (f : EmergencyControl → EmergencyControl) : (s.modEmc f).image = s.image := rfl
@[simp] theorem modEmc_bus (f : EmergencyControl → EmergencyControl) : (s.modEmc f).bus = s.bus := rfl
@[simp] theorem modEmc_peers (f : EmergencyControl → EmergencyControl) : (s.modEmc f).peers = s.peers := rfl
@[simp] theorem modEmc_selfRec (f : EmergencyControl → EmergencyControl) : (s.modEmc f).selfRec = s.selfRec := rfl
@[simp] theorem modEmc_probe (f : EmergencyControl → EmergencyControl) : (s.modEmc f).probe = s.probe := rfl
@[simp] theorem modEmc_air (f : EmergencyControl → EmergencyControl) : (s.modEmc f).air = s.air := rfl
@[simp] theorem modEmc_solver (f : EmergencyControl → EmergencyControl) : (s.modEmc f).solver = s.solver := rfl
@[simp] theorem modEmc_delay (f : EmergencyControl → EmergencyControl) : (s.modEmc f).delay = s.delay := rfl
@[simp] theorem modEmc_level (f : EmergencyControl → EmergencyControl) : (s.modEmc f).level = s.level := rfl
@[simp] theorem modEmc_eq (f : EmergencyControl → EmergencyControl) : (s.modEmc f).eq = s.eq := rfl
@[simp] theorem modEmc_channels (f : EmergencyControl → EmergencyControl) : (s.modEmc f).channels = s.channels := rfl
@[simp] theorem modEmc_cue (f : EmergencyControl → EmergencyControl) : (s.modEmc f).cue = s.cue := rfl
@[simp] theorem modEmc_emc (f : EmergencyControl → EmergencyControl) : (s.modEmc f).emc = f s.emc := rfl
@[simp] theorem modEmc_counters (f : EmergencyControl → EmergencyControl) : (s.modEmc f).counters = s.counters := rfl
@[simp] theorem modEmc_timeBase (f : EmergencyControl → EmergencyControl) : (s.modEmc f).timeBase = s.timeBase := rfl
@[simp] theorem modEmc_freeCount (f : EmergencyControl → EmergencyControl) : (s.modEmc f).freeCount = s.freeCount := rfl
@[simp] theorem modEmc_pending (f : EmergencyControl → EmergencyControl) : (s.modEmc f).pending = s.pending := rfl

@[simp] theorem modCounters_stc (f : Vector (BitVec 16) 20 → Vector (BitVec 16) 20) : (s.modCounters f).stc = s.stc := rfl
@[simp] theorem modCounters_image (f : Vector (BitVec 16) 20 → Vector (BitVec 16) 20) : (s.modCounters f).image = s.image := rfl
@[simp] theorem modCounters_bus (f : Vector (BitVec 16) 20 → Vector (BitVec 16) 20) : (s.modCounters f).bus = s.bus := rfl
@[simp] theorem modCounters_peers (f : Vector (BitVec 16) 20 → Vector (BitVec 16) 20) : (s.modCounters f).peers = s.peers := rfl
@[simp] theorem modCounters_selfRec (f : Vector (BitVec 16) 20 → Vector (BitVec 16) 20) : (s.modCounters f).selfRec = s.selfRec := rfl
@[simp] theorem modCounters_probe (f : Vector (BitVec 16) 20 → Vector (BitVec 16) 20) : (s.modCounters f).probe = s.probe := rfl
@[simp] theorem modCounters_air (f : Vector (BitVec 16) 20 → Vector (BitVec 16) 20) : (s.modCounters f).air = s.air := rfl
@[simp] theorem modCounters_solver (f : Vector (BitVec 16) 20 → Vector (BitVec 16) 20) : (s.modCounters f).solver = s.solver := rfl
@[simp] theorem modCounters_delay (f : Vector (BitVec 16) 20 → Vector (BitVec 16) 20) : (s.modCounters f).delay = s.delay := rfl
@[simp] theorem modCounters_level (f : Vector (BitVec 16) 20 → Vector (BitVec 16) 20) : (s.modCounters f).level = s.level := rfl
@[simp] theorem modCounters_eq (f : Vector (BitVec 16) 20 → Vector (BitVec 16) 20) : (s.modCounters f).eq = s.eq := rfl
@[simp] theorem modCounters_channels (f : Vector (BitVec 16) 20 → Vector (BitVec 16) 20) : (s.modCounters f).channels = s.channels := rfl
@[simp] theorem modCounters_cue (f : Vector (BitVec 16) 20 → Vector (BitVec 16) 20) : (s.modCounters f).cue = s.cue := rfl
@[simp] theorem modCounters_emc (f : Vector (BitVec 16) 20 → Vector (BitVec 16) 20) : (s.modCounters f).emc = s.emc := rfl
@[simp] theorem modCounters_counters (f : Vector (BitVec 16) 20 → Vector (BitVec 16) 20) : (s.modCounters f).counters = f s.counters := rfl
@[simp] theorem modCounters_timeBase (f : Vector (BitVec 16) 20 → Vector (BitVec 16) 20) : (s.modCounters f).timeBase = s.timeBase := rfl
@[simp] theorem modCounters_freeCount (f : Vector (BitVec 16) 20 → Vector (BitVec 16) 20) : (s.modCounters f).freeCount = s.freeCount := rfl
@[simp] theorem modCounters_pending (f : Vector (BitVec 16) 20 → Vector (BitVec 16) 20) : (s.modCounters f).pending = s.pending := rfl

@[simp] theorem setTimeBase_stc (t : Instant) : (s.setTimeBase t).stc = s.stc := rfl
@[simp] theorem setTimeBase_image (t : Instant) : (s.setTimeBase t).image = s.image := rfl
@[simp] theorem setTimeBase_bus (t : Instant) : (s.setTimeBase t).bus = s.bus := rfl
@[simp] theorem setTimeBase_peers (t : Instant) : (s.setTimeBase t).peers = s.peers := rfl
@[simp] theorem setTimeBase_selfRec (t : Instant) : (s.setTimeBase t).selfRec = s.selfRec := rfl
@[simp] theorem setTimeBase_probe (t : Instant) : (s.setTimeBase t).probe = s.probe := rfl
@[simp] theorem setTimeBase_air (t : Instant) : (s.setTimeBase t).air = s.air := rfl
@[simp] theorem setTimeBase_solver (t : Instant) : (s.setTimeBase t).solver = s.solver := rfl
@[simp] theorem setTimeBase_delay (t : Instant) : (s.setTimeBase t).delay = s.delay := rfl
@[simp] theorem setTimeBase_level (t : Instant) : (s.setTimeBase t).level = s.level := rfl
@[simp] theorem setTimeBase_eq (t : Instant) : (s.setTimeBase t).eq = s.eq := rfl
@[simp] theorem setTimeBase_channels (t : Instant) : (s.setTimeBase t).channels = s.channels := rfl
@[simp] theorem setTimeBase_cue (t : Instant) : (s.setTimeBase t).cue = s.cue := rfl
@[simp] theorem setTimeBase_emc (t : Instant) : (s.setTimeBase t).emc = s.emc := rfl
@[simp] theorem setTimeBase_counters (t : Instant) : (s.setTimeBase t).counters = s.counters := rfl
@[simp] theorem setTimeBase_timeBase (t : Instant) : (s.setTimeBase t).timeBase = t := rfl
@[simp] theorem setTimeBase_freeCount (t : Instant) : (s.setTimeBase t).freeCount = s.freeCount := rfl
@[simp] theorem setTimeBase_pending (t : Instant) : (s.setTimeBase t).pending = s.pending := rfl

@[simp] theorem setFreeCount_stc (n : Nat) : (s.setFreeCount n).stc = s.stc := rfl
@[simp] theorem setFreeCount_image (n : Nat) : (s.setFreeCount n).image = s.image := rfl
@[simp] theorem setFreeCount_bus (n : Nat) : (s.setFreeCount n).bus = s.bus := rfl
@[simp] theorem setFreeCount_peers (n : Nat) : (s.setFreeCount n).peers = s.peers := rfl
@[simp] theorem setFreeCount_selfRec (n : Nat) : (s.setFreeCount n).selfRec = s.selfRec := rfl
@[simp] theorem setFreeCount_probe (n : Nat) : (s.setFreeCount n).probe = s.probe := rfl
@[simp] theorem setFreeCount_air (n : Nat) : (s.setFreeCount n).air = s.air := rfl
@[simp] theorem setFreeCount_solver (n : Nat) : (s.setFreeCount n).solver = s.solver := rfl
@[simp] theorem setFreeCount_delay (n : Nat) : (s.setFreeCount n).delay = s.delay := rfl
@[simp] theorem setFreeCount_level (n : Nat) : (s.setFreeCount n).level = s.level := rfl
@[simp] theorem setFreeCount_eq (n : Nat) : (s.setFreeCount n).eq = s.eq := rfl
@[simp] theorem setFreeCount_channels (n : Nat) : (s.setFreeCount n).channels = s.channels := rfl
@[simp] theorem setFreeCount_cue (n : Nat) : (s.setFreeCount n).cue = s.cue := rfl
@[simp] theorem setFreeCount_emc (n : Nat) : (s.setFreeCount n).emc = s.emc := rfl
@[simp] theorem setFreeCount_counters (n : Nat) : (s.setFreeCount n).counters = s.counters := rfl
@[simp] theorem setFreeCount_timeBase (n : Nat) : (s.setFreeCount n).timeBase = s.timeBase := rfl
@[simp] theorem setFreeCount_freeCount (n : Nat) : (s.setFreeCount n).freeCount = n := rfl
@[simp] theorem setFreeCount_pending (n : Nat) : (s.setFreeCount n).pending = s.pending := rfl

@[simp] theorem setPending_stc (q : List Instr) : (s.setPending q).stc = s.stc := rfl
@[simp] theorem setPending_image (q : List Instr) : (s.setPending q).image = s.image := rfl
@[simp] theorem setPending_bus (q : List Instr) : (s.setPending q).bus = s.bus := rfl
@[simp] theorem setPending_peers (q : List Instr) : (s.setPending q).peers = s.peers := rfl
@[simp] theorem setPending_selfRec (q : List Instr) : (s.setPending q).selfRec = s.selfRec := rfl
@[simp] theorem setPending_probe (q : List Instr) : (s.setPending q).probe = s.probe := rfl
@[simp] theorem setPending_air (q : List Instr) : (s.setPending q).air = s.air := rfl
@[simp] theorem setPending_solver (q : List Instr) : (s.setPending q).solver = s.solver := rfl
@[simp] theorem setPending_delay (q : List Instr) : (s.setPending q).delay = s.delay := rfl
@[simp] theorem setPending_level (q : List Instr) : (s.setPending q).level = s.level := rfl
@[simp] theorem setPending_eq (q : List Instr) : (s.setPending q).eq = s.eq := rfl
@[simp] theorem setPending_channels (q : List Instr) : (s.setPending q).channels = s.channels := rfl
@[simp] theorem setPending_cue (q : List Instr) : (s.setPending q).cue = s.cue := rfl
@[simp] theorem setPending_emc (q : List Instr) : (s.setPending q).emc = s.emc := rfl
@[simp] theorem setPending_counters (q : List Instr) : (s.setPending q).counters = s.counters := rfl
@[simp] theorem setPending_timeBase (q : List Instr) : (s.setPending q).timeBase = s.timeBase := rfl
@[simp] theorem setPending_freeCount (q : List Instr) : (s.setPending q).freeCount = s.freeCount := rfl
@[simp] theorem setPending_pending (q : List Instr) : (s.setPending q).pending = q := rfl

/-! ### State.reset, field by field -/

@[simp] theorem reset_image : State.reset.image = none := rfl
@[simp] theorem reset_peers : State.reset.peers = Vector.replicate 16 (PeerEntry.blank .unused none) := rfl
@[simp] theorem reset_selfRec : State.reset.selfRec = FlightRecord.empty := rfl
@[simp] theorem reset_solver : State.reset.solver = Solver.reset := rfl
@[simp] theorem reset_channels : State.reset.channels = Vector.replicate 4 (Channel.reset false false) := rfl
@[simp] theorem reset_counters : State.reset.counters = Vector.replicate 20 0 := rfl
@[simp] theorem reset_timeBase : State.reset.timeBase = 0 := rfl
@[simp] theorem reset_freeCount : State.reset.freeCount = 0 := rfl
@[simp] theorem reset_pending : State.reset.pending = [] := rfl
@[simp] theorem reset_stc_mode : State.reset.stc.mode = .loading := rfl
@[simp] theorem reset_stc_strapPins : State.reset.stc.strapPins = Straps.reset := rfl
@[simp] theorem reset_stc_straps : State.reset.stc.straps = Straps.reset := rfl
@[simp] theorem reset_stc_unit : State.reset.stc.unit = 1 := rfl
@[simp] theorem reset_stc_identity : State.reset.stc.identity = none := rfl
@[simp] theorem reset_stc_kind : State.reset.stc.kind = none := rfl
@[simp] theorem reset_stc_reason : State.reset.stc.reason = .none := rfl
@[simp] theorem reset_stc_claim : State.reset.stc.claim = none := rfl
@[simp] theorem reset_stc_duplicates : State.reset.stc.duplicates = 0 := rfl
@[simp] theorem reset_stc_lastDuplicate : State.reset.stc.lastDuplicate = none := rfl
@[simp] theorem reset_stc_restarts : State.reset.stc.restarts = 0 := rfl
@[simp] theorem reset_stc_reading : State.reset.stc.reading = .header 100000 := rfl
@[simp] theorem reset_stc_kept : State.reset.stc.kept = Vector.replicate 16 none := rfl
@[simp] theorem reset_bus_assembly : State.reset.bus.assembly = .seeking false := rfl
@[simp] theorem reset_bus_idleMicros : State.reset.bus.idleMicros = 0 := rfl
@[simp] theorem reset_bus_queue : State.reset.bus.queue = [] := rfl
@[simp] theorem reset_bus_nextArrival : State.reset.bus.nextArrival = 0 := rfl
@[simp] theorem reset_bus_attempt : State.reset.bus.attempt = none := rfl
@[simp] theorem reset_bus_tfc : State.reset.bus.tfc = 0 := rfl
@[simp] theorem reset_bus_txQuiet : State.reset.bus.txQuiet = false := rfl
@[simp] theorem reset_bus_recovery : State.reset.bus.recovery = 0 := rfl
@[simp] theorem reset_bus_yieldOwed : State.reset.bus.yieldOwed = false := rfl
@[simp] theorem reset_probe_round : State.reset.probe.round = .idle := rfl
@[simp] theorem reset_probe_timer : State.reset.probe.timer = none := rfl
@[simp] theorem reset_probe_deadline : State.reset.probe.deadline = none := rfl
@[simp] theorem reset_probe_startsAt : State.reset.probe.startsAt = none := rfl
@[simp] theorem reset_probe_started : State.reset.probe.started = false := rfl
@[simp] theorem reset_probe_lag : State.reset.probe.lag = 0 := rfl
@[simp] theorem reset_probe_position : State.reset.probe.position = 0 := rfl
@[simp] theorem reset_probe_slots : State.reset.probe.slots = Vector.replicate 2 .free := rfl
@[simp] theorem reset_air_state : State.reset.air.state = .lost := rfl
@[simp] theorem reset_air_temperature : State.reset.air.temperature = 200 := rfl
@[simp] theorem reset_air_humidity : State.reset.air.humidity = none := rfl
@[simp] theorem reset_air_misses : State.reset.air.misses = 0 := rfl
@[simp] theorem reset_air_request : State.reset.air.request = none := rfl
@[simp] theorem reset_delay_writePos : State.reset.delay.writePos = 0 := rfl
@[simp] theorem reset_delay_memory : State.reset.delay.memory = [] := rfl
@[simp] theorem reset_level_present : State.reset.level.present = false := rfl
@[simp] theorem reset_level_marks : State.reset.level.marks = [] := rfl
@[simp] theorem reset_level_history : State.reset.level.history = List.replicate 479 0 := rfl
@[simp] theorem reset_eq_pathBand : State.reset.eq.pathBand = none := rfl
@[simp] theorem reset_eq_humidityBand : State.reset.eq.humidityBand = none := rfl
@[simp] theorem reset_eq_shelf : State.reset.eq.shelf = none := rfl
@[simp] theorem reset_eq_cell : State.reset.eq.cell = none := rfl
@[simp] theorem reset_cue_memory : State.reset.cue.memory = [] := rfl
@[simp] theorem reset_cue_list : State.reset.cue.list = .idle := rfl
@[simp] theorem reset_cue_lastCue : State.reset.cue.lastCue = none := rfl
@[simp] theorem reset_cue_lastList : State.reset.cue.lastList = none := rfl
@[simp] theorem reset_cue_overtaken : State.reset.cue.overtaken = 0 := rfl
@[simp] theorem reset_cue_undefined : State.reset.cue.undefined = 0 := rfl
@[simp] theorem reset_emc_contactPin : State.reset.emc.contactPin = false := rfl
@[simp] theorem reset_emc_resetPin : State.reset.emc.resetPin = false := rfl
@[simp] theorem reset_emc_contactSpan : State.reset.emc.contactSpan = none := rfl
@[simp] theorem reset_emc_resetSpan : State.reset.emc.resetSpan = none := rfl
@[simp] theorem reset_emc_contact : State.reset.emc.contact = false := rfl
@[simp] theorem reset_emc_resetContact : State.reset.emc.resetContact = false := rfl
@[simp] theorem reset_emc_latch : State.reset.emc.latch = false := rfl
@[simp] theorem reset_emc_sources : State.reset.emc.sources = [] := rfl
@[simp] theorem reset_emc_emergency : State.reset.emc.emergency = false := rfl
@[simp] theorem reset_emc_refresh : State.reset.emc.refresh = none := rfl

end Sys2Proof.Machine.State
end

