-- ==== Sys2Proof/Laws/Frames.lean ====
section
/-! SUPPORT. The frames of the shared operations: for each, every block of State that it leaves as it was. -/

set_option linter.unusedSimpArgs false

namespace Sys2Proof.Machine

/-! ### Ops.lean -/

@[simp] theorem bumpBy_frame (n : Nat) (k : Counter) (s : State) :
    (bumpBy n k s).stc = s.stc ∧ (bumpBy n k s).image = s.image ∧ (bumpBy n k s).bus = s.bus ∧
    (bumpBy n k s).peers = s.peers ∧ (bumpBy n k s).selfRec = s.selfRec ∧ (bumpBy n k s).probe = s.probe ∧
    (bumpBy n k s).air = s.air ∧ (bumpBy n k s).solver = s.solver ∧ (bumpBy n k s).delay = s.delay ∧
    (bumpBy n k s).level = s.level ∧ (bumpBy n k s).eq = s.eq ∧ (bumpBy n k s).channels = s.channels ∧
    (bumpBy n k s).cue = s.cue ∧ (bumpBy n k s).emc = s.emc ∧ (bumpBy n k s).timeBase = s.timeBase ∧
    (bumpBy n k s).freeCount = s.freeCount ∧ (bumpBy n k s).pending = s.pending := by
  unfold bumpBy
  try dsimp only
  all_goals simp [forChannels, forMarked]

@[simp] theorem bump_frame (k : Counter) (s : State) :
    (bump k s).stc = s.stc ∧ (bump k s).image = s.image ∧ (bump k s).bus = s.bus ∧ (bump k s).peers = s.peers ∧
    (bump k s).selfRec = s.selfRec ∧ (bump k s).probe = s.probe ∧ (bump k s).air = s.air ∧
    (bump k s).solver = s.solver ∧ (bump k s).delay = s.delay ∧ (bump k s).level = s.level ∧ (bump k s).eq = s.eq ∧
    (bump k s).channels = s.channels ∧ (bump k s).cue = s.cue ∧ (bump k s).emc = s.emc ∧
    (bump k s).timeBase = s.timeBase ∧ (bump k s).freeCount = s.freeCount ∧ (bump k s).pending = s.pending := by
  unfold bump
  try dsimp only
  all_goals simp [forChannels, forMarked]

/-! ### Queue.lean -/

@[simp] theorem handFrame_frame (f : Frame) (s : State) :
    (handFrame f s).stc = s.stc ∧ (handFrame f s).image = s.image ∧ (handFrame f s).peers = s.peers ∧
    (handFrame f s).selfRec = s.selfRec ∧ (handFrame f s).probe = s.probe ∧ (handFrame f s).air = s.air ∧
    (handFrame f s).solver = s.solver ∧ (handFrame f s).delay = s.delay ∧ (handFrame f s).level = s.level ∧
    (handFrame f s).eq = s.eq ∧ (handFrame f s).channels = s.channels ∧ (handFrame f s).cue = s.cue ∧
    (handFrame f s).emc = s.emc ∧ (handFrame f s).timeBase = s.timeBase ∧ (handFrame f s).freeCount = s.freeCount ∧
    (handFrame f s).pending = s.pending := by
  unfold handFrame
  try dsimp only
  repeat' split
  all_goals simp [forChannels, forMarked]

@[simp] theorem withdrawMark_frame (s : State) :
    (withdrawMark s).stc = s.stc ∧ (withdrawMark s).image = s.image ∧ (withdrawMark s).peers = s.peers ∧
    (withdrawMark s).selfRec = s.selfRec ∧ (withdrawMark s).probe = s.probe ∧ (withdrawMark s).air = s.air ∧
    (withdrawMark s).solver = s.solver ∧ (withdrawMark s).delay = s.delay ∧ (withdrawMark s).level = s.level ∧
    (withdrawMark s).eq = s.eq ∧ (withdrawMark s).channels = s.channels ∧ (withdrawMark s).cue = s.cue ∧
    (withdrawMark s).emc = s.emc ∧ (withdrawMark s).counters = s.counters ∧ (withdrawMark s).timeBase = s.timeBase ∧
    (withdrawMark s).freeCount = s.freeCount ∧ (withdrawMark s).pending = s.pending := by
  unfold withdrawMark
  try dsimp only
  all_goals simp [forChannels, forMarked]

@[simp] theorem emptyQueue_frame (s : State) :
    (emptyQueue s).stc = s.stc ∧ (emptyQueue s).image = s.image ∧ (emptyQueue s).peers = s.peers ∧
    (emptyQueue s).selfRec = s.selfRec ∧ (emptyQueue s).probe = s.probe ∧ (emptyQueue s).air = s.air ∧
    (emptyQueue s).solver = s.solver ∧ (emptyQueue s).delay = s.delay ∧ (emptyQueue s).level = s.level ∧
    (emptyQueue s).eq = s.eq ∧ (emptyQueue s).channels = s.channels ∧ (emptyQueue s).cue = s.cue ∧
    (emptyQueue s).emc = s.emc ∧ (emptyQueue s).timeBase = s.timeBase ∧ (emptyQueue s).freeCount = s.freeCount ∧
    (emptyQueue s).pending = s.pending := by
  unfold emptyQueue
  try dsimp only
  all_goals simp [forChannels, forMarked]

@[simp] theorem handAlign_frame (s : State) :
    (handAlign s).stc = s.stc ∧ (handAlign s).image = s.image ∧ (handAlign s).peers = s.peers ∧
    (handAlign s).selfRec = s.selfRec ∧ (handAlign s).probe = s.probe ∧ (handAlign s).air = s.air ∧
    (handAlign s).delay = s.delay ∧ (handAlign s).level = s.level ∧ (handAlign s).eq = s.eq ∧
    (handAlign s).channels = s.channels ∧ (handAlign s).cue = s.cue ∧ (handAlign s).emc = s.emc ∧
    (handAlign s).timeBase = s.timeBase ∧ (handAlign s).freeCount = s.freeCount ∧ (handAlign s).pending = s.pending := by
  unfold handAlign
  try dsimp only
  all_goals simp [forChannels, forMarked]

@[simp] theorem finishEvent_frame (old new : State) :
    (finishEvent old new).stc = new.stc ∧ (finishEvent old new).image = new.image ∧
    (finishEvent old new).peers = new.peers ∧ (finishEvent old new).selfRec = new.selfRec ∧
    (finishEvent old new).probe = new.probe ∧ (finishEvent old new).air = new.air ∧
    (finishEvent old new).delay = new.delay ∧ (finishEvent old new).level = new.level ∧
    (finishEvent old new).eq = new.eq ∧ (finishEvent old new).channels = new.channels ∧
    (finishEvent old new).cue = new.cue ∧ (finishEvent old new).emc = new.emc ∧
    (finishEvent old new).timeBase = new.timeBase ∧ (finishEvent old new).freeCount = new.freeCount ∧
    (finishEvent old new).pending = new.pending := by
  unfold finishEvent
  split
  all_goals simp

@[simp] theorem event_frame (f : State → State) (s : State) :
    (event f s).stc = (f s).stc ∧ (event f s).image = (f s).image ∧ (event f s).peers = (f s).peers ∧
    (event f s).selfRec = (f s).selfRec ∧ (event f s).probe = (f s).probe ∧ (event f s).air = (f s).air ∧
    (event f s).delay = (f s).delay ∧ (event f s).level = (f s).level ∧ (event f s).eq = (f s).eq ∧
    (event f s).channels = (f s).channels ∧ (event f s).cue = (f s).cue ∧ (event f s).emc = (f s).emc ∧
    (event f s).timeBase = (f s).timeBase ∧ (event f s).freeCount = (f s).freeCount ∧
    (event f s).pending = (f s).pending := by
  simp [event]

@[simp] theorem handEvac_frame (set : Bool) (s : State) :
    (handEvac set s).stc = s.stc ∧ (handEvac set s).image = s.image ∧ (handEvac set s).peers = s.peers ∧
    (handEvac set s).selfRec = s.selfRec ∧ (handEvac set s).probe = s.probe ∧ (handEvac set s).air = s.air ∧
    (handEvac set s).solver = s.solver ∧ (handEvac set s).delay = s.delay ∧ (handEvac set s).level = s.level ∧
    (handEvac set s).eq = s.eq ∧ (handEvac set s).channels = s.channels ∧ (handEvac set s).cue = s.cue ∧
    (handEvac set s).emc = s.emc ∧ (handEvac set s).timeBase = s.timeBase ∧
    (handEvac set s).freeCount = s.freeCount ∧ (handEvac set s).pending = s.pending := by
  unfold handEvac
  try dsimp only
  repeat' split
  all_goals simp [forChannels, forMarked]

@[simp] theorem handRoll_frame (s : State) :
    (handRoll s).stc = s.stc ∧ (handRoll s).image = s.image ∧ (handRoll s).peers = s.peers ∧
    (handRoll s).selfRec = s.selfRec ∧ (handRoll s).probe = s.probe ∧ (handRoll s).air = s.air ∧
    (handRoll s).solver = s.solver ∧ (handRoll s).delay = s.delay ∧ (handRoll s).level = s.level ∧
    (handRoll s).eq = s.eq ∧ (handRoll s).channels = s.channels ∧ (handRoll s).cue = s.cue ∧
    (handRoll s).emc = s.emc ∧ (handRoll s).timeBase = s.timeBase ∧ (handRoll s).freeCount = s.freeCount ∧
    (handRoll s).pending = s.pending := by
  unfold handRoll
  try dsimp only
  repeat' split
  all_goals simp [forChannels, forMarked]

@[simp] theorem handRollUnlessWaiting_frame (s : State) :
    (handRollUnlessWaiting s).stc = s.stc ∧ (handRollUnlessWaiting s).image = s.image ∧
    (handRollUnlessWaiting s).peers = s.peers ∧ (handRollUnlessWaiting s).selfRec = s.selfRec ∧
    (handRollUnlessWaiting s).probe = s.probe ∧ (handRollUnlessWaiting s).air = s.air ∧
    (handRollUnlessWaiting s).solver = s.solver ∧ (handRollUnlessWaiting s).delay = s.delay ∧
    (handRollUnlessWaiting s).level = s.level ∧ (handRollUnlessWaiting s).eq = s.eq ∧
    (handRollUnlessWaiting s).channels = s.channels ∧ (handRollUnlessWaiting s).cue = s.cue ∧
    (handRollUnlessWaiting s).emc = s.emc ∧ (handRollUnlessWaiting s).timeBase = s.timeBase ∧
    (handRollUnlessWaiting s).freeCount = s.freeCount ∧ (handRollUnlessWaiting s).pending = s.pending := by
  unfold handRollUnlessWaiting
  try dsimp only
  repeat' split
  all_goals simp [forChannels, forMarked]

/-! ### PeerTable.lean -/

@[simp] theorem trigger_frame (s : State) :
    (trigger s).stc = s.stc ∧ (trigger s).image = s.image ∧ (trigger s).bus = s.bus ∧ (trigger s).peers = s.peers ∧
    (trigger s).selfRec = s.selfRec ∧ (trigger s).probe = s.probe ∧ (trigger s).air = s.air ∧
    (trigger s).delay = s.delay ∧ (trigger s).level = s.level ∧ (trigger s).eq = s.eq ∧
    (trigger s).channels = s.channels ∧ (trigger s).cue = s.cue ∧ (trigger s).emc = s.emc ∧
    (trigger s).counters = s.counters ∧ (trigger s).timeBase = s.timeBase ∧ (trigger s).freeCount = s.freeCount ∧
    (trigger s).pending = s.pending := by
  unfold trigger
  try dsimp only
  repeat' split
  all_goals simp [forChannels, forMarked]

@[simp] theorem afterDetection_frame (c : FlightChange) (s : State) :
    (afterDetection c s).stc = s.stc ∧ (afterDetection c s).image = s.image ∧ (afterDetection c s).bus = s.bus ∧
    (afterDetection c s).peers = s.peers ∧ (afterDetection c s).selfRec = s.selfRec ∧
    (afterDetection c s).probe = s.probe ∧ (afterDetection c s).air = s.air ∧ (afterDetection c s).delay = s.delay ∧
    (afterDetection c s).level = s.level ∧ (afterDetection c s).eq = s.eq ∧
    (afterDetection c s).channels = s.channels ∧ (afterDetection c s).cue = s.cue ∧
    (afterDetection c s).emc = s.emc ∧ (afterDetection c s).timeBase = s.timeBase ∧
    (afterDetection c s).freeCount = s.freeCount ∧ (afterDetection c s).pending = s.pending := by
  unfold afterDetection
  try dsimp only
  repeat' split
  all_goals simp [forChannels, forMarked]

@[simp] theorem takePeerResult_frame (station : Nat) (r : FlightResult) (s : State) :
    (takePeerResult station r s).stc = s.stc ∧ (takePeerResult station r s).image = s.image ∧
    (takePeerResult station r s).bus = s.bus ∧ (takePeerResult station r s).selfRec = s.selfRec ∧
    (takePeerResult station r s).probe = s.probe ∧ (takePeerResult station r s).air = s.air ∧
    (takePeerResult station r s).delay = s.delay ∧ (takePeerResult station r s).level = s.level ∧
    (takePeerResult station r s).eq = s.eq ∧ (takePeerResult station r s).channels = s.channels ∧
    (takePeerResult station r s).cue = s.cue ∧ (takePeerResult station r s).emc = s.emc ∧
    (takePeerResult station r s).timeBase = s.timeBase ∧ (takePeerResult station r s).freeCount = s.freeCount ∧
    (takePeerResult station r s).pending = s.pending := by
  unfold takePeerResult
  try dsimp only
  repeat' split
  all_goals simp [forChannels, forMarked]

@[simp] theorem takeSelfResult_frame (r : FlightResult) (s : State) :
    (takeSelfResult r s).stc = s.stc ∧ (takeSelfResult r s).image = s.image ∧ (takeSelfResult r s).bus = s.bus ∧
    (takeSelfResult r s).peers = s.peers ∧ (takeSelfResult r s).probe = s.probe ∧ (takeSelfResult r s).air = s.air ∧
    (takeSelfResult r s).delay = s.delay ∧ (takeSelfResult r s).level = s.level ∧ (takeSelfResult r s).eq = s.eq ∧
    (takeSelfResult r s).channels = s.channels ∧ (takeSelfResult r s).cue = s.cue ∧
    (takeSelfResult r s).emc = s.emc ∧ (takeSelfResult r s).timeBase = s.timeBase ∧
    (takeSelfResult r s).freeCount = s.freeCount ∧ (takeSelfResult r s).pending = s.pending := by
  unfold takeSelfResult
  try dsimp only
  repeat' split
  all_goals simp [forChannels, forMarked]

@[simp] theorem takeRecord_frame (i : Fin 16) (station : Nat) (r : AlignRecord) (s : State) :
    (takeRecord i station r s).stc = s.stc ∧ (takeRecord i station r s).image = s.image ∧
    (takeRecord i station r s).bus = s.bus ∧ (takeRecord i station r s).selfRec = s.selfRec ∧
    (takeRecord i station r s).probe = s.probe ∧ (takeRecord i station r s).air = s.air ∧
    (takeRecord i station r s).delay = s.delay ∧ (takeRecord i station r s).level = s.level ∧
    (takeRecord i station r s).eq = s.eq ∧ (takeRecord i station r s).channels = s.channels ∧
    (takeRecord i station r s).cue = s.cue ∧ (takeRecord i station r s).emc = s.emc ∧
    (takeRecord i station r s).timeBase = s.timeBase ∧ (takeRecord i station r s).freeCount = s.freeCount ∧
    (takeRecord i station r s).pending = s.pending := by
  unfold takeRecord
  try dsimp only
  repeat' split
  all_goals simp [forChannels, forMarked]

@[simp] theorem tableTakesAlign_frame (station : Nat) (r : AlignRecord) (s : State) :
    (tableTakesAlign station r s).stc = s.stc ∧ (tableTakesAlign station r s).image = s.image ∧
    (tableTakesAlign station r s).bus = s.bus ∧ (tableTakesAlign station r s).selfRec = s.selfRec ∧
    (tableTakesAlign station r s).probe = s.probe ∧ (tableTakesAlign station r s).air = s.air ∧
    (tableTakesAlign station r s).delay = s.delay ∧ (tableTakesAlign station r s).level = s.level ∧
    (tableTakesAlign station r s).eq = s.eq ∧ (tableTakesAlign station r s).channels = s.channels ∧
    (tableTakesAlign station r s).cue = s.cue ∧ (tableTakesAlign station r s).emc = s.emc ∧
    (tableTakesAlign station r s).timeBase = s.timeBase ∧ (tableTakesAlign station r s).freeCount = s.freeCount ∧
    (tableTakesAlign station r s).pending = s.pending := by
  unfold tableTakesAlign
  try dsimp only
  repeat' split
  all_goals simp [forChannels, forMarked]

@[simp] theorem becomeStale_frame (i : Fin 16) (s : State) :
    (becomeStale i s).stc = s.stc ∧ (becomeStale i s).image = s.image ∧ (becomeStale i s).bus = s.bus ∧
    (becomeStale i s).selfRec = s.selfRec ∧ (becomeStale i s).probe = s.probe ∧ (becomeStale i s).air = s.air ∧
    (becomeStale i s).delay = s.delay ∧ (becomeStale i s).level = s.level ∧ (becomeStale i s).eq = s.eq ∧
    (becomeStale i s).channels = s.channels ∧ (becomeStale i s).cue = s.cue ∧ (becomeStale i s).emc = s.emc ∧
    (becomeStale i s).counters = s.counters ∧ (becomeStale i s).timeBase = s.timeBase ∧
    (becomeStale i s).freeCount = s.freeCount ∧ (becomeStale i s).pending = s.pending := by
  unfold becomeStale
  try dsimp only
  all_goals simp [forChannels, forMarked]

@[simp] theorem becomeLost_frame (i : Fin 16) (s : State) :
    (becomeLost i s).stc = s.stc ∧ (becomeLost i s).image = s.image ∧ (becomeLost i s).bus = s.bus ∧
    (becomeLost i s).selfRec = s.selfRec ∧ (becomeLost i s).probe = s.probe ∧ (becomeLost i s).air = s.air ∧
    (becomeLost i s).delay = s.delay ∧ (becomeLost i s).level = s.level ∧ (becomeLost i s).eq = s.eq ∧
    (becomeLost i s).channels = s.channels ∧ (becomeLost i s).cue = s.cue ∧ (becomeLost i s).emc = s.emc ∧
    (becomeLost i s).counters = s.counters ∧ (becomeLost i s).timeBase = s.timeBase ∧
    (becomeLost i s).freeCount = s.freeCount ∧ (becomeLost i s).pending = s.pending := by
  unfold becomeLost
  try dsimp only
  all_goals simp [forChannels, forMarked]

@[simp] theorem releasePool_frame (i : Fin 16) (s : State) :
    (releasePool i s).stc = s.stc ∧ (releasePool i s).image = s.image ∧ (releasePool i s).bus = s.bus ∧
    (releasePool i s).selfRec = s.selfRec ∧ (releasePool i s).air = s.air ∧ (releasePool i s).delay = s.delay ∧
    (releasePool i s).level = s.level ∧ (releasePool i s).eq = s.eq ∧ (releasePool i s).channels = s.channels ∧
    (releasePool i s).cue = s.cue ∧ (releasePool i s).emc = s.emc ∧ (releasePool i s).counters = s.counters ∧
    (releasePool i s).timeBase = s.timeBase ∧ (releasePool i s).freeCount = s.freeCount ∧
    (releasePool i s).pending = s.pending := by
  unfold releasePool
  try dsimp only
  repeat' split
  all_goals simp [forChannels, forMarked]

@[simp] theorem loseEntry_frame (i : Fin 16) (s : State) :
    (loseEntry i s).stc = s.stc ∧ (loseEntry i s).image = s.image ∧ (loseEntry i s).bus = s.bus ∧
    (loseEntry i s).selfRec = s.selfRec ∧ (loseEntry i s).air = s.air ∧ (loseEntry i s).delay = s.delay ∧
    (loseEntry i s).level = s.level ∧ (loseEntry i s).eq = s.eq ∧ (loseEntry i s).channels = s.channels ∧
    (loseEntry i s).cue = s.cue ∧ (loseEntry i s).emc = s.emc ∧ (loseEntry i s).counters = s.counters ∧
    (loseEntry i s).timeBase = s.timeBase ∧ (loseEntry i s).freeCount = s.freeCount ∧
    (loseEntry i s).pending = s.pending := by
  unfold loseEntry
  try dsimp only
  repeat' split
  all_goals simp [forChannels, forMarked]

@[simp] theorem ageEntry_frame (i : Fin 16) (s : State) :
    (ageEntry i s).stc = s.stc ∧ (ageEntry i s).image = s.image ∧ (ageEntry i s).bus = s.bus ∧
    (ageEntry i s).selfRec = s.selfRec ∧ (ageEntry i s).air = s.air ∧ (ageEntry i s).delay = s.delay ∧
    (ageEntry i s).level = s.level ∧ (ageEntry i s).eq = s.eq ∧ (ageEntry i s).channels = s.channels ∧
    (ageEntry i s).cue = s.cue ∧ (ageEntry i s).emc = s.emc ∧ (ageEntry i s).counters = s.counters ∧
    (ageEntry i s).timeBase = s.timeBase ∧ (ageEntry i s).freeCount = s.freeCount ∧
    (ageEntry i s).pending = s.pending := by
  unfold ageEntry
  try dsimp only
  repeat' split
  all_goals simp [forChannels, forMarked]

/-- A fold of an operation that keeps a part of the state keeps it. -/
theorem foldl_keeps {α β : Type} (p : State → α) (f : State → β → State) (h : ∀ s b, p (f s b) = p s) :
    ∀ (l : List β) (s : State), p (l.foldl f s) = p s
  | [], _ => rfl
  | b :: l, s => by rw [List.foldl_cons, foldl_keeps p f h l, h]

@[simp] theorem ageEntries_frame (s : State) :
    (ageEntries s).stc = s.stc ∧ (ageEntries s).image = s.image ∧ (ageEntries s).bus = s.bus ∧
    (ageEntries s).selfRec = s.selfRec ∧ (ageEntries s).air = s.air ∧ (ageEntries s).delay = s.delay ∧
    (ageEntries s).level = s.level ∧ (ageEntries s).eq = s.eq ∧ (ageEntries s).channels = s.channels ∧
    (ageEntries s).cue = s.cue ∧ (ageEntries s).emc = s.emc ∧ (ageEntries s).counters = s.counters ∧
    (ageEntries s).timeBase = s.timeBase ∧ (ageEntries s).freeCount = s.freeCount ∧
    (ageEntries s).pending = s.pending := by
  unfold ageEntries
  exact ⟨foldl_keeps State.stc _ (by simp) _ s, foldl_keeps State.image _ (by simp) _ s, foldl_keeps State.bus _ (by simp) _ s, foldl_keeps State.selfRec _ (by simp) _ s, foldl_keeps State.air _ (by simp) _ s, foldl_keeps State.delay _ (by simp) _ s, foldl_keeps State.level _ (by simp) _ s, foldl_keeps State.eq _ (by simp) _ s, foldl_keeps State.channels _ (by simp) _ s, foldl_keeps State.cue _ (by simp) _ s, foldl_keeps State.emc _ (by simp) _ s, foldl_keeps State.counters _ (by simp) _ s, foldl_keeps State.timeBase _ (by simp) _ s, foldl_keeps State.freeCount _ (by simp) _ s, foldl_keeps State.pending _ (by simp) _ s⟩

/-! ### Delay.lean -/

@[simp] theorem formTargets_frame (s : State) :
    (formTargets s).stc = s.stc ∧ (formTargets s).image = s.image ∧ (formTargets s).bus = s.bus ∧
    (formTargets s).peers = s.peers ∧ (formTargets s).selfRec = s.selfRec ∧ (formTargets s).probe = s.probe ∧
    (formTargets s).air = s.air ∧ (formTargets s).solver = s.solver ∧ (formTargets s).delay = s.delay ∧
    (formTargets s).level = s.level ∧ (formTargets s).eq = s.eq ∧ (formTargets s).cue = s.cue ∧
    (formTargets s).emc = s.emc ∧ (formTargets s).counters = s.counters ∧ (formTargets s).timeBase = s.timeBase ∧
    (formTargets s).freeCount = s.freeCount ∧ (formTargets s).pending = s.pending := by
  unfold formTargets
  try dsimp only
  all_goals simp [forChannels, forMarked]

/-! ### Equaliser.lean -/

@[simp] theorem requestChannel_frame (c : Fin 4) (s : State) :
    (requestChannel c s).stc = s.stc ∧ (requestChannel c s).image = s.image ∧ (requestChannel c s).bus = s.bus ∧
    (requestChannel c s).peers = s.peers ∧ (requestChannel c s).selfRec = s.selfRec ∧
    (requestChannel c s).probe = s.probe ∧ (requestChannel c s).air = s.air ∧
    (requestChannel c s).solver = s.solver ∧ (requestChannel c s).delay = s.delay ∧
    (requestChannel c s).level = s.level ∧ (requestChannel c s).eq = s.eq ∧ (requestChannel c s).cue = s.cue ∧
    (requestChannel c s).emc = s.emc ∧ (requestChannel c s).counters = s.counters ∧
    (requestChannel c s).timeBase = s.timeBase ∧ (requestChannel c s).freeCount = s.freeCount ∧
    (requestChannel c s).pending = s.pending := by
  unfold requestChannel
  try dsimp only
  all_goals simp [forChannels, forMarked]

@[simp] theorem requestAll_frame (s : State) :
    (requestAll s).stc = s.stc ∧ (requestAll s).image = s.image ∧ (requestAll s).bus = s.bus ∧
    (requestAll s).peers = s.peers ∧ (requestAll s).selfRec = s.selfRec ∧ (requestAll s).probe = s.probe ∧
    (requestAll s).air = s.air ∧ (requestAll s).solver = s.solver ∧ (requestAll s).delay = s.delay ∧
    (requestAll s).level = s.level ∧ (requestAll s).eq = s.eq ∧ (requestAll s).cue = s.cue ∧
    (requestAll s).emc = s.emc ∧ (requestAll s).counters = s.counters ∧ (requestAll s).timeBase = s.timeBase ∧
    (requestAll s).freeCount = s.freeCount ∧ (requestAll s).pending = s.pending := by
  unfold requestAll
  try dsimp only
  all_goals simp [forChannels, forMarked]

@[simp] theorem retargetChannel_frame (c : Fin 4) (s : State) :
    (retargetChannel c s).stc = s.stc ∧ (retargetChannel c s).image = s.image ∧ (retargetChannel c s).bus = s.bus ∧
    (retargetChannel c s).peers = s.peers ∧ (retargetChannel c s).selfRec = s.selfRec ∧
    (retargetChannel c s).probe = s.probe ∧ (retargetChannel c s).air = s.air ∧
    (retargetChannel c s).solver = s.solver ∧ (retargetChannel c s).delay = s.delay ∧
    (retargetChannel c s).level = s.level ∧ (retargetChannel c s).eq = s.eq ∧ (retargetChannel c s).cue = s.cue ∧
    (retargetChannel c s).emc = s.emc ∧ (retargetChannel c s).counters = s.counters ∧
    (retargetChannel c s).timeBase = s.timeBase ∧ (retargetChannel c s).freeCount = s.freeCount ∧
    (retargetChannel c s).pending = s.pending := by
  unfold retargetChannel
  try dsimp only
  all_goals simp [forChannels, forMarked]

@[simp] theorem refreshShelf_frame (s : State) :
    (refreshShelf s).stc = s.stc ∧ (refreshShelf s).image = s.image ∧ (refreshShelf s).bus = s.bus ∧
    (refreshShelf s).peers = s.peers ∧ (refreshShelf s).selfRec = s.selfRec ∧ (refreshShelf s).probe = s.probe ∧
    (refreshShelf s).air = s.air ∧ (refreshShelf s).solver = s.solver ∧ (refreshShelf s).delay = s.delay ∧
    (refreshShelf s).level = s.level ∧ (refreshShelf s).cue = s.cue ∧ (refreshShelf s).emc = s.emc ∧
    (refreshShelf s).counters = s.counters ∧ (refreshShelf s).timeBase = s.timeBase ∧
    (refreshShelf s).freeCount = s.freeCount ∧ (refreshShelf s).pending = s.pending := by
  unfold refreshShelf
  try dsimp only
  repeat' split
  all_goals simp [forChannels, forMarked]

@[simp] theorem testPathBand_frame (path : Nat) (s : State) :
    (testPathBand path s).stc = s.stc ∧ (testPathBand path s).image = s.image ∧ (testPathBand path s).bus = s.bus ∧
    (testPathBand path s).peers = s.peers ∧ (testPathBand path s).selfRec = s.selfRec ∧
    (testPathBand path s).probe = s.probe ∧ (testPathBand path s).air = s.air ∧
    (testPathBand path s).solver = s.solver ∧ (testPathBand path s).delay = s.delay ∧
    (testPathBand path s).level = s.level ∧ (testPathBand path s).cue = s.cue ∧ (testPathBand path s).emc = s.emc ∧
    (testPathBand path s).counters = s.counters ∧ (testPathBand path s).timeBase = s.timeBase ∧
    (testPathBand path s).freeCount = s.freeCount ∧ (testPathBand path s).pending = s.pending := by
  unfold testPathBand
  try dsimp only
  repeat' split
  all_goals simp [forChannels, forMarked]

@[simp] theorem setHumidityBand_frame (b : Nat) (s : State) :
    (setHumidityBand b s).stc = s.stc ∧ (setHumidityBand b s).image = s.image ∧ (setHumidityBand b s).bus = s.bus ∧
    (setHumidityBand b s).peers = s.peers ∧ (setHumidityBand b s).selfRec = s.selfRec ∧
    (setHumidityBand b s).probe = s.probe ∧ (setHumidityBand b s).air = s.air ∧
    (setHumidityBand b s).solver = s.solver ∧ (setHumidityBand b s).delay = s.delay ∧
    (setHumidityBand b s).level = s.level ∧ (setHumidityBand b s).cue = s.cue ∧ (setHumidityBand b s).emc = s.emc ∧
    (setHumidityBand b s).counters = s.counters ∧ (setHumidityBand b s).timeBase = s.timeBase ∧
    (setHumidityBand b s).freeCount = s.freeCount ∧ (setHumidityBand b s).pending = s.pending := by
  unfold setHumidityBand
  try dsimp only
  repeat' split
  all_goals simp [forChannels, forMarked]

@[simp] theorem testHumidityBand_frame (h : Nat) (s : State) :
    (testHumidityBand h s).stc = s.stc ∧ (testHumidityBand h s).image = s.image ∧
    (testHumidityBand h s).bus = s.bus ∧ (testHumidityBand h s).peers = s.peers ∧
    (testHumidityBand h s).selfRec = s.selfRec ∧ (testHumidityBand h s).probe = s.probe ∧
    (testHumidityBand h s).air = s.air ∧ (testHumidityBand h s).solver = s.solver ∧
    (testHumidityBand h s).delay = s.delay ∧ (testHumidityBand h s).level = s.level ∧
    (testHumidityBand h s).cue = s.cue ∧ (testHumidityBand h s).emc = s.emc ∧
    (testHumidityBand h s).counters = s.counters ∧ (testHumidityBand h s).timeBase = s.timeBase ∧
    (testHumidityBand h s).freeCount = s.freeCount ∧ (testHumidityBand h s).pending = s.pending := by
  unfold testHumidityBand
  try dsimp only
  repeat' split
  all_goals simp [forChannels, forMarked]

/-! ### ProbeRound.lean -/

@[simp] theorem cancelWindows_frame (p : Nat → Bool) (s : State) :
    (cancelWindows p s).stc = s.stc ∧ (cancelWindows p s).image = s.image ∧ (cancelWindows p s).bus = s.bus ∧
    (cancelWindows p s).peers = s.peers ∧ (cancelWindows p s).selfRec = s.selfRec ∧
    (cancelWindows p s).air = s.air ∧ (cancelWindows p s).solver = s.solver ∧ (cancelWindows p s).delay = s.delay ∧
    (cancelWindows p s).level = s.level ∧ (cancelWindows p s).eq = s.eq ∧
    (cancelWindows p s).channels = s.channels ∧ (cancelWindows p s).cue = s.cue ∧ (cancelWindows p s).emc = s.emc ∧
    (cancelWindows p s).timeBase = s.timeBase ∧ (cancelWindows p s).freeCount = s.freeCount ∧
    (cancelWindows p s).pending = s.pending := by
  unfold cancelWindows
  try dsimp only
  all_goals simp [forChannels, forMarked]

@[simp] theorem cancelSelfWindow_frame (s : State) :
    (cancelSelfWindow s).stc = s.stc ∧ (cancelSelfWindow s).image = s.image ∧ (cancelSelfWindow s).bus = s.bus ∧
    (cancelSelfWindow s).peers = s.peers ∧ (cancelSelfWindow s).selfRec = s.selfRec ∧
    (cancelSelfWindow s).air = s.air ∧ (cancelSelfWindow s).solver = s.solver ∧
    (cancelSelfWindow s).delay = s.delay ∧ (cancelSelfWindow s).level = s.level ∧ (cancelSelfWindow s).eq = s.eq ∧
    (cancelSelfWindow s).channels = s.channels ∧ (cancelSelfWindow s).cue = s.cue ∧
    (cancelSelfWindow s).emc = s.emc ∧ (cancelSelfWindow s).timeBase = s.timeBase ∧
    (cancelSelfWindow s).freeCount = s.freeCount ∧ (cancelSelfWindow s).pending = s.pending := by
  unfold cancelSelfWindow
  try dsimp only
  all_goals simp [forChannels, forMarked]

@[simp] theorem abortRound_frame (conflict : Bool) (s : State) :
    (abortRound conflict s).stc = s.stc ∧ (abortRound conflict s).image = s.image ∧
    (abortRound conflict s).peers = s.peers ∧ (abortRound conflict s).selfRec = s.selfRec ∧
    (abortRound conflict s).air = s.air ∧ (abortRound conflict s).solver = s.solver ∧
    (abortRound conflict s).delay = s.delay ∧ (abortRound conflict s).level = s.level ∧
    (abortRound conflict s).eq = s.eq ∧ (abortRound conflict s).channels = s.channels ∧
    (abortRound conflict s).cue = s.cue ∧ (abortRound conflict s).emc = s.emc ∧
    (abortRound conflict s).timeBase = s.timeBase ∧ (abortRound conflict s).freeCount = s.freeCount ∧
    (abortRound conflict s).pending = s.pending := by
  unfold abortRound
  try dsimp only
  repeat' split
  all_goals simp [forChannels, forMarked]

@[simp] theorem enterMarking_frame (s : State) :
    (enterMarking s).stc = s.stc ∧ (enterMarking s).image = s.image ∧ (enterMarking s).peers = s.peers ∧
    (enterMarking s).selfRec = s.selfRec ∧ (enterMarking s).air = s.air ∧ (enterMarking s).solver = s.solver ∧
    (enterMarking s).delay = s.delay ∧ (enterMarking s).level = s.level ∧ (enterMarking s).eq = s.eq ∧
    (enterMarking s).channels = s.channels ∧ (enterMarking s).cue = s.cue ∧ (enterMarking s).emc = s.emc ∧
    (enterMarking s).timeBase = s.timeBase ∧ (enterMarking s).freeCount = s.freeCount ∧
    (enterMarking s).pending = s.pending := by
  unfold enterMarking
  try dsimp only
  all_goals simp [forChannels, forMarked]

@[simp] theorem probeFollows_frame (p : Power) (s : State) :
    (probeFollows p s).stc = s.stc ∧ (probeFollows p s).image = s.image ∧ (probeFollows p s).peers = s.peers ∧
    (probeFollows p s).selfRec = s.selfRec ∧ (probeFollows p s).air = s.air ∧ (probeFollows p s).solver = s.solver ∧
    (probeFollows p s).delay = s.delay ∧ (probeFollows p s).level = s.level ∧ (probeFollows p s).eq = s.eq ∧
    (probeFollows p s).channels = s.channels ∧ (probeFollows p s).cue = s.cue ∧ (probeFollows p s).emc = s.emc ∧
    (probeFollows p s).timeBase = s.timeBase ∧ (probeFollows p s).freeCount = s.freeCount ∧
    (probeFollows p s).pending = s.pending := by
  unfold probeFollows
  try dsimp only
  repeat' split
  all_goals simp [forChannels, forMarked]

/-! ### Power.lean -/

@[simp] theorem setPower_frame (c : Fin 4) (p : Power) (cause : Option FaultCause) (s : State) :
    (setPower c p cause s).stc = s.stc ∧ (setPower c p cause s).image = s.image ∧
    (setPower c p cause s).peers = s.peers ∧ (setPower c p cause s).selfRec = s.selfRec ∧
    (setPower c p cause s).air = s.air ∧ (setPower c p cause s).solver = s.solver ∧
    (setPower c p cause s).delay = s.delay ∧ (setPower c p cause s).level = s.level ∧
    (setPower c p cause s).eq = s.eq ∧ (setPower c p cause s).cue = s.cue ∧ (setPower c p cause s).emc = s.emc ∧
    (setPower c p cause s).timeBase = s.timeBase ∧ (setPower c p cause s).freeCount = s.freeCount ∧
    (setPower c p cause s).pending = s.pending := by
  unfold setPower
  try dsimp only
  repeat' split
  all_goals simp [forChannels, forMarked]

@[simp] theorem enterActive_frame (c : Fin 4) (s : State) :
    (enterActive c s).stc = s.stc ∧ (enterActive c s).image = s.image ∧ (enterActive c s).peers = s.peers ∧
    (enterActive c s).selfRec = s.selfRec ∧ (enterActive c s).air = s.air ∧ (enterActive c s).solver = s.solver ∧
    (enterActive c s).delay = s.delay ∧ (enterActive c s).level = s.level ∧ (enterActive c s).eq = s.eq ∧
    (enterActive c s).cue = s.cue ∧ (enterActive c s).emc = s.emc ∧ (enterActive c s).timeBase = s.timeBase ∧
    (enterActive c s).freeCount = s.freeCount ∧ (enterActive c s).pending = s.pending := by
  unfold enterActive
  try dsimp only
  repeat' split
  all_goals simp [forChannels, forMarked]

@[simp] theorem enterWaking_frame (c : Fin 4) (s : State) :
    (enterWaking c s).stc = s.stc ∧ (enterWaking c s).image = s.image ∧ (enterWaking c s).peers = s.peers ∧
    (enterWaking c s).selfRec = s.selfRec ∧ (enterWaking c s).air = s.air ∧ (enterWaking c s).solver = s.solver ∧
    (enterWaking c s).delay = s.delay ∧ (enterWaking c s).level = s.level ∧ (enterWaking c s).eq = s.eq ∧
    (enterWaking c s).cue = s.cue ∧ (enterWaking c s).emc = s.emc ∧ (enterWaking c s).timeBase = s.timeBase ∧
    (enterWaking c s).freeCount = s.freeCount ∧ (enterWaking c s).pending = s.pending := by
  unfold enterWaking
  try dsimp only
  repeat' split
  all_goals simp [forChannels, forMarked]

@[simp] theorem enterStandby_frame (c : Fin 4) (s : State) :
    (enterStandby c s).stc = s.stc ∧ (enterStandby c s).image = s.image ∧ (enterStandby c s).peers = s.peers ∧
    (enterStandby c s).selfRec = s.selfRec ∧ (enterStandby c s).air = s.air ∧ (enterStandby c s).solver = s.solver ∧
    (enterStandby c s).delay = s.delay ∧ (enterStandby c s).level = s.level ∧ (enterStandby c s).eq = s.eq ∧
    (enterStandby c s).cue = s.cue ∧ (enterStandby c s).emc = s.emc ∧ (enterStandby c s).timeBase = s.timeBase ∧
    (enterStandby c s).freeCount = s.freeCount ∧ (enterStandby c s).pending = s.pending := by
  unfold enterStandby
  try dsimp only
  repeat' split
  all_goals simp [forChannels, forMarked]

@[simp] theorem actOnSilence_frame (c : Fin 4) (s : State) :
    (actOnSilence c s).stc = s.stc ∧ (actOnSilence c s).image = s.image ∧ (actOnSilence c s).peers = s.peers ∧
    (actOnSilence c s).selfRec = s.selfRec ∧ (actOnSilence c s).air = s.air ∧ (actOnSilence c s).solver = s.solver ∧
    (actOnSilence c s).delay = s.delay ∧ (actOnSilence c s).level = s.level ∧ (actOnSilence c s).eq = s.eq ∧
    (actOnSilence c s).cue = s.cue ∧ (actOnSilence c s).emc = s.emc ∧ (actOnSilence c s).timeBase = s.timeBase ∧
    (actOnSilence c s).freeCount = s.freeCount ∧ (actOnSilence c s).pending = s.pending := by
  unfold actOnSilence
  try dsimp only
  repeat' split
  all_goals simp [forChannels, forMarked]

@[simp] theorem retargetAndAct_frame (c : Fin 4) (s : State) :
    (retargetAndAct c s).stc = s.stc ∧ (retargetAndAct c s).image = s.image ∧ (retargetAndAct c s).peers = s.peers ∧
    (retargetAndAct c s).selfRec = s.selfRec ∧ (retargetAndAct c s).air = s.air ∧
    (retargetAndAct c s).solver = s.solver ∧ (retargetAndAct c s).delay = s.delay ∧
    (retargetAndAct c s).level = s.level ∧ (retargetAndAct c s).eq = s.eq ∧ (retargetAndAct c s).cue = s.cue ∧
    (retargetAndAct c s).emc = s.emc ∧ (retargetAndAct c s).timeBase = s.timeBase ∧
    (retargetAndAct c s).freeCount = s.freeCount ∧ (retargetAndAct c s).pending = s.pending := by
  unfold retargetAndAct
  try dsimp only
  all_goals simp [forChannels, forMarked]

@[simp] theorem setJudgement_frame (present : Bool) (s : State) :
    (setJudgement present s).stc = s.stc ∧ (setJudgement present s).image = s.image ∧
    (setJudgement present s).peers = s.peers ∧ (setJudgement present s).selfRec = s.selfRec ∧
    (setJudgement present s).air = s.air ∧ (setJudgement present s).solver = s.solver ∧
    (setJudgement present s).delay = s.delay ∧ (setJudgement present s).eq = s.eq ∧
    (setJudgement present s).cue = s.cue ∧ (setJudgement present s).emc = s.emc ∧
    (setJudgement present s).timeBase = s.timeBase ∧ (setJudgement present s).freeCount = s.freeCount ∧
    (setJudgement present s).pending = s.pending := by
  unfold setJudgement
  try dsimp only
  repeat' split
  all_goals simp [forChannels, forMarked]

@[simp] theorem sleepChannel_frame (c : Fin 4) (s : State) :
    (sleepChannel c s).stc = s.stc ∧ (sleepChannel c s).image = s.image ∧ (sleepChannel c s).peers = s.peers ∧
    (sleepChannel c s).selfRec = s.selfRec ∧ (sleepChannel c s).air = s.air ∧ (sleepChannel c s).solver = s.solver ∧
    (sleepChannel c s).delay = s.delay ∧ (sleepChannel c s).level = s.level ∧ (sleepChannel c s).eq = s.eq ∧
    (sleepChannel c s).cue = s.cue ∧ (sleepChannel c s).emc = s.emc ∧ (sleepChannel c s).timeBase = s.timeBase ∧
    (sleepChannel c s).freeCount = s.freeCount ∧ (sleepChannel c s).pending = s.pending := by
  unfold sleepChannel
  try dsimp only
  repeat' split
  all_goals simp [forChannels, forMarked]

@[simp] theorem wakeChannel_frame (c : Fin 4) (s : State) :
    (wakeChannel c s).stc = s.stc ∧ (wakeChannel c s).image = s.image ∧ (wakeChannel c s).peers = s.peers ∧
    (wakeChannel c s).selfRec = s.selfRec ∧ (wakeChannel c s).air = s.air ∧ (wakeChannel c s).solver = s.solver ∧
    (wakeChannel c s).delay = s.delay ∧ (wakeChannel c s).level = s.level ∧ (wakeChannel c s).eq = s.eq ∧
    (wakeChannel c s).cue = s.cue ∧ (wakeChannel c s).emc = s.emc ∧ (wakeChannel c s).timeBase = s.timeBase ∧
    (wakeChannel c s).freeCount = s.freeCount ∧ (wakeChannel c s).pending = s.pending := by
  unfold wakeChannel
  try dsimp only
  repeat' split
  all_goals simp [forChannels, forMarked]

@[simp] theorem releaseChannel_frame (c : Fin 4) (s : State) :
    (releaseChannel c s).stc = s.stc ∧ (releaseChannel c s).image = s.image ∧ (releaseChannel c s).peers = s.peers ∧
    (releaseChannel c s).selfRec = s.selfRec ∧ (releaseChannel c s).air = s.air ∧
    (releaseChannel c s).solver = s.solver ∧ (releaseChannel c s).delay = s.delay ∧
    (releaseChannel c s).level = s.level ∧ (releaseChannel c s).eq = s.eq ∧ (releaseChannel c s).cue = s.cue ∧
    (releaseChannel c s).emc = s.emc ∧ (releaseChannel c s).timeBase = s.timeBase ∧
    (releaseChannel c s).freeCount = s.freeCount ∧ (releaseChannel c s).pending = s.pending := by
  unfold releaseChannel
  try dsimp only
  repeat' split
  all_goals simp [forChannels, forMarked]

@[simp] theorem emergencyChannel_frame (c : Fin 4) (s : State) :
    (emergencyChannel c s).stc = s.stc ∧ (emergencyChannel c s).image = s.image ∧
    (emergencyChannel c s).peers = s.peers ∧ (emergencyChannel c s).selfRec = s.selfRec ∧
    (emergencyChannel c s).air = s.air ∧ (emergencyChannel c s).solver = s.solver ∧
    (emergencyChannel c s).delay = s.delay ∧ (emergencyChannel c s).level = s.level ∧
    (emergencyChannel c s).eq = s.eq ∧ (emergencyChannel c s).cue = s.cue ∧ (emergencyChannel c s).emc = s.emc ∧
    (emergencyChannel c s).timeBase = s.timeBase ∧ (emergencyChannel c s).freeCount = s.freeCount ∧
    (emergencyChannel c s).pending = s.pending := by
  unfold emergencyChannel
  try dsimp only
  repeat' split
  all_goals simp [forChannels, forMarked]

@[simp] theorem exitChannel_frame (c : Fin 4) (s : State) :
    (exitChannel c s).stc = s.stc ∧ (exitChannel c s).image = s.image ∧ (exitChannel c s).peers = s.peers ∧
    (exitChannel c s).selfRec = s.selfRec ∧ (exitChannel c s).air = s.air ∧ (exitChannel c s).solver = s.solver ∧
    (exitChannel c s).delay = s.delay ∧ (exitChannel c s).level = s.level ∧ (exitChannel c s).eq = s.eq ∧
    (exitChannel c s).cue = s.cue ∧ (exitChannel c s).emc = s.emc ∧ (exitChannel c s).timeBase = s.timeBase ∧
    (exitChannel c s).freeCount = s.freeCount ∧ (exitChannel c s).pending = s.pending := by
  unfold exitChannel
  try dsimp only
  repeat' split
  all_goals simp [forChannels, forMarked]

@[simp] theorem powerEmergencyEntry_frame (s : State) :
    (powerEmergencyEntry s).stc = s.stc ∧ (powerEmergencyEntry s).image = s.image ∧
    (powerEmergencyEntry s).peers = s.peers ∧ (powerEmergencyEntry s).selfRec = s.selfRec ∧
    (powerEmergencyEntry s).air = s.air ∧ (powerEmergencyEntry s).solver = s.solver ∧
    (powerEmergencyEntry s).delay = s.delay ∧ (powerEmergencyEntry s).level = s.level ∧
    (powerEmergencyEntry s).eq = s.eq ∧ (powerEmergencyEntry s).cue = s.cue ∧ (powerEmergencyEntry s).emc = s.emc ∧
    (powerEmergencyEntry s).timeBase = s.timeBase ∧ (powerEmergencyEntry s).freeCount = s.freeCount ∧
    (powerEmergencyEntry s).pending = s.pending := by
  unfold powerEmergencyEntry
  try dsimp only
  repeat' split
  all_goals simp [forChannels, forMarked]

@[simp] theorem powerEmergencyExit_frame (s : State) :
    (powerEmergencyExit s).stc = s.stc ∧ (powerEmergencyExit s).image = s.image ∧
    (powerEmergencyExit s).peers = s.peers ∧ (powerEmergencyExit s).selfRec = s.selfRec ∧
    (powerEmergencyExit s).air = s.air ∧ (powerEmergencyExit s).solver = s.solver ∧
    (powerEmergencyExit s).delay = s.delay ∧ (powerEmergencyExit s).level = s.level ∧
    (powerEmergencyExit s).eq = s.eq ∧ (powerEmergencyExit s).cue = s.cue ∧ (powerEmergencyExit s).emc = s.emc ∧
    (powerEmergencyExit s).timeBase = s.timeBase ∧ (powerEmergencyExit s).freeCount = s.freeCount ∧
    (powerEmergencyExit s).pending = s.pending := by
  unfold powerEmergencyExit
  try dsimp only
  repeat' split
  all_goals simp [forChannels, forMarked]

/-! ### Solver.lean -/

@[simp] theorem setDelayTarget_frame (d : Nat) (s : State) :
    (setDelayTarget d s).stc = s.stc ∧ (setDelayTarget d s).image = s.image ∧ (setDelayTarget d s).bus = s.bus ∧
    (setDelayTarget d s).peers = s.peers ∧ (setDelayTarget d s).selfRec = s.selfRec ∧
    (setDelayTarget d s).probe = s.probe ∧ (setDelayTarget d s).air = s.air ∧ (setDelayTarget d s).delay = s.delay ∧
    (setDelayTarget d s).level = s.level ∧ (setDelayTarget d s).eq = s.eq ∧ (setDelayTarget d s).cue = s.cue ∧
    (setDelayTarget d s).emc = s.emc ∧ (setDelayTarget d s).counters = s.counters ∧
    (setDelayTarget d s).timeBase = s.timeBase ∧ (setDelayTarget d s).freeCount = s.freeCount ∧
    (setDelayTarget d s).pending = s.pending := by
  unfold setDelayTarget
  try dsimp only
  repeat' split
  all_goals simp [forChannels, forMarked]

@[simp] theorem setPathTime_frame (p : Nat) (s : State) :
    (setPathTime p s).stc = s.stc ∧ (setPathTime p s).image = s.image ∧ (setPathTime p s).bus = s.bus ∧
    (setPathTime p s).peers = s.peers ∧ (setPathTime p s).selfRec = s.selfRec ∧ (setPathTime p s).probe = s.probe ∧
    (setPathTime p s).air = s.air ∧ (setPathTime p s).delay = s.delay ∧ (setPathTime p s).level = s.level ∧
    (setPathTime p s).cue = s.cue ∧ (setPathTime p s).emc = s.emc ∧ (setPathTime p s).counters = s.counters ∧
    (setPathTime p s).timeBase = s.timeBase ∧ (setPathTime p s).freeCount = s.freeCount ∧
    (setPathTime p s).pending = s.pending := by
  unfold setPathTime
  try dsimp only
  repeat' split
  all_goals simp [forChannels, forMarked]

@[simp] theorem setFreeze_frame (cue emergency : Bool) (s : State) :
    (setFreeze cue emergency s).stc = s.stc ∧ (setFreeze cue emergency s).image = s.image ∧
    (setFreeze cue emergency s).bus = s.bus ∧ (setFreeze cue emergency s).peers = s.peers ∧
    (setFreeze cue emergency s).selfRec = s.selfRec ∧ (setFreeze cue emergency s).probe = s.probe ∧
    (setFreeze cue emergency s).air = s.air ∧ (setFreeze cue emergency s).delay = s.delay ∧
    (setFreeze cue emergency s).level = s.level ∧ (setFreeze cue emergency s).eq = s.eq ∧
    (setFreeze cue emergency s).channels = s.channels ∧ (setFreeze cue emergency s).cue = s.cue ∧
    (setFreeze cue emergency s).emc = s.emc ∧ (setFreeze cue emergency s).counters = s.counters ∧
    (setFreeze cue emergency s).timeBase = s.timeBase ∧ (setFreeze cue emergency s).freeCount = s.freeCount ∧
    (setFreeze cue emergency s).pending = s.pending := by
  unfold setFreeze
  try dsimp only
  all_goals simp [forChannels, forMarked]

@[simp] theorem computePass_frame (s : State) :
    (computePass s).stc = s.stc ∧ (computePass s).image = s.image ∧ (computePass s).bus = s.bus ∧
    (computePass s).selfRec = s.selfRec ∧ (computePass s).probe = s.probe ∧ (computePass s).air = s.air ∧
    (computePass s).delay = s.delay ∧ (computePass s).level = s.level ∧ (computePass s).eq = s.eq ∧
    (computePass s).channels = s.channels ∧ (computePass s).cue = s.cue ∧ (computePass s).emc = s.emc ∧
    (computePass s).counters = s.counters ∧ (computePass s).timeBase = s.timeBase ∧
    (computePass s).freeCount = s.freeCount ∧ (computePass s).pending = s.pending := by
  unfold computePass
  try dsimp only
  all_goals simp [forChannels, forMarked]

@[simp] theorem applyWinner_frame (c : Candidate) (s : State) :
    (applyWinner c s).stc = s.stc ∧ (applyWinner c s).image = s.image ∧ (applyWinner c s).bus = s.bus ∧
    (applyWinner c s).peers = s.peers ∧ (applyWinner c s).selfRec = s.selfRec ∧ (applyWinner c s).probe = s.probe ∧
    (applyWinner c s).air = s.air ∧ (applyWinner c s).delay = s.delay ∧ (applyWinner c s).level = s.level ∧
    (applyWinner c s).cue = s.cue ∧ (applyWinner c s).emc = s.emc ∧ (applyWinner c s).counters = s.counters ∧
    (applyWinner c s).timeBase = s.timeBase ∧ (applyWinner c s).freeCount = s.freeCount ∧
    (applyWinner c s).pending = s.pending := by
  unfold applyWinner
  try dsimp only
  all_goals simp [forChannels, forMarked]

@[simp] theorem applyNone_frame (s : State) :
    (applyNone s).stc = s.stc ∧ (applyNone s).image = s.image ∧ (applyNone s).bus = s.bus ∧
    (applyNone s).peers = s.peers ∧ (applyNone s).selfRec = s.selfRec ∧ (applyNone s).probe = s.probe ∧
    (applyNone s).air = s.air ∧ (applyNone s).delay = s.delay ∧ (applyNone s).level = s.level ∧
    (applyNone s).eq = s.eq ∧ (applyNone s).channels = s.channels ∧ (applyNone s).cue = s.cue ∧
    (applyNone s).emc = s.emc ∧ (applyNone s).counters = s.counters ∧ (applyNone s).timeBase = s.timeBase ∧
    (applyNone s).freeCount = s.freeCount ∧ (applyNone s).pending = s.pending := by
  unfold applyNone
  try dsimp only
  repeat' split
  all_goals simp [forChannels, forMarked]

@[simp] theorem solvePass_frame (s : State) :
    (solvePass s).stc = s.stc ∧ (solvePass s).image = s.image ∧ (solvePass s).bus = s.bus ∧
    (solvePass s).selfRec = s.selfRec ∧ (solvePass s).probe = s.probe ∧ (solvePass s).air = s.air ∧
    (solvePass s).delay = s.delay ∧ (solvePass s).level = s.level ∧ (solvePass s).cue = s.cue ∧
    (solvePass s).emc = s.emc ∧ (solvePass s).counters = s.counters ∧ (solvePass s).timeBase = s.timeBase ∧
    (solvePass s).freeCount = s.freeCount ∧ (solvePass s).pending = s.pending := by
  unfold solvePass
  try dsimp only
  repeat' split
  all_goals simp [forChannels, forMarked]

@[simp] theorem solverSetup_frame (s : State) :
    (solverSetup s).stc = s.stc ∧ (solverSetup s).image = s.image ∧ (solverSetup s).bus = s.bus ∧
    (solverSetup s).peers = s.peers ∧ (solverSetup s).selfRec = s.selfRec ∧ (solverSetup s).probe = s.probe ∧
    (solverSetup s).air = s.air ∧ (solverSetup s).delay = s.delay ∧ (solverSetup s).level = s.level ∧
    (solverSetup s).cue = s.cue ∧ (solverSetup s).emc = s.emc ∧ (solverSetup s).counters = s.counters ∧
    (solverSetup s).timeBase = s.timeBase ∧ (solverSetup s).freeCount = s.freeCount ∧
    (solverSetup s).pending = s.pending := by
  unfold solverSetup
  try dsimp only
  repeat' split
  all_goals simp [forChannels, forMarked]

@[simp] theorem holdExpired_frame (s : State) :
    (holdExpired s).stc = s.stc ∧ (holdExpired s).image = s.image ∧ (holdExpired s).bus = s.bus ∧
    (holdExpired s).peers = s.peers ∧ (holdExpired s).selfRec = s.selfRec ∧ (holdExpired s).probe = s.probe ∧
    (holdExpired s).air = s.air ∧ (holdExpired s).delay = s.delay ∧ (holdExpired s).level = s.level ∧
    (holdExpired s).cue = s.cue ∧ (holdExpired s).emc = s.emc ∧ (holdExpired s).counters = s.counters ∧
    (holdExpired s).timeBase = s.timeBase ∧ (holdExpired s).freeCount = s.freeCount ∧
    (holdExpired s).pending = s.pending := by
  unfold holdExpired
  try dsimp only
  all_goals simp [forChannels, forMarked]

/-! ### AirData.lean -/

@[simp] theorem temperatureTrigger_frame (s : State) :
    (temperatureTrigger s).stc = s.stc ∧ (temperatureTrigger s).image = s.image ∧
    (temperatureTrigger s).bus = s.bus ∧ (temperatureTrigger s).peers = s.peers ∧
    (temperatureTrigger s).selfRec = s.selfRec ∧ (temperatureTrigger s).probe = s.probe ∧
    (temperatureTrigger s).air = s.air ∧ (temperatureTrigger s).delay = s.delay ∧
    (temperatureTrigger s).level = s.level ∧ (temperatureTrigger s).eq = s.eq ∧
    (temperatureTrigger s).channels = s.channels ∧ (temperatureTrigger s).cue = s.cue ∧
    (temperatureTrigger s).emc = s.emc ∧ (temperatureTrigger s).counters = s.counters ∧
    (temperatureTrigger s).timeBase = s.timeBase ∧ (temperatureTrigger s).freeCount = s.freeCount ∧
    (temperatureTrigger s).pending = s.pending := by
  unfold temperatureTrigger
  try dsimp only
  repeat' split
  all_goals simp [forChannels, forMarked]

@[simp] theorem setTemperature_frame (t : Int) (s : State) :
    (setTemperature t s).stc = s.stc ∧ (setTemperature t s).image = s.image ∧ (setTemperature t s).bus = s.bus ∧
    (setTemperature t s).peers = s.peers ∧ (setTemperature t s).selfRec = s.selfRec ∧
    (setTemperature t s).probe = s.probe ∧ (setTemperature t s).delay = s.delay ∧
    (setTemperature t s).level = s.level ∧ (setTemperature t s).eq = s.eq ∧
    (setTemperature t s).channels = s.channels ∧ (setTemperature t s).cue = s.cue ∧
    (setTemperature t s).emc = s.emc ∧ (setTemperature t s).counters = s.counters ∧
    (setTemperature t s).timeBase = s.timeBase ∧ (setTemperature t s).freeCount = s.freeCount ∧
    (setTemperature t s).pending = s.pending := by
  unfold setTemperature
  try dsimp only
  repeat' split
  all_goals simp [forChannels, forMarked]

@[simp] theorem takeGoodReply_frame (temperature : Int) (humidity : Nat) (s : State) :
    (takeGoodReply temperature humidity s).stc = s.stc ∧ (takeGoodReply temperature humidity s).image = s.image ∧
    (takeGoodReply temperature humidity s).bus = s.bus ∧ (takeGoodReply temperature humidity s).peers = s.peers ∧
    (takeGoodReply temperature humidity s).selfRec = s.selfRec ∧
    (takeGoodReply temperature humidity s).probe = s.probe ∧
    (takeGoodReply temperature humidity s).delay = s.delay ∧
    (takeGoodReply temperature humidity s).level = s.level ∧ (takeGoodReply temperature humidity s).cue = s.cue ∧
    (takeGoodReply temperature humidity s).emc = s.emc ∧
    (takeGoodReply temperature humidity s).counters = s.counters ∧
    (takeGoodReply temperature humidity s).timeBase = s.timeBase ∧
    (takeGoodReply temperature humidity s).freeCount = s.freeCount ∧
    (takeGoodReply temperature humidity s).pending = s.pending := by
  unfold takeGoodReply
  try dsimp only
  repeat' split
  all_goals simp [forChannels, forMarked]

@[simp] theorem takeAirMiss_frame (s : State) :
    (takeAirMiss s).stc = s.stc ∧ (takeAirMiss s).image = s.image ∧ (takeAirMiss s).bus = s.bus ∧
    (takeAirMiss s).peers = s.peers ∧ (takeAirMiss s).selfRec = s.selfRec ∧ (takeAirMiss s).probe = s.probe ∧
    (takeAirMiss s).delay = s.delay ∧ (takeAirMiss s).level = s.level ∧ (takeAirMiss s).cue = s.cue ∧
    (takeAirMiss s).emc = s.emc ∧ (takeAirMiss s).counters = s.counters ∧ (takeAirMiss s).timeBase = s.timeBase ∧
    (takeAirMiss s).freeCount = s.freeCount ∧ (takeAirMiss s).pending = s.pending := by
  unfold takeAirMiss
  try dsimp only
  repeat' split
  all_goals simp [forChannels, forMarked]

@[simp] theorem sendAirRequest_frame (s : State) :
    (sendAirRequest s).stc = s.stc ∧ (sendAirRequest s).image = s.image ∧ (sendAirRequest s).bus = s.bus ∧
    (sendAirRequest s).peers = s.peers ∧ (sendAirRequest s).selfRec = s.selfRec ∧
    (sendAirRequest s).probe = s.probe ∧ (sendAirRequest s).solver = s.solver ∧ (sendAirRequest s).delay = s.delay ∧
    (sendAirRequest s).level = s.level ∧ (sendAirRequest s).eq = s.eq ∧ (sendAirRequest s).channels = s.channels ∧
    (sendAirRequest s).cue = s.cue ∧ (sendAirRequest s).emc = s.emc ∧ (sendAirRequest s).counters = s.counters ∧
    (sendAirRequest s).timeBase = s.timeBase ∧ (sendAirRequest s).freeCount = s.freeCount ∧
    (sendAirRequest s).pending = s.pending := by
  unfold sendAirRequest
  try dsimp only
  repeat' split
  all_goals simp [forChannels, forMarked]

/-! ### Probing.lean -/

@[simp] theorem setSlot_frame (i : Fin 2) (slot : Slot) (s : State) :
    (setSlot i slot s).stc = s.stc ∧ (setSlot i slot s).image = s.image ∧ (setSlot i slot s).bus = s.bus ∧
    (setSlot i slot s).peers = s.peers ∧ (setSlot i slot s).selfRec = s.selfRec ∧ (setSlot i slot s).air = s.air ∧
    (setSlot i slot s).solver = s.solver ∧ (setSlot i slot s).delay = s.delay ∧ (setSlot i slot s).level = s.level ∧
    (setSlot i slot s).eq = s.eq ∧ (setSlot i slot s).channels = s.channels ∧ (setSlot i slot s).cue = s.cue ∧
    (setSlot i slot s).emc = s.emc ∧ (setSlot i slot s).counters = s.counters ∧
    (setSlot i slot s).timeBase = s.timeBase ∧ (setSlot i slot s).freeCount = s.freeCount ∧
    (setSlot i slot s).pending = s.pending := by
  unfold setSlot
  try dsimp only
  all_goals simp [forChannels, forMarked]

@[simp] theorem startRound_frame (s : State) :
    (startRound s).stc = s.stc ∧ (startRound s).image = s.image ∧ (startRound s).peers = s.peers ∧
    (startRound s).selfRec = s.selfRec ∧ (startRound s).air = s.air ∧ (startRound s).solver = s.solver ∧
    (startRound s).delay = s.delay ∧ (startRound s).level = s.level ∧ (startRound s).eq = s.eq ∧
    (startRound s).cue = s.cue ∧ (startRound s).emc = s.emc ∧ (startRound s).timeBase = s.timeBase ∧
    (startRound s).freeCount = s.freeCount ∧ (startRound s).pending = s.pending := by
  unfold startRound
  try dsimp only
  repeat' split
  all_goals simp [forChannels, forMarked]

@[simp] theorem probeAction_frame (s : State) :
    (probeAction s).stc = s.stc ∧ (probeAction s).image = s.image ∧ (probeAction s).peers = s.peers ∧
    (probeAction s).selfRec = s.selfRec ∧ (probeAction s).air = s.air ∧ (probeAction s).solver = s.solver ∧
    (probeAction s).delay = s.delay ∧ (probeAction s).level = s.level ∧ (probeAction s).eq = s.eq ∧
    (probeAction s).cue = s.cue ∧ (probeAction s).emc = s.emc ∧ (probeAction s).timeBase = s.timeBase ∧
    (probeAction s).freeCount = s.freeCount ∧ (probeAction s).pending = s.pending := by
  unfold probeAction
  try dsimp only
  repeat' split
  all_goals simp [forChannels, forMarked]

@[simp] theorem ownEndOfMark_frame (stamp : Instant) (s : State) :
    (ownEndOfMark stamp s).stc = s.stc ∧ (ownEndOfMark stamp s).image = s.image ∧
    (ownEndOfMark stamp s).bus = s.bus ∧ (ownEndOfMark stamp s).peers = s.peers ∧
    (ownEndOfMark stamp s).selfRec = s.selfRec ∧ (ownEndOfMark stamp s).air = s.air ∧
    (ownEndOfMark stamp s).solver = s.solver ∧ (ownEndOfMark stamp s).delay = s.delay ∧
    (ownEndOfMark stamp s).level = s.level ∧ (ownEndOfMark stamp s).eq = s.eq ∧
    (ownEndOfMark stamp s).channels = s.channels ∧ (ownEndOfMark stamp s).cue = s.cue ∧
    (ownEndOfMark stamp s).emc = s.emc ∧ (ownEndOfMark stamp s).timeBase = s.timeBase ∧
    (ownEndOfMark stamp s).freeCount = s.freeCount ∧ (ownEndOfMark stamp s).pending = s.pending := by
  unfold ownEndOfMark
  try dsimp only
  repeat' split
  all_goals simp [forChannels, forMarked]

@[simp] theorem endEmission_frame (s : State) :
    (endEmission s).stc = s.stc ∧ (endEmission s).image = s.image ∧ (endEmission s).bus = s.bus ∧
    (endEmission s).peers = s.peers ∧ (endEmission s).selfRec = s.selfRec ∧ (endEmission s).air = s.air ∧
    (endEmission s).solver = s.solver ∧ (endEmission s).delay = s.delay ∧ (endEmission s).level = s.level ∧
    (endEmission s).eq = s.eq ∧ (endEmission s).channels = s.channels ∧ (endEmission s).cue = s.cue ∧
    (endEmission s).emc = s.emc ∧ (endEmission s).counters = s.counters ∧ (endEmission s).timeBase = s.timeBase ∧
    (endEmission s).freeCount = s.freeCount ∧ (endEmission s).pending = s.pending := by
  unfold endEmission
  try dsimp only
  all_goals simp [forChannels, forMarked]

@[simp] theorem takeMark_frame (station : Nat) (stamp : Instant) (s : State) :
    (takeMark station stamp s).stc = s.stc ∧ (takeMark station stamp s).image = s.image ∧
    (takeMark station stamp s).bus = s.bus ∧ (takeMark station stamp s).selfRec = s.selfRec ∧
    (takeMark station stamp s).air = s.air ∧ (takeMark station stamp s).solver = s.solver ∧
    (takeMark station stamp s).delay = s.delay ∧ (takeMark station stamp s).level = s.level ∧
    (takeMark station stamp s).eq = s.eq ∧ (takeMark station stamp s).channels = s.channels ∧
    (takeMark station stamp s).cue = s.cue ∧ (takeMark station stamp s).emc = s.emc ∧
    (takeMark station stamp s).timeBase = s.timeBase ∧ (takeMark station stamp s).freeCount = s.freeCount ∧
    (takeMark station stamp s).pending = s.pending := by
  unfold takeMark
  try dsimp only
  repeat' split
  all_goals simp [forChannels, forMarked]

@[simp] theorem deliverResult_frame (owner : Nat) (r : FlightResult) (s : State) :
    (deliverResult owner r s).stc = s.stc ∧ (deliverResult owner r s).image = s.image ∧
    (deliverResult owner r s).bus = s.bus ∧ (deliverResult owner r s).probe = s.probe ∧
    (deliverResult owner r s).air = s.air ∧ (deliverResult owner r s).delay = s.delay ∧
    (deliverResult owner r s).level = s.level ∧ (deliverResult owner r s).eq = s.eq ∧
    (deliverResult owner r s).channels = s.channels ∧ (deliverResult owner r s).cue = s.cue ∧
    (deliverResult owner r s).emc = s.emc ∧ (deliverResult owner r s).timeBase = s.timeBase ∧
    (deliverResult owner r s).freeCount = s.freeCount ∧ (deliverResult owner r s).pending = s.pending := by
  unfold deliverResult
  try dsimp only
  repeat' split
  all_goals simp [forChannels, forMarked]

/-! ### Cues.lean -/

@[simp] theorem endList_frame (cue position : Nat) (ending : Ending) (s : State) :
    (endList cue position ending s).stc = s.stc ∧ (endList cue position ending s).image = s.image ∧
    (endList cue position ending s).bus = s.bus ∧ (endList cue position ending s).peers = s.peers ∧
    (endList cue position ending s).selfRec = s.selfRec ∧ (endList cue position ending s).probe = s.probe ∧
    (endList cue position ending s).air = s.air ∧ (endList cue position ending s).solver = s.solver ∧
    (endList cue position ending s).delay = s.delay ∧ (endList cue position ending s).level = s.level ∧
    (endList cue position ending s).eq = s.eq ∧ (endList cue position ending s).channels = s.channels ∧
    (endList cue position ending s).emc = s.emc ∧ (endList cue position ending s).counters = s.counters ∧
    (endList cue position ending s).timeBase = s.timeBase ∧
    (endList cue position ending s).freeCount = s.freeCount ∧ (endList cue position ending s).pending = s.pending := by
  unfold endList
  try dsimp only
  all_goals simp [forChannels, forMarked]

@[simp] theorem recordCue_frame (source : Nat) (number : Byte) (outcome : CueOutcome) (s : State) :
    (recordCue source number outcome s).stc = s.stc ∧ (recordCue source number outcome s).image = s.image ∧
    (recordCue source number outcome s).bus = s.bus ∧ (recordCue source number outcome s).peers = s.peers ∧
    (recordCue source number outcome s).selfRec = s.selfRec ∧ (recordCue source number outcome s).probe = s.probe ∧
    (recordCue source number outcome s).air = s.air ∧ (recordCue source number outcome s).solver = s.solver ∧
    (recordCue source number outcome s).delay = s.delay ∧ (recordCue source number outcome s).level = s.level ∧
    (recordCue source number outcome s).eq = s.eq ∧ (recordCue source number outcome s).channels = s.channels ∧
    (recordCue source number outcome s).emc = s.emc ∧ (recordCue source number outcome s).counters = s.counters ∧
    (recordCue source number outcome s).timeBase = s.timeBase ∧
    (recordCue source number outcome s).freeCount = s.freeCount ∧
    (recordCue source number outcome s).pending = s.pending := by
  unfold recordCue
  try dsimp only
  all_goals simp [forChannels, forMarked]

@[simp] theorem offsetAction_frame (value : Nat) (s : State) :
    (offsetAction value s).stc = s.stc ∧ (offsetAction value s).image = s.image ∧
    (offsetAction value s).bus = s.bus ∧ (offsetAction value s).peers = s.peers ∧
    (offsetAction value s).selfRec = s.selfRec ∧ (offsetAction value s).probe = s.probe ∧
    (offsetAction value s).air = s.air ∧ (offsetAction value s).delay = s.delay ∧
    (offsetAction value s).level = s.level ∧ (offsetAction value s).eq = s.eq ∧
    (offsetAction value s).channels = s.channels ∧ (offsetAction value s).cue = s.cue ∧
    (offsetAction value s).emc = s.emc ∧ (offsetAction value s).counters = s.counters ∧
    (offsetAction value s).timeBase = s.timeBase ∧ (offsetAction value s).freeCount = s.freeCount ∧
    (offsetAction value s).pending = s.pending := by
  unfold offsetAction
  try dsimp only
  all_goals simp [forChannels, forMarked]

@[simp] theorem thawAction_frame (s : State) :
    (thawAction s).stc = s.stc ∧ (thawAction s).image = s.image ∧ (thawAction s).bus = s.bus ∧
    (thawAction s).peers = s.peers ∧ (thawAction s).selfRec = s.selfRec ∧ (thawAction s).probe = s.probe ∧
    (thawAction s).air = s.air ∧ (thawAction s).delay = s.delay ∧ (thawAction s).level = s.level ∧
    (thawAction s).eq = s.eq ∧ (thawAction s).channels = s.channels ∧ (thawAction s).cue = s.cue ∧
    (thawAction s).emc = s.emc ∧ (thawAction s).counters = s.counters ∧ (thawAction s).timeBase = s.timeBase ∧
    (thawAction s).freeCount = s.freeCount ∧ (thawAction s).pending = s.pending := by
  unfold thawAction
  try dsimp only
  all_goals simp [forChannels, forMarked]

/-- An operation over marked channels keeps what it keeps at each. -/
theorem forMarked_keeps {α : Type} (p : State → α) (m : BitVec 4) (f : Fin 4 → State → State)
    (h : ∀ c s, p (f c s) = p s) (s : State) : p (forMarked m f s) = p s := by
  have g : ∀ (c : Fin 4) (s : State), p (if m.getLsbD c then f c s else s) = p s := by
    intro c s; split <;> simp [h]
  simp only [forMarked, forChannels, g]

@[simp] theorem performAction_frame (a : Action) (s : State) :
    (performAction a s).stc = s.stc ∧ (performAction a s).image = s.image ∧ (performAction a s).peers = s.peers ∧
    (performAction a s).selfRec = s.selfRec ∧ (performAction a s).air = s.air ∧
    (performAction a s).delay = s.delay ∧ (performAction a s).level = s.level ∧ (performAction a s).eq = s.eq ∧
    (performAction a s).cue = s.cue ∧ (performAction a s).emc = s.emc ∧ (performAction a s).timeBase = s.timeBase ∧
    (performAction a s).freeCount = s.freeCount ∧ (performAction a s).pending = s.pending := by
  cases a
  all_goals first
    | exact ⟨forMarked_keeps State.stc _ _ (by simp) s, forMarked_keeps State.image _ _ (by simp) s, forMarked_keeps State.peers _ _ (by simp) s, forMarked_keeps State.selfRec _ _ (by simp) s, forMarked_keeps State.air _ _ (by simp) s, forMarked_keeps State.delay _ _ (by simp) s, forMarked_keeps State.level _ _ (by simp) s, forMarked_keeps State.eq _ _ (by simp) s, forMarked_keeps State.cue _ _ (by simp) s, forMarked_keeps State.emc _ _ (by simp) s, forMarked_keeps State.timeBase _ _ (by simp) s, forMarked_keeps State.freeCount _ _ (by simp) s, forMarked_keeps State.pending _ _ (by simp) s⟩
    | simp [performAction]

@[simp] theorem advanceList_frame (c : ListContext) (a : Action) (s : State) :
    (advanceList c a s).stc = s.stc ∧ (advanceList c a s).image = s.image ∧ (advanceList c a s).bus = s.bus ∧
    (advanceList c a s).peers = s.peers ∧ (advanceList c a s).selfRec = s.selfRec ∧
    (advanceList c a s).probe = s.probe ∧ (advanceList c a s).air = s.air ∧ (advanceList c a s).solver = s.solver ∧
    (advanceList c a s).delay = s.delay ∧ (advanceList c a s).level = s.level ∧ (advanceList c a s).eq = s.eq ∧
    (advanceList c a s).channels = s.channels ∧ (advanceList c a s).emc = s.emc ∧
    (advanceList c a s).counters = s.counters ∧ (advanceList c a s).timeBase = s.timeBase ∧
    (advanceList c a s).freeCount = s.freeCount ∧ (advanceList c a s).pending = s.pending := by
  unfold advanceList
  try dsimp only
  repeat' split
  all_goals simp [forChannels, forMarked]

@[simp] theorem takeAction_frame (s : State) :
    (takeAction s).stc = s.stc ∧ (takeAction s).image = s.image ∧ (takeAction s).peers = s.peers ∧
    (takeAction s).selfRec = s.selfRec ∧ (takeAction s).air = s.air ∧ (takeAction s).delay = s.delay ∧
    (takeAction s).level = s.level ∧ (takeAction s).eq = s.eq ∧ (takeAction s).emc = s.emc ∧
    (takeAction s).timeBase = s.timeBase ∧ (takeAction s).freeCount = s.freeCount ∧
    (takeAction s).pending = s.pending := by
  unfold takeAction
  try dsimp only
  repeat' split
  all_goals simp [forChannels, forMarked]

@[simp] theorem runActions_frame :
    ∀ (n : Nat) (burst : Option Nat) (s : State),
    (runActions n burst s).stc = s.stc ∧ (runActions n burst s).image = s.image ∧
    (runActions n burst s).peers = s.peers ∧ (runActions n burst s).selfRec = s.selfRec ∧
    (runActions n burst s).air = s.air ∧ (runActions n burst s).delay = s.delay ∧
    (runActions n burst s).level = s.level ∧ (runActions n burst s).eq = s.eq ∧ (runActions n burst s).emc = s.emc ∧
    (runActions n burst s).timeBase = s.timeBase ∧ (runActions n burst s).freeCount = s.freeCount ∧
    (runActions n burst s).pending = s.pending
  | 0, _, _ => by simp [runActions]
  | n + 1, burst, s => by
    have h := fun b => runActions_frame n b (event takeAction s)
    unfold runActions
    split <;> simp [h]

@[simp] theorem runList_frame (burst : Option Nat) (s : State) :
    (runList burst s).stc = s.stc ∧ (runList burst s).image = s.image ∧ (runList burst s).peers = s.peers ∧
    (runList burst s).selfRec = s.selfRec ∧ (runList burst s).air = s.air ∧ (runList burst s).delay = s.delay ∧
    (runList burst s).level = s.level ∧ (runList burst s).eq = s.eq ∧ (runList burst s).emc = s.emc ∧
    (runList burst s).timeBase = s.timeBase ∧ (runList burst s).freeCount = s.freeCount ∧
    (runList burst s).pending = s.pending := by
  unfold runList
  try dsimp only
  repeat' split
  all_goals simp [forChannels, forMarked]

@[simp] theorem overtakeList_frame (s : State) :
    (overtakeList s).stc = s.stc ∧ (overtakeList s).image = s.image ∧ (overtakeList s).bus = s.bus ∧
    (overtakeList s).peers = s.peers ∧ (overtakeList s).selfRec = s.selfRec ∧ (overtakeList s).probe = s.probe ∧
    (overtakeList s).air = s.air ∧ (overtakeList s).solver = s.solver ∧ (overtakeList s).delay = s.delay ∧
    (overtakeList s).level = s.level ∧ (overtakeList s).eq = s.eq ∧ (overtakeList s).channels = s.channels ∧
    (overtakeList s).emc = s.emc ∧ (overtakeList s).counters = s.counters ∧ (overtakeList s).timeBase = s.timeBase ∧
    (overtakeList s).freeCount = s.freeCount ∧ (overtakeList s).pending = s.pending := by
  unfold overtakeList
  try dsimp only
  repeat' split
  all_goals simp [forChannels, forMarked]

@[simp] theorem startList_frame (source : Nat) (number : Byte) (params : List Byte) (s : State) :
    (startList source number params s).stc = s.stc ∧ (startList source number params s).image = s.image ∧
    (startList source number params s).bus = s.bus ∧ (startList source number params s).peers = s.peers ∧
    (startList source number params s).selfRec = s.selfRec ∧ (startList source number params s).probe = s.probe ∧
    (startList source number params s).air = s.air ∧ (startList source number params s).solver = s.solver ∧
    (startList source number params s).delay = s.delay ∧ (startList source number params s).level = s.level ∧
    (startList source number params s).eq = s.eq ∧ (startList source number params s).channels = s.channels ∧
    (startList source number params s).emc = s.emc ∧ (startList source number params s).counters = s.counters ∧
    (startList source number params s).timeBase = s.timeBase ∧
    (startList source number params s).freeCount = s.freeCount ∧
    (startList source number params s).pending = s.pending := by
  unfold startList
  try dsimp only
  repeat' split
  all_goals simp [forChannels, forMarked]

@[simp] theorem acceptCue_frame (source : Nat) (number : Byte) (params : List Byte) (s : State) :
    (acceptCue source number params s).stc = s.stc ∧ (acceptCue source number params s).image = s.image ∧
    (acceptCue source number params s).bus = s.bus ∧ (acceptCue source number params s).peers = s.peers ∧
    (acceptCue source number params s).selfRec = s.selfRec ∧ (acceptCue source number params s).probe = s.probe ∧
    (acceptCue source number params s).air = s.air ∧ (acceptCue source number params s).solver = s.solver ∧
    (acceptCue source number params s).delay = s.delay ∧ (acceptCue source number params s).level = s.level ∧
    (acceptCue source number params s).eq = s.eq ∧ (acceptCue source number params s).channels = s.channels ∧
    (acceptCue source number params s).emc = s.emc ∧ (acceptCue source number params s).timeBase = s.timeBase ∧
    (acceptCue source number params s).freeCount = s.freeCount ∧
    (acceptCue source number params s).pending = s.pending := by
  unfold acceptCue
  try dsimp only
  repeat' split
  all_goals simp [forChannels, forMarked]

@[simp] theorem takeCue_frame (source : Nat) (number : Byte) (params : List Byte) (burst : Option Nat) (s : State) :
    (takeCue source number params burst s).stc = s.stc ∧ (takeCue source number params burst s).image = s.image ∧
    (takeCue source number params burst s).peers = s.peers ∧
    (takeCue source number params burst s).selfRec = s.selfRec ∧
    (takeCue source number params burst s).air = s.air ∧ (takeCue source number params burst s).delay = s.delay ∧
    (takeCue source number params burst s).level = s.level ∧ (takeCue source number params burst s).eq = s.eq ∧
    (takeCue source number params burst s).emc = s.emc ∧
    (takeCue source number params burst s).timeBase = s.timeBase ∧
    (takeCue source number params burst s).freeCount = s.freeCount ∧
    (takeCue source number params burst s).pending = s.pending := by
  unfold takeCue
  try dsimp only
  repeat' split
  all_goals simp [forChannels, forMarked]

@[simp] theorem abandonList_frame (s : State) :
    (abandonList s).stc = s.stc ∧ (abandonList s).image = s.image ∧ (abandonList s).bus = s.bus ∧
    (abandonList s).peers = s.peers ∧ (abandonList s).selfRec = s.selfRec ∧ (abandonList s).probe = s.probe ∧
    (abandonList s).air = s.air ∧ (abandonList s).solver = s.solver ∧ (abandonList s).delay = s.delay ∧
    (abandonList s).level = s.level ∧ (abandonList s).eq = s.eq ∧ (abandonList s).channels = s.channels ∧
    (abandonList s).emc = s.emc ∧ (abandonList s).counters = s.counters ∧ (abandonList s).timeBase = s.timeBase ∧
    (abandonList s).freeCount = s.freeCount ∧ (abandonList s).pending = s.pending := by
  unfold abandonList
  try dsimp only
  repeat' split
  all_goals simp [forChannels, forMarked]

/-! ### Emergency.lean -/

@[simp] theorem equaliserEmergency_frame (s : State) :
    (equaliserEmergency s).stc = s.stc ∧ (equaliserEmergency s).image = s.image ∧
    (equaliserEmergency s).bus = s.bus ∧ (equaliserEmergency s).peers = s.peers ∧
    (equaliserEmergency s).selfRec = s.selfRec ∧ (equaliserEmergency s).probe = s.probe ∧
    (equaliserEmergency s).air = s.air ∧ (equaliserEmergency s).solver = s.solver ∧
    (equaliserEmergency s).delay = s.delay ∧ (equaliserEmergency s).level = s.level ∧
    (equaliserEmergency s).eq = s.eq ∧ (equaliserEmergency s).cue = s.cue ∧ (equaliserEmergency s).emc = s.emc ∧
    (equaliserEmergency s).counters = s.counters ∧ (equaliserEmergency s).timeBase = s.timeBase ∧
    (equaliserEmergency s).freeCount = s.freeCount ∧ (equaliserEmergency s).pending = s.pending := by
  unfold equaliserEmergency
  try dsimp only
  repeat' split
  all_goals simp [forChannels, forMarked]

@[simp] theorem probeEmergency_frame (s : State) :
    (probeEmergency s).stc = s.stc ∧ (probeEmergency s).image = s.image ∧ (probeEmergency s).peers = s.peers ∧
    (probeEmergency s).selfRec = s.selfRec ∧ (probeEmergency s).air = s.air ∧ (probeEmergency s).solver = s.solver ∧
    (probeEmergency s).delay = s.delay ∧ (probeEmergency s).level = s.level ∧ (probeEmergency s).eq = s.eq ∧
    (probeEmergency s).channels = s.channels ∧ (probeEmergency s).cue = s.cue ∧ (probeEmergency s).emc = s.emc ∧
    (probeEmergency s).timeBase = s.timeBase ∧ (probeEmergency s).freeCount = s.freeCount ∧
    (probeEmergency s).pending = s.pending := by
  unfold probeEmergency
  try dsimp only
  repeat' split
  all_goals simp [forChannels, forMarked]

@[simp] theorem enterEmergency_frame (s : State) :
    (enterEmergency s).stc = s.stc ∧ (enterEmergency s).image = s.image ∧ (enterEmergency s).peers = s.peers ∧
    (enterEmergency s).selfRec = s.selfRec ∧ (enterEmergency s).air = s.air ∧ (enterEmergency s).delay = s.delay ∧
    (enterEmergency s).level = s.level ∧ (enterEmergency s).eq = s.eq ∧ (enterEmergency s).timeBase = s.timeBase ∧
    (enterEmergency s).freeCount = s.freeCount ∧ (enterEmergency s).pending = s.pending := by
  unfold enterEmergency
  try dsimp only
  all_goals simp [forChannels, forMarked]

@[simp] theorem leaveEmergency_frame (s : State) :
    (leaveEmergency s).stc = s.stc ∧ (leaveEmergency s).image = s.image ∧ (leaveEmergency s).peers = s.peers ∧
    (leaveEmergency s).selfRec = s.selfRec ∧ (leaveEmergency s).air = s.air ∧ (leaveEmergency s).delay = s.delay ∧
    (leaveEmergency s).level = s.level ∧ (leaveEmergency s).eq = s.eq ∧ (leaveEmergency s).cue = s.cue ∧
    (leaveEmergency s).timeBase = s.timeBase ∧ (leaveEmergency s).freeCount = s.freeCount ∧
    (leaveEmergency s).pending = s.pending := by
  unfold leaveEmergency
  try dsimp only
  all_goals simp [forChannels, forMarked]

@[simp] theorem followInputs_frame (s : State) :
    (followInputs s).stc = s.stc ∧ (followInputs s).image = s.image ∧ (followInputs s).peers = s.peers ∧
    (followInputs s).selfRec = s.selfRec ∧ (followInputs s).air = s.air ∧ (followInputs s).delay = s.delay ∧
    (followInputs s).level = s.level ∧ (followInputs s).eq = s.eq ∧ (followInputs s).timeBase = s.timeBase ∧
    (followInputs s).freeCount = s.freeCount ∧ (followInputs s).pending = s.pending := by
  unfold followInputs
  try dsimp only
  repeat' split
  all_goals simp [forChannels, forMarked]

@[simp] theorem takeEvac_frame (station : Nat) (set : Bool) (s : State) :
    (takeEvac station set s).stc = s.stc ∧ (takeEvac station set s).image = s.image ∧
    (takeEvac station set s).peers = s.peers ∧ (takeEvac station set s).selfRec = s.selfRec ∧
    (takeEvac station set s).air = s.air ∧ (takeEvac station set s).delay = s.delay ∧
    (takeEvac station set s).level = s.level ∧ (takeEvac station set s).eq = s.eq ∧
    (takeEvac station set s).timeBase = s.timeBase ∧ (takeEvac station set s).freeCount = s.freeCount ∧
    (takeEvac station set s).pending = s.pending := by
  unfold takeEvac
  try dsimp only
  repeat' split
  all_goals simp [forChannels, forMarked]

@[simp] theorem takeContactFlag_frame (station : Nat) (contact : Bool) (s : State) :
    (takeContactFlag station contact s).stc = s.stc ∧ (takeContactFlag station contact s).image = s.image ∧
    (takeContactFlag station contact s).peers = s.peers ∧ (takeContactFlag station contact s).selfRec = s.selfRec ∧
    (takeContactFlag station contact s).air = s.air ∧ (takeContactFlag station contact s).delay = s.delay ∧
    (takeContactFlag station contact s).level = s.level ∧ (takeContactFlag station contact s).eq = s.eq ∧
    (takeContactFlag station contact s).timeBase = s.timeBase ∧
    (takeContactFlag station contact s).freeCount = s.freeCount ∧
    (takeContactFlag station contact s).pending = s.pending := by
  unfold takeContactFlag
  try dsimp only
  repeat' split
  all_goals simp [forChannels, forMarked]

@[simp] theorem renewRoll_frame (s : State) :
    (renewRoll s).stc = s.stc ∧ (renewRoll s).image = s.image ∧ (renewRoll s).peers = s.peers ∧
    (renewRoll s).selfRec = s.selfRec ∧ (renewRoll s).probe = s.probe ∧ (renewRoll s).air = s.air ∧
    (renewRoll s).solver = s.solver ∧ (renewRoll s).delay = s.delay ∧ (renewRoll s).level = s.level ∧
    (renewRoll s).eq = s.eq ∧ (renewRoll s).channels = s.channels ∧ (renewRoll s).cue = s.cue ∧
    (renewRoll s).emc = s.emc ∧ (renewRoll s).timeBase = s.timeBase ∧ (renewRoll s).freeCount = s.freeCount ∧
    (renewRoll s).pending = s.pending := by
  unfold renewRoll
  try dsimp only
  repeat' split
  all_goals simp [forChannels, forMarked]

@[simp] theorem sendSet_frame (s : State) :
    (sendSet s).stc = s.stc ∧ (sendSet s).image = s.image ∧ (sendSet s).peers = s.peers ∧
    (sendSet s).selfRec = s.selfRec ∧ (sendSet s).probe = s.probe ∧ (sendSet s).air = s.air ∧
    (sendSet s).solver = s.solver ∧ (sendSet s).delay = s.delay ∧ (sendSet s).level = s.level ∧
    (sendSet s).eq = s.eq ∧ (sendSet s).channels = s.channels ∧ (sendSet s).cue = s.cue ∧
    (sendSet s).timeBase = s.timeBase ∧ (sendSet s).freeCount = s.freeCount ∧ (sendSet s).pending = s.pending := by
  unfold sendSet
  try dsimp only
  all_goals simp [forChannels, forMarked]

@[simp] theorem alarmAsserted_frame (s : State) :
    (alarmAsserted s).stc = s.stc ∧ (alarmAsserted s).image = s.image ∧ (alarmAsserted s).peers = s.peers ∧
    (alarmAsserted s).selfRec = s.selfRec ∧ (alarmAsserted s).air = s.air ∧ (alarmAsserted s).delay = s.delay ∧
    (alarmAsserted s).level = s.level ∧ (alarmAsserted s).eq = s.eq ∧ (alarmAsserted s).timeBase = s.timeBase ∧
    (alarmAsserted s).pending = s.pending := by
  unfold alarmAsserted
  try dsimp only
  repeat' split
  all_goals simp [forChannels, forMarked]

@[simp] theorem alarmReleased_frame (s : State) :
    (alarmReleased s).stc = s.stc ∧ (alarmReleased s).image = s.image ∧ (alarmReleased s).peers = s.peers ∧
    (alarmReleased s).selfRec = s.selfRec ∧ (alarmReleased s).air = s.air ∧ (alarmReleased s).delay = s.delay ∧
    (alarmReleased s).level = s.level ∧ (alarmReleased s).eq = s.eq ∧ (alarmReleased s).timeBase = s.timeBase ∧
    (alarmReleased s).freeCount = s.freeCount ∧ (alarmReleased s).pending = s.pending := by
  unfold alarmReleased
  try dsimp only
  all_goals simp [forChannels, forMarked]

@[simp] theorem changeContacts_frame (f : EmergencyControl → EmergencyControl) (s : State) :
    (changeContacts f s).stc = s.stc ∧ (changeContacts f s).image = s.image ∧ (changeContacts f s).peers = s.peers ∧
    (changeContacts f s).selfRec = s.selfRec ∧ (changeContacts f s).air = s.air ∧
    (changeContacts f s).delay = s.delay ∧ (changeContacts f s).level = s.level ∧ (changeContacts f s).eq = s.eq ∧
    (changeContacts f s).timeBase = s.timeBase ∧ (changeContacts f s).pending = s.pending := by
  unfold changeContacts
  try dsimp only
  repeat' split
  all_goals simp [forChannels, forMarked]

/-! ### Startup.lean -/

@[simp] theorem faultStartup_frame (reason : FaultReason) (s : State) :
    (faultStartup reason s).bus = s.bus ∧ (faultStartup reason s).selfRec = s.selfRec ∧
    (faultStartup reason s).probe = s.probe ∧ (faultStartup reason s).air = s.air ∧
    (faultStartup reason s).solver = s.solver ∧ (faultStartup reason s).delay = s.delay ∧
    (faultStartup reason s).level = s.level ∧ (faultStartup reason s).eq = s.eq ∧
    (faultStartup reason s).channels = s.channels ∧ (faultStartup reason s).cue = s.cue ∧
    (faultStartup reason s).emc = s.emc ∧ (faultStartup reason s).counters = s.counters ∧
    (faultStartup reason s).timeBase = s.timeBase ∧ (faultStartup reason s).freeCount = s.freeCount ∧
    (faultStartup reason s).pending = s.pending := by
  unfold faultStartup
  try dsimp only
  all_goals simp [forChannels, forMarked]

@[simp] theorem enterConfigFault_frame (reason : FaultReason) (s : State) :
    (enterConfigFault reason s).selfRec = s.selfRec ∧ (enterConfigFault reason s).air = s.air ∧
    (enterConfigFault reason s).delay = s.delay ∧ (enterConfigFault reason s).level = s.level ∧
    (enterConfigFault reason s).eq = s.eq ∧ (enterConfigFault reason s).cue = s.cue ∧
    (enterConfigFault reason s).emc = s.emc ∧ (enterConfigFault reason s).timeBase = s.timeBase ∧
    (enterConfigFault reason s).freeCount = s.freeCount ∧ (enterConfigFault reason s).pending = s.pending := by
  unfold enterConfigFault
  try dsimp only
  repeat' split
  all_goals simp [forChannels, forMarked]

@[simp] theorem installImage_frame (img : Image) (s : State) :
    (installImage img s).stc = s.stc ∧ (installImage img s).bus = s.bus ∧ (installImage img s).selfRec = s.selfRec ∧
    (installImage img s).probe = s.probe ∧ (installImage img s).delay = s.delay ∧
    (installImage img s).level = s.level ∧ (installImage img s).emc = s.emc ∧
    (installImage img s).counters = s.counters ∧ (installImage img s).timeBase = s.timeBase ∧
    (installImage img s).freeCount = s.freeCount ∧ (installImage img s).pending = s.pending := by
  unfold installImage
  try dsimp only
  all_goals simp [forChannels, forMarked]

@[simp] theorem enterAnnounce_frame (img : Image) (s : State) :
    (enterAnnounce img s).selfRec = s.selfRec ∧ (enterAnnounce img s).probe = s.probe ∧
    (enterAnnounce img s).delay = s.delay ∧ (enterAnnounce img s).level = s.level ∧
    (enterAnnounce img s).emc = s.emc ∧ (enterAnnounce img s).timeBase = s.timeBase ∧
    (enterAnnounce img s).freeCount = s.freeCount ∧ (enterAnnounce img s).pending = s.pending := by
  unfold enterAnnounce
  try dsimp only
  all_goals simp [forChannels, forMarked]

@[simp] theorem enterRun_frame (s : State) :
    (enterRun s).image = s.image ∧ (enterRun s).peers = s.peers ∧ (enterRun s).selfRec = s.selfRec ∧
    (enterRun s).air = s.air ∧ (enterRun s).delay = s.delay ∧ (enterRun s).level = s.level ∧
    (enterRun s).cue = s.cue ∧ (enterRun s).emc = s.emc ∧ (enterRun s).timeBase = s.timeBase ∧
    (enterRun s).freeCount = s.freeCount ∧ (enterRun s).pending = s.pending := by
  unfold enterRun
  try dsimp only
  all_goals simp [forChannels, forMarked]

@[simp] theorem enterConflict_frame (s : State) :
    (enterConflict s).image = s.image ∧ (enterConflict s).peers = s.peers ∧ (enterConflict s).selfRec = s.selfRec ∧
    (enterConflict s).air = s.air ∧ (enterConflict s).delay = s.delay ∧ (enterConflict s).level = s.level ∧
    (enterConflict s).eq = s.eq ∧ (enterConflict s).channels = s.channels ∧ (enterConflict s).cue = s.cue ∧
    (enterConflict s).emc = s.emc ∧ (enterConflict s).timeBase = s.timeBase ∧
    (enterConflict s).freeCount = s.freeCount ∧ (enterConflict s).pending = s.pending := by
  unfold enterConflict
  try dsimp only
  repeat' split
  all_goals simp [forChannels, forMarked]

@[simp] theorem recordDuplicate_frame (unit : BitVec 32) (won : Bool) (s : State) :
    (recordDuplicate unit won s).image = s.image ∧ (recordDuplicate unit won s).bus = s.bus ∧
    (recordDuplicate unit won s).peers = s.peers ∧ (recordDuplicate unit won s).selfRec = s.selfRec ∧
    (recordDuplicate unit won s).probe = s.probe ∧ (recordDuplicate unit won s).air = s.air ∧
    (recordDuplicate unit won s).solver = s.solver ∧ (recordDuplicate unit won s).delay = s.delay ∧
    (recordDuplicate unit won s).level = s.level ∧ (recordDuplicate unit won s).eq = s.eq ∧
    (recordDuplicate unit won s).channels = s.channels ∧ (recordDuplicate unit won s).cue = s.cue ∧
    (recordDuplicate unit won s).emc = s.emc ∧ (recordDuplicate unit won s).counters = s.counters ∧
    (recordDuplicate unit won s).timeBase = s.timeBase ∧ (recordDuplicate unit won s).freeCount = s.freeCount ∧
    (recordDuplicate unit won s).pending = s.pending := by
  unfold recordDuplicate
  try dsimp only
  all_goals simp [forChannels, forMarked]

@[simp] theorem contest_frame (b : RollBody) (s : State) :
    (contest b s).image = s.image ∧ (contest b s).peers = s.peers ∧ (contest b s).selfRec = s.selfRec ∧
    (contest b s).air = s.air ∧ (contest b s).delay = s.delay ∧ (contest b s).level = s.level ∧
    (contest b s).cue = s.cue ∧ (contest b s).emc = s.emc ∧ (contest b s).timeBase = s.timeBase ∧
    (contest b s).freeCount = s.freeCount ∧ (contest b s).pending = s.pending := by
  unfold contest
  try dsimp only
  repeat' split
  all_goals simp [forChannels, forMarked]

@[simp] theorem takeDuplicate_frame (roll : Option RollBody) (s : State) :
    (takeDuplicate roll s).image = s.image ∧ (takeDuplicate roll s).peers = s.peers ∧
    (takeDuplicate roll s).selfRec = s.selfRec ∧ (takeDuplicate roll s).air = s.air ∧
    (takeDuplicate roll s).delay = s.delay ∧ (takeDuplicate roll s).level = s.level ∧
    (takeDuplicate roll s).cue = s.cue ∧ (takeDuplicate roll s).emc = s.emc ∧
    (takeDuplicate roll s).timeBase = s.timeBase ∧ (takeDuplicate roll s).freeCount = s.freeCount ∧
    (takeDuplicate roll s).pending = s.pending := by
  unfold takeDuplicate
  try dsimp only
  repeat' split
  all_goals simp [forChannels, forMarked]

/-! ### Report.lean -/

@[simp] theorem clearCounters_frame (q : QueryBody) (s : State) :
    (clearCounters q s).stc = s.stc ∧ (clearCounters q s).image = s.image ∧ (clearCounters q s).bus = s.bus ∧
    (clearCounters q s).peers = s.peers ∧ (clearCounters q s).selfRec = s.selfRec ∧
    (clearCounters q s).probe = s.probe ∧ (clearCounters q s).air = s.air ∧ (clearCounters q s).solver = s.solver ∧
    (clearCounters q s).delay = s.delay ∧ (clearCounters q s).level = s.level ∧ (clearCounters q s).eq = s.eq ∧
    (clearCounters q s).channels = s.channels ∧ (clearCounters q s).cue = s.cue ∧ (clearCounters q s).emc = s.emc ∧
    (clearCounters q s).timeBase = s.timeBase ∧ (clearCounters q s).freeCount = s.freeCount ∧
    (clearCounters q s).pending = s.pending := by
  unfold clearCounters
  try dsimp only
  all_goals simp [forChannels, forMarked]

@[simp] theorem answerQuery_frame (source : Nat) (q : QueryBody) (s : State) :
    (answerQuery source q s).stc = s.stc ∧ (answerQuery source q s).image = s.image ∧
    (answerQuery source q s).peers = s.peers ∧ (answerQuery source q s).selfRec = s.selfRec ∧
    (answerQuery source q s).probe = s.probe ∧ (answerQuery source q s).air = s.air ∧
    (answerQuery source q s).solver = s.solver ∧ (answerQuery source q s).delay = s.delay ∧
    (answerQuery source q s).level = s.level ∧ (answerQuery source q s).eq = s.eq ∧
    (answerQuery source q s).channels = s.channels ∧ (answerQuery source q s).cue = s.cue ∧
    (answerQuery source q s).emc = s.emc ∧ (answerQuery source q s).timeBase = s.timeBase ∧
    (answerQuery source q s).freeCount = s.freeCount ∧ (answerQuery source q s).pending = s.pending := by
  unfold answerQuery
  try dsimp only
  repeat' split
  all_goals simp [forChannels, forMarked]

/-! ### Receive.lean -/

@[simp] theorem recover_frame (s : State) :
    (recover s).stc = s.stc ∧ (recover s).image = s.image ∧ (recover s).peers = s.peers ∧
    (recover s).selfRec = s.selfRec ∧ (recover s).probe = s.probe ∧ (recover s).air = s.air ∧
    (recover s).solver = s.solver ∧ (recover s).delay = s.delay ∧ (recover s).level = s.level ∧
    (recover s).eq = s.eq ∧ (recover s).channels = s.channels ∧ (recover s).cue = s.cue ∧ (recover s).emc = s.emc ∧
    (recover s).counters = s.counters ∧ (recover s).timeBase = s.timeBase ∧ (recover s).freeCount = s.freeCount ∧
    (recover s).pending = s.pending := by
  unfold recover
  try dsimp only
  all_goals simp [forChannels, forMarked]

@[simp] theorem countValid_frame (s : State) :
    (countValid s).stc = s.stc ∧ (countValid s).image = s.image ∧ (countValid s).peers = s.peers ∧
    (countValid s).selfRec = s.selfRec ∧ (countValid s).probe = s.probe ∧ (countValid s).air = s.air ∧
    (countValid s).solver = s.solver ∧ (countValid s).delay = s.delay ∧ (countValid s).level = s.level ∧
    (countValid s).eq = s.eq ∧ (countValid s).channels = s.channels ∧ (countValid s).cue = s.cue ∧
    (countValid s).emc = s.emc ∧ (countValid s).timeBase = s.timeBase ∧ (countValid s).freeCount = s.freeCount ∧
    (countValid s).pending = s.pending := by
  unfold countValid
  try dsimp only
  repeat' split
  all_goals simp [forChannels, forMarked]

@[simp] theorem discardFrame_frame (k : Counter) (s : State) :
    (discardFrame k s).stc = s.stc ∧ (discardFrame k s).image = s.image ∧ (discardFrame k s).peers = s.peers ∧
    (discardFrame k s).selfRec = s.selfRec ∧ (discardFrame k s).probe = s.probe ∧ (discardFrame k s).air = s.air ∧
    (discardFrame k s).solver = s.solver ∧ (discardFrame k s).delay = s.delay ∧ (discardFrame k s).level = s.level ∧
    (discardFrame k s).eq = s.eq ∧ (discardFrame k s).channels = s.channels ∧ (discardFrame k s).cue = s.cue ∧
    (discardFrame k s).emc = s.emc ∧ (discardFrame k s).timeBase = s.timeBase ∧
    (discardFrame k s).freeCount = s.freeCount ∧ (discardFrame k s).pending = s.pending := by
  unfold discardFrame
  try dsimp only
  all_goals simp [forChannels, forMarked]

@[simp] theorem growFrame_frame (chars : List Byte) (s : State) :
    (growFrame chars s).stc = s.stc ∧ (growFrame chars s).image = s.image ∧ (growFrame chars s).peers = s.peers ∧
    (growFrame chars s).selfRec = s.selfRec ∧ (growFrame chars s).probe = s.probe ∧
    (growFrame chars s).air = s.air ∧ (growFrame chars s).solver = s.solver ∧ (growFrame chars s).delay = s.delay ∧
    (growFrame chars s).level = s.level ∧ (growFrame chars s).eq = s.eq ∧
    (growFrame chars s).channels = s.channels ∧ (growFrame chars s).cue = s.cue ∧ (growFrame chars s).emc = s.emc ∧
    (growFrame chars s).timeBase = s.timeBase ∧ (growFrame chars s).freeCount = s.freeCount ∧
    (growFrame chars s).pending = s.pending := by
  unfold growFrame
  try dsimp only
  repeat' split
  all_goals simp [forChannels, forMarked]

@[simp] theorem assemble_frame (char : LineChar) (s : State) :
    (assemble char s).stc = s.stc ∧ (assemble char s).image = s.image ∧ (assemble char s).peers = s.peers ∧
    (assemble char s).selfRec = s.selfRec ∧ (assemble char s).probe = s.probe ∧ (assemble char s).air = s.air ∧
    (assemble char s).solver = s.solver ∧ (assemble char s).delay = s.delay ∧ (assemble char s).level = s.level ∧
    (assemble char s).eq = s.eq ∧ (assemble char s).channels = s.channels ∧ (assemble char s).cue = s.cue ∧
    (assemble char s).emc = s.emc ∧ (assemble char s).timeBase = s.timeBase ∧
    (assemble char s).freeCount = s.freeCount ∧ (assemble char s).pending = s.pending := by
  unfold assemble
  try dsimp only
  repeat' split
  all_goals simp [forChannels, forMarked]

/-! ### Transmit.lean -/

@[simp] theorem enterTxQuiet_frame (s : State) :
    (enterTxQuiet s).stc = s.stc ∧ (enterTxQuiet s).image = s.image ∧ (enterTxQuiet s).peers = s.peers ∧
    (enterTxQuiet s).selfRec = s.selfRec ∧ (enterTxQuiet s).air = s.air ∧ (enterTxQuiet s).solver = s.solver ∧
    (enterTxQuiet s).delay = s.delay ∧ (enterTxQuiet s).level = s.level ∧ (enterTxQuiet s).eq = s.eq ∧
    (enterTxQuiet s).channels = s.channels ∧ (enterTxQuiet s).cue = s.cue ∧ (enterTxQuiet s).emc = s.emc ∧
    (enterTxQuiet s).timeBase = s.timeBase ∧ (enterTxQuiet s).freeCount = s.freeCount ∧
    (enterTxQuiet s).pending = s.pending := by
  unfold enterTxQuiet
  try dsimp only
  repeat' split
  all_goals simp [forChannels, forMarked]

/-! ### Sample.lean -/

@[simp] theorem writeSample_frame (x : Int) (present : Bool) (s : State) :
    (writeSample x present s).stc = s.stc ∧ (writeSample x present s).image = s.image ∧
    (writeSample x present s).bus = s.bus ∧ (writeSample x present s).peers = s.peers ∧
    (writeSample x present s).selfRec = s.selfRec ∧ (writeSample x present s).probe = s.probe ∧
    (writeSample x present s).air = s.air ∧ (writeSample x present s).solver = s.solver ∧
    (writeSample x present s).eq = s.eq ∧ (writeSample x present s).channels = s.channels ∧
    (writeSample x present s).cue = s.cue ∧ (writeSample x present s).emc = s.emc ∧
    (writeSample x present s).counters = s.counters ∧ (writeSample x present s).timeBase = s.timeBase ∧
    (writeSample x present s).freeCount = s.freeCount ∧ (writeSample x present s).pending = s.pending := by
  unfold writeSample
  try dsimp only
  all_goals simp [forChannels, forMarked]

@[simp] theorem advanceWrite_frame (s : State) :
    (advanceWrite s).stc = s.stc ∧ (advanceWrite s).image = s.image ∧ (advanceWrite s).bus = s.bus ∧
    (advanceWrite s).peers = s.peers ∧ (advanceWrite s).selfRec = s.selfRec ∧ (advanceWrite s).probe = s.probe ∧
    (advanceWrite s).air = s.air ∧ (advanceWrite s).solver = s.solver ∧ (advanceWrite s).level = s.level ∧
    (advanceWrite s).eq = s.eq ∧ (advanceWrite s).channels = s.channels ∧ (advanceWrite s).cue = s.cue ∧
    (advanceWrite s).emc = s.emc ∧ (advanceWrite s).counters = s.counters ∧ (advanceWrite s).timeBase = s.timeBase ∧
    (advanceWrite s).freeCount = s.freeCount ∧ (advanceWrite s).pending = s.pending := by
  unfold advanceWrite
  try dsimp only
  all_goals simp [forChannels, forMarked]

@[simp] theorem sampleChannel_frame (c : Fin 4) (s : State) :
    (sampleChannel c s).stc = s.stc ∧ (sampleChannel c s).image = s.image ∧ (sampleChannel c s).bus = s.bus ∧
    (sampleChannel c s).peers = s.peers ∧ (sampleChannel c s).selfRec = s.selfRec ∧
    (sampleChannel c s).probe = s.probe ∧ (sampleChannel c s).air = s.air ∧ (sampleChannel c s).solver = s.solver ∧
    (sampleChannel c s).delay = s.delay ∧ (sampleChannel c s).level = s.level ∧ (sampleChannel c s).eq = s.eq ∧
    (sampleChannel c s).cue = s.cue ∧ (sampleChannel c s).emc = s.emc ∧ (sampleChannel c s).counters = s.counters ∧
    (sampleChannel c s).timeBase = s.timeBase ∧ (sampleChannel c s).freeCount = s.freeCount ∧
    (sampleChannel c s).pending = s.pending := by
  unfold sampleChannel
  try dsimp only
  all_goals simp [forChannels, forMarked]

@[simp] theorem advanceEmission_frame (s : State) :
    (advanceEmission s).stc = s.stc ∧ (advanceEmission s).image = s.image ∧ (advanceEmission s).bus = s.bus ∧
    (advanceEmission s).peers = s.peers ∧ (advanceEmission s).selfRec = s.selfRec ∧
    (advanceEmission s).air = s.air ∧ (advanceEmission s).solver = s.solver ∧ (advanceEmission s).delay = s.delay ∧
    (advanceEmission s).level = s.level ∧ (advanceEmission s).eq = s.eq ∧
    (advanceEmission s).channels = s.channels ∧ (advanceEmission s).cue = s.cue ∧ (advanceEmission s).emc = s.emc ∧
    (advanceEmission s).counters = s.counters ∧ (advanceEmission s).timeBase = s.timeBase ∧
    (advanceEmission s).freeCount = s.freeCount ∧ (advanceEmission s).pending = s.pending := by
  unfold advanceEmission
  try dsimp only
  repeat' split
  all_goals simp [forChannels, forMarked]

@[simp] theorem hearSample_frame (x : Int) (s : State) :
    (hearSample x s).stc = s.stc ∧ (hearSample x s).image = s.image ∧ (hearSample x s).bus = s.bus ∧
    (hearSample x s).peers = s.peers ∧ (hearSample x s).selfRec = s.selfRec ∧ (hearSample x s).air = s.air ∧
    (hearSample x s).solver = s.solver ∧ (hearSample x s).delay = s.delay ∧ (hearSample x s).level = s.level ∧
    (hearSample x s).eq = s.eq ∧ (hearSample x s).channels = s.channels ∧ (hearSample x s).cue = s.cue ∧
    (hearSample x s).emc = s.emc ∧ (hearSample x s).counters = s.counters ∧ (hearSample x s).timeBase = s.timeBase ∧
    (hearSample x s).freeCount = s.freeCount ∧ (hearSample x s).pending = s.pending := by
  unfold hearSample
  simp

@[simp] theorem placeEmission_frame (s : State) :
    (placeEmission s).stc = s.stc ∧ (placeEmission s).image = s.image ∧ (placeEmission s).bus = s.bus ∧
    (placeEmission s).peers = s.peers ∧ (placeEmission s).selfRec = s.selfRec ∧ (placeEmission s).air = s.air ∧
    (placeEmission s).solver = s.solver ∧ (placeEmission s).delay = s.delay ∧ (placeEmission s).level = s.level ∧
    (placeEmission s).eq = s.eq ∧ (placeEmission s).channels = s.channels ∧ (placeEmission s).cue = s.cue ∧
    (placeEmission s).emc = s.emc ∧ (placeEmission s).counters = s.counters ∧
    (placeEmission s).timeBase = s.timeBase ∧ (placeEmission s).freeCount = s.freeCount ∧
    (placeEmission s).pending = s.pending := by
  unfold placeEmission
  repeat' split
  all_goals simp

@[simp] theorem takeSample_frame (x microphone : Int) (s : State) :
    (takeSample x microphone s).stc = s.stc ∧ (takeSample x microphone s).image = s.image ∧
    (takeSample x microphone s).peers = s.peers ∧ (takeSample x microphone s).selfRec = s.selfRec ∧
    (takeSample x microphone s).air = s.air ∧ (takeSample x microphone s).solver = s.solver ∧
    (takeSample x microphone s).eq = s.eq ∧ (takeSample x microphone s).cue = s.cue ∧
    (takeSample x microphone s).emc = s.emc ∧ (takeSample x microphone s).timeBase = s.timeBase ∧
    (takeSample x microphone s).freeCount = s.freeCount ∧ (takeSample x microphone s).pending = s.pending := by
  unfold takeSample
  dsimp only
  simp [forChannels]

@[simp] theorem tick_frame (s : State) :
    (tick s).image = s.image ∧ (tick s).peers = s.peers ∧ (tick s).selfRec = s.selfRec ∧ (tick s).delay = s.delay ∧
    (tick s).level = s.level ∧ (tick s).eq = s.eq ∧ (tick s).counters = s.counters ∧
    (tick s).freeCount = s.freeCount ∧ (tick s).pending = s.pending :=
  ⟨rfl, rfl, rfl, rfl, rfl, rfl, rfl, rfl, rfl⟩

end Sys2Proof.Machine
end

