-- ==== Sys2Proof/Laws/Events.lean ====
section
/-! SUPPORT. Events and counters: when an event hands no ALIGN, what the ALIGN of the others changes, and what a count
changes. -/

namespace Sys2Proof.Machine

/-- The published values rest on these alone. -/
theorem published_congr {s t : State} (hk : t.stc.kind = s.stc.kind) (hl : t.stc.straps = s.stc.straps)
    (hv : t.solver = s.solver) (hp : t.peers = s.peers) (hr : t.selfRec = s.selfRec) (ha : t.air = s.air)
    (hc : t.channels = s.channels) (he : t.emc = s.emc) : published t = published s := by
  simp [published, alignFlags, degraded, winnerDegraded, State.ownAlarm, State.frozen, ampFault, *]

/-- An event that changes no published value hands no ALIGN. -/
theorem finishEvent_quiet {old new : State} (h : published new = published old) : finishEvent old new = new := by
  simp [finishEvent, h]

/-- An event that changes no published value is its change alone. -/
theorem event_quiet {f : State → State} {s : State} (h : published (f s) = published s) : event f s = f s :=
  finishEvent_quiet h

/-- Out of RUN an event hands no ALIGN. -/
theorem finishEvent_not_run {old new : State} (h : old.stc.mode ≠ .run ∨ new.stc.mode ≠ .run) :
    finishEvent old new = new := by
  rcases h with h | h <;> simp [finishEvent, h]

/-- An event leaves the solver as its change left it, but for the ALIGN fields. -/
theorem finishEvent_solver (old new : State) :
    ∃ q h r, (finishEvent old new).solver = { new.solver with seq := q, handed := h, refresh := r } := by
  unfold finishEvent
  split
  · exact ⟨(composeAlign new).seq, true, some (new.image.elim 0 (·.refresh) * 1000000), by simp [handAlign]⟩
  · exact ⟨_, _, _, rfl⟩

theorem satIncBy_one (c : BitVec 16) : satIncBy 1 c = satInc c := rfl

/-- What a counted number of increments leaves in each counter. -/
theorem count_bumpBy (n : Nat) (j k : Counter) (s : State) :
    (bumpBy n j s).count k = if k = j then satIncBy n (s.count k) else s.count k := by
  by_cases h : k = j
  · subst h
    simp [State.count, bumpBy, State.modCounters]
  · have hi : j.index.val ≠ k.index.val := by
      intro e
      revert h e
      cases j <;> cases k <;> decide
    simp [State.count, bumpBy, State.modCounters, h, Vector.getElem_set_ne, hi]

/-- What one increment leaves in each counter. -/
@[simp] theorem count_bump (j k : Counter) (s : State) :
    (bump j s).count k = if k = j then satInc (s.count k) else s.count k := by
  simp [bump, count_bumpBy, satIncBy_one]

/-- A count rests on the counters alone. -/
theorem count_congr {s t : State} (h : t.counters = s.counters) (k : Counter) : t.count k = s.count k := by
  simp [State.count, h]

/-- Saturating increments add up to 65,535. -/
theorem satIncBy_toNat : ∀ (n : Nat) (c : BitVec 16), (satIncBy n c).toNat = min 65535 (c.toNat + n)
  | 0, c => by have := c.isLt; simp [satIncBy]; omega
  | n + 1, c => by
    rw [satIncBy, satIncBy_toNat n]
    unfold satInc
    split
    · next h => subst h; simp
    · next h =>
      have h1 : c.toNat ≠ 65535 := fun e => h (BitVec.eq_of_toNat_eq (by simpa using e))
      have := c.isLt
      rw [BitVec.toNat_add]
      simp
      omega

/-- A hand-over touches the line's block and one counter alone. -/
theorem handFrame_eq (f : Frame) (s : State) :
    handFrame f s = { s with bus := (handFrame f s).bus, counters := (handFrame f s).counters } := by
  unfold handFrame
  split <;> rfl

end Sys2Proof.Machine
end

