-- ==== Sys2Proof/Laws/Channels.lean ====
section
/-! SUPPORT. What the operations of Channel Power Control, of the equaliser and of the Delay Engine do to one channel: each
acts at its own channel alone, and there by a function of the channel and of what the other blocks show it. -/

namespace Sys2Proof.Machine

/-- Two states show their channels the same: mode and straps, image, level, equaliser station state, emergency. -/
def SameView (s t : State) : Prop :=
  t.stc = s.stc ∧ t.image = s.image ∧ t.level = s.level ∧ t.eq = s.eq ∧ t.emc = s.emc

theorem SameView.refl (s : State) : SameView s s := ⟨rfl, rfl, rfl, rfl, rfl⟩

/-- `f` acts at its own channel, by `g`, in every state that looks like `s₀`. -/
def ActsAt (s₀ : State) (f : Fin 4 → State → State) (g : Fin 4 → Channel → Channel) : Prop :=
  ∀ c s, SameView s₀ s → SameView s₀ (f c s) ∧ (f c s).channels = s.channels.set c (g c s.channels[c])

theorem set_same (v : Vector Channel 4) (c : Fin 4) (a b : Channel) : (v.set c a).set c b = v.set c b := by
  simp

theorem get_set_self (v : Vector Channel 4) (c : Fin 4) (a : Channel) : (v.set c a)[c] = a := by simp

theorem get_set_other {v : Vector Channel 4} {c d : Fin 4} (h : d ≠ c) (a : Channel) : (v.set c a)[d] = v[d] := by
  have : c.val ≠ d.val := fun e => h (Fin.ext e.symm)
  simp [Vector.getElem_set_ne, this]

theorem set_get_self (v : Vector Channel 4) (c : Fin 4) : v.set c v[c] = v := by
  simp

namespace ActsAt

variable {s₀ : State}

/-- One operation after another at the same channel. -/
theorem comp {f f' : Fin 4 → State → State} {g g' : Fin 4 → Channel → Channel} (h : ActsAt s₀ f g)
    (h' : ActsAt s₀ f' g') : ActsAt s₀ (fun c s => f' c (f c s)) (fun c ch => g' c (g c ch)) := by
  intro c s v
  obtain ⟨v1, e1⟩ := h c s v
  obtain ⟨v2, e2⟩ := h' c _ v1
  refine ⟨v2, ?_⟩
  rw [e2, e1, get_set_self, set_same]

/-- Doing nothing. -/
theorem skip : ActsAt s₀ (fun _ s => s) (fun _ ch => ch) := fun c s v => ⟨v, (set_get_self s.channels c).symm⟩

/-- A choice made from the channel. -/
theorem ite {p : Fin 4 → Channel → Prop} [∀ c ch, Decidable (p c ch)] {q : Fin 4 → State → Prop}
    [∀ c s, Decidable (q c s)] {f f' : Fin 4 → State → State} {g g' : Fin 4 → Channel → Channel}
    (hq : ∀ c s, SameView s₀ s → (q c s ↔ p c s.channels[c])) (h : ActsAt s₀ f g) (h' : ActsAt s₀ f' g') :
    ActsAt s₀ (fun c s => if q c s then f c s else f' c s) (fun c ch => if p c ch then g c ch else g' c ch) := by
  intro c s v
  by_cases hp : p c s.channels[c]
  · have := (hq c s v).2 hp
    simpa only [if_pos this, if_pos hp] using h c s v
  · have : ¬q c s := fun e => hp ((hq c s v).1 e)
    simpa only [if_neg this, if_neg hp] using h' c s v

/-- What a pass over all the channels leaves in each. -/
theorem all {f : Fin 4 → State → State} {g : Fin 4 → Channel → Channel} (h : ActsAt s₀ f g) {s : State}
    (v : SameView s₀ s) :
    SameView s₀ (forChannels f s) ∧ ∀ c : Fin 4, (forChannels f s).channels[c] = g c s.channels[c] := by
  obtain ⟨v0, e0⟩ := h 0 s v
  obtain ⟨v1, e1⟩ := h 1 _ v0
  obtain ⟨v2, e2⟩ := h 2 _ v1
  obtain ⟨v3, e3⟩ := h 3 _ v2
  refine ⟨v3, fun c => ?_⟩
  have k : forChannels f s = f 3 (f 2 (f 1 (f 0 s))) := rfl
  rw [k, e3, e2, e1, e0]
  match c with
  | 0 => rw [get_set_other (by decide), get_set_other (by decide), get_set_other (by decide), get_set_self]
  | 1 => rw [get_set_other (by decide), get_set_other (by decide), get_set_self, get_set_other (by decide)]
  | 2 => rw [get_set_other (by decide), get_set_self, get_set_other (by decide), get_set_other (by decide)]
  | 3 => rw [get_set_self, get_set_other (by decide), get_set_other (by decide), get_set_other (by decide)]

/-- What a pass over the marked channels leaves in each. -/
theorem marked {f : Fin 4 → State → State} {g : Fin 4 → Channel → Channel} (h : ActsAt s₀ f g) (m : BitVec 4) {s : State}
    (v : SameView s₀ s) :
    SameView s₀ (forMarked m f s) ∧
      ∀ c : Fin 4, (forMarked m f s).channels[c] = if m.getLsbD c then g c s.channels[c] else s.channels[c] := by
  have h' : ActsAt s₀ (fun c s => if m.getLsbD c then f c s else s)
      (fun c ch => if m.getLsbD c then g c ch else ch) := by
    intro c s v
    by_cases e : m.getLsbD c = true
    · simpa only [if_pos e] using h c s v
    · simpa only [if_neg e] using skip c s v
  exact h'.all v

/-- One operation at one channel leaves the others as they were. -/
theorem one {f : Fin 4 → State → State} {g : Fin 4 → Channel → Channel} (h : ActsAt s₀ f g) {s : State}
    (v : SameView s₀ s) (c : Fin 4) :
    (f c s).channels[c] = g c s.channels[c] ∧ ∀ d : Fin 4, d ≠ c → (f c s).channels[d] = s.channels[d] := by
  have e := (h c s v).2
  exact ⟨by rw [e, get_set_self], fun d hd => by rw [e, get_set_other hd]⟩

/-- A change of the channel itself. -/
theorem mod (g : Fin 4 → Channel → Channel) : ActsAt s₀ (fun c s => s.modChannel c (g c)) g :=
  fun _ _ v => ⟨v, rfl⟩

end ActsAt

/-! ### Channel Power Control -/

section Power

variable (s₀ : State)

/-- The channel in a power state. -/
def Channel.moved (p : Power) (cause : Option FaultCause) (c : Fin 4) (ch : Channel) : Channel :=
  if ch.power = p then ch else ch.toPower p cause (s₀.standbyDelay * 1000000) (s₀.wakeLimit c * 1000)

theorem setPower_acts (p : Power) (cause : Option FaultCause) :
    ActsAt s₀ (fun c s => setPower c p cause s) (Channel.moved s₀ p cause) := by
  intro c s v
  refine ⟨by simpa [SameView] using v, ?_⟩
  obtain ⟨hs, hi, hl, he, hm⟩ := v
  unfold setPower Channel.moved
  dsimp only
  split
  · exact (set_get_self s.channels c).symm
  · have e : s.standbyDelay = s₀.standbyDelay := by simp [State.standbyDelay, hi]
    have e' : s.wakeLimit c = s₀.wakeLimit c := by simp [State.wakeLimit, hi]
    rw [e, e']
    split <;> split <;> simp [State.modChannel]

theorem effectiveSilence_view {s : State} (v : SameView s₀ s) (c : Fin 4) :
    effectiveSilence s c = (!s₀.level.present || s.channels[c].muted) := by
  simp [effectiveSilence, v.2.2.1]

theorem wantsWatch_view {s : State} (v : SameView s₀ s) (c : Fin 4) :
    wantsWatch s c =
      (s₀.serving && s₀.autoStandby c && (!s₀.level.present || s.channels[c].muted) && !s₀.inEmergency) := by
  simp [wantsWatch, effectiveSilence_view s₀ v, State.serving, State.autoStandby, State.inEmergency, v.1, v.2.1, v.2.2.2.2]

/-- R112 asks for WATCH. -/
def Channel.wants (c : Fin 4) (ch : Channel) : Bool :=
  s₀.serving && s₀.autoStandby c && (!s₀.level.present || ch.muted) && !s₀.inEmergency

/-- The channel entering ACTIVE. -/
def Channel.activated (c : Fin 4) (ch : Channel) : Channel :=
  let a := Channel.moved s₀ .active none c ch
  if a.wants s₀ c then Channel.moved s₀ .watch none c a else a

theorem enterActive_acts : ActsAt s₀ enterActive (Channel.activated s₀) := by
  have h := (setPower_acts s₀ .active none).comp
    (ActsAt.ite (p := fun c ch => ch.wants s₀ c = true) (q := fun c s => wantsWatch s c = true)
      (fun c s v => by rw [wantsWatch_view s₀ v]; rfl) (setPower_acts s₀ .watch none) ActsAt.skip)
  exact h

/-- The channel entering WAKING. -/
def Channel.woken (c : Fin 4) (ch : Channel) : Channel :=
  let w := Channel.moved s₀ .waking none c ch
  if w.ready then Channel.activated s₀ c w else w

theorem enterWaking_acts : ActsAt s₀ enterWaking (Channel.woken s₀) :=
  (setPower_acts s₀ .waking none).comp
    (ActsAt.ite (p := fun _ ch => ch.ready = true) (q := fun c s => s.channels[c].ready = true)
      (fun _ _ _ => Iff.rfl) (enterActive_acts s₀) ActsAt.skip)

/-- The channel entering STANDBY. -/
def Channel.rested (c : Fin 4) (ch : Channel) : Channel :=
  let r := Channel.moved s₀ .standby none c ch
  if s₀.serving && !(!s₀.level.present || r.muted) then Channel.woken s₀ c r else r

theorem enterStandby_acts : ActsAt s₀ enterStandby (Channel.rested s₀) :=
  (setPower_acts s₀ .standby none).comp
    (ActsAt.ite (p := fun _ ch => (s₀.serving && !(!s₀.level.present || ch.muted)) = true)
      (q := fun c s => (s.serving && !effectiveSilence s c) = true)
      (fun c s v => by rw [effectiveSilence_view s₀ v, State.serving, v.1]; rfl) (enterWaking_acts s₀) ActsAt.skip)

/-- The channel acting on its effective silence. -/
def Channel.heeding (c : Fin 4) (ch : Channel) : Channel :=
  if !s₀.serving then ch else
  match ch.power with
  | .watch => if !s₀.level.present || ch.muted then ch else Channel.moved s₀ .active none c ch
  | .standby => if !s₀.level.present || ch.muted then ch else Channel.woken s₀ c ch
  | .active => if ch.wants s₀ c then Channel.moved s₀ .watch none c ch else ch
  | .waking | .forcedOff | .fault => ch

theorem actOnSilence_acts : ActsAt s₀ actOnSilence (Channel.heeding s₀) := by
  intro c s v
  unfold actOnSilence Channel.heeding
  rw [effectiveSilence_view s₀ v, wantsWatch_view s₀ v, State.serving, v.1]
  have hs : (s₀.stc.mode == .run || s₀.stc.mode == .conflict) = s₀.serving := rfl
  rw [hs]
  by_cases hv : s₀.serving = true
  · simp only [hv, Bool.not_true, Bool.false_eq_true, if_false, Bool.true_and]
    cases hp : s.channels[c].power
    case active =>
      dsimp only
      by_cases hw : s.channels[c].wants s₀ c = true
      · have hw' := hw
        unfold Channel.wants at hw'
        simp only [hv, Bool.true_and] at hw'
        rw [if_pos hw', if_pos hw]
        exact setPower_acts s₀ _ _ c s v
      · have hw' := hw
        unfold Channel.wants at hw'
        simp only [hv, Bool.true_and] at hw'
        rw [if_neg hw', if_neg hw]
        exact ActsAt.skip c s v
    case watch =>
      dsimp only
      split
      · exact ActsAt.skip c s v
      · exact setPower_acts s₀ _ _ c s v
    case standby =>
      dsimp only
      split
      · exact ActsAt.skip c s v
      · exact enterWaking_acts s₀ c s v
    all_goals exact ActsAt.skip c s v
  · simp only [hv, Bool.not_false, if_true]
    exact ActsAt.skip c s v

end Power

end Sys2Proof.Machine
end

