-- ==== Sys2Proof/Laws/Check.lean ====
section
/-! SUPPORT. A check that a state written out is lawful: `Lawful` says more than a machine can decide as it stands, and
`Lawful.of_check` gives it from a test that evaluates. -/

namespace Sys2Proof.Machine

/-- A test that holds of the value, if there is one. -/
def ifSome {α : Type} (o : Option α) (p : α → Bool) : Bool := o.all p

theorem of_ifSome {α : Type} {o : Option α} {p : α → Bool} (h : ifSome o p = true) {a : α} (e : o = some a) : p a = true := by
  subst e
  exact h

theorem of_ifSome' {α : Type} {o : Option α} {p : α → Prop} [∀ a, Decidable (p a)]
    (h : ifSome o (fun a => decide (p a)) = true) (a : α) (e : o = some a) : p a :=
  of_decide_eq_true (of_ifSome h e)

def ImageRanges.check (img : Image) : Bool :=
  decide (img.originDelay ≤ 100000 ∧ img.fallbackDelay ≤ 1340000 ∧ img.offset ≤ 60 ∧ img.cueBytes.length ≤ 512 ∧
    (∀ c : Fin 4, img.channels[c].trim ≤ 960 ∧ img.channels[c].startGain ≤ 184 ∧ img.channels[c].evacGain ≤ 184 ∧
      img.channels[c].evacPreset ≤ 3))

theorem ImageRanges.of_check {img : Image} (h : ImageRanges.check img = true) : ImageRanges img := by
  simp only [ImageRanges.check, decide_eq_true_eq] at h
  exact h

def StartLaw.check (s : State) : Bool :=
  decide (s.image.isSome = true ↔ s.stc.mode = .announce ∨ s.stc.mode = .run ∨ s.stc.mode = .conflict) &&
  ifSome s.image ImageRanges.check &&
  decide (s.stc.kind = s.image.map (·.kind) ∧ s.stc.identity = s.image.map (fun img => (img.id, img.length)) ∧
    (s.stc.claim.isSome = true ↔ s.stc.mode = .announce) ∧ (s.stc.reading ≠ .none ↔ s.stc.mode = .loading) ∧
    (s.stc.reason ≠ .none ↔ s.stc.mode = .configFault) ∧ (isStation s.number = true ∨ s.stc.mode = .configFault))

theorem StartLaw.of_check {s : State} (h : StartLaw.check s = true) : StartLaw s := by
  simp only [StartLaw.check, Bool.and_eq_true, decide_eq_true_eq] at h
  exact ⟨h.1.1, fun _ e => ImageRanges.of_check (of_ifSome h.1.2 e), h.2⟩

def HeldLaw.check (s : State) : Bool :=
  decide ((s.serving = false → s.solver.delay = 0 ∧ s.solver.path = 0) ∧
    (s.stc.mode = .loading ∨ s.stc.mode = .announce → ∀ c : Fin 4,
      s.channels[c].power = .standby ∧ s.channels[c].active = .flat ∧ s.channels[c].gainTarget = .silence) ∧
    (s.stc.mode = .loading ∨ s.stc.mode = .configFault → ∀ c : Fin 4, s.channels[c].target = 0) ∧
    (s.stc.mode = .configFault → ∀ c : Fin 4, s.channels[c].active = .flat ∧ s.channels[c].crossfade = .idle) ∧
    (s.stc.mode = .configFault → s.emc.emergency = false → ∀ c : Fin 4,
      s.channels[c].power = .standby ∧ s.channels[c].gainTarget = .silence))

theorem HeldLaw.of_check {s : State} (h : HeldLaw.check s = true) : HeldLaw s := by
  simp only [HeldLaw.check, decide_eq_true_eq] at h
  exact h

def FlightRecord.boundedB (f : FlightRecord) : Bool :=
  decide (f.history.length ≤ 3 ∧ f.suspects.length ≤ 3 ∧ f.misses ≤ 255)

theorem FlightRecord.bounded_of {f : FlightRecord} (h : FlightRecord.boundedB f = true) : f.bounded := by
  simp only [FlightRecord.boundedB, decide_eq_true_eq] at h
  exact h

def EntryLaw.check (e : PeerEntry) : Bool :=
  decide (e.binding = .unused → e.peer = none) &&
  (match e.binding with
   | .single st => decide (e.peer = some st)
   | _ => true) &&
  ifSome e.peer isStation &&
  decide (e.peer = none → e.flights.history = [] ∧ e.flights.suspects = []) &&
  decide (e.record.isSome = true ↔ e.state = .fresh ∨ e.state = .stale) &&
  decide (e.record.isSome = true → e.peer.isSome = true) &&
  decide (e.unread = true → e.record.isSome = true) && FlightRecord.boundedB e.flights

theorem EntryLaw.of_check {e : PeerEntry} (h : EntryLaw.check e = true) : EntryLaw e := by
  simp only [EntryLaw.check, Bool.and_eq_true, decide_eq_true_eq] at h
  obtain ⟨⟨⟨⟨⟨⟨⟨h1, h2⟩, h3⟩, h4⟩, h5⟩, h6⟩, h7⟩, h8⟩ := h
  refine ⟨h1, fun st hs => ?_, fun st hs => of_ifSome h3 hs, h4, h5, h6, h7, FlightRecord.bounded_of h8⟩
  rw [hs] at h2
  exact of_decide_eq_true h2

def TableLaw.check (s : State) : Bool :=
  decide (∀ i : Fin 16, EntryLaw.check s.peers[i] = true ∧ s.peers[i].peer ≠ some s.number) &&
  decide (∀ i j : Fin 16, i ≠ j → s.peers[i].peer = s.peers[j].peer → s.peers[i].peer = none) &&
  FlightRecord.boundedB s.selfRec &&
  decide (∀ i : Fin 16, ifSome s.stc.kept[i] (fun k => decide (k.history.length ≤ 3 ∧ k.suspects.length ≤ 3)) = true)

theorem TableLaw.of_check {s : State} (h : TableLaw.check s = true) : TableLaw s := by
  simp only [TableLaw.check, Bool.and_eq_true, decide_eq_true_eq] at h
  obtain ⟨⟨⟨h1, h2⟩, h3⟩, h4⟩ := h
  exact ⟨fun i => ⟨EntryLaw.of_check (h1 i).1, (h1 i).2⟩, h2, FlightRecord.bounded_of h3,
    fun i k e => of_ifSome' (p := fun k : KeptLists => k.history.length ≤ 3 ∧ k.suspects.length ≤ 3) (h4 i) k e⟩

/-- A list's members stand pairwise in a relation. -/
def pairwiseB {α : Type} (r : α → α → Bool) : List α → Bool
  | [] => true
  | a :: l => l.all (r a) && pairwiseB r l

theorem of_pairwiseB {α : Type} {r : α → α → Bool} : ∀ {l : List α}, pairwiseB r l = true → l.Pairwise (r · · = true)
  | [], _ => List.Pairwise.nil
  | a :: l, h => by
    simp only [pairwiseB, Bool.and_eq_true, List.all_eq_true] at h
    exact List.Pairwise.cons h.1 (of_pairwiseB h.2)

def WindowLaw.check (w : Window) : Bool :=
  decide (w.best ≤ 255) && decide (w.heard.length ≤ 73920) && decide (w.heard = [] → w.lead = 0) &&
  w.peaks.all (fun p => w.latest.any fun l => decide (p.offset ≤ l)) && decide (w.peaks.length ≤ 8) &&
  pairwiseB (fun p q => decide (p.offset < q.offset)) w.peaks &&
  w.peaks.all (fun p => decide (w.best ≤ p.score * 2)) && decide (w.best ≠ 0 → w.peaks ≠ [])

theorem WindowLaw.of_check {w : Window} (h : WindowLaw.check w = true) : WindowLaw w := by
  simp only [WindowLaw.check, Bool.and_eq_true, decide_eq_true_eq, List.all_eq_true] at h
  obtain ⟨⟨⟨⟨⟨⟨⟨h1, ha⟩, hc⟩, hb⟩, h2⟩, h3⟩, h4⟩, h5⟩ := h
  refine ⟨h1, ha, hc, fun p hp => ?_, h2, (of_pairwiseB h3).imp of_decide_eq_true, h4, h5⟩
  obtain ⟨l, hl, hle⟩ := (Option.any_eq_true _ _).1 (hb p hp)
  exact ⟨l, hl, of_decide_eq_true hle⟩

def SlotState.check (s : State) : Slot → Bool
  | .free => true
  | .reserved o => decide (o = s.number ∧ (s.probe.round = .waking ∨ s.probe.round = .marking))
  | .opened w => WindowLaw.check w

theorem SlotState.of_check {s : State} {slot : Slot} (h : SlotState.check s slot = true) : SlotState s slot := by
  cases slot with
  | free => trivial
  | reserved o =>
    simp only [SlotState.check, decide_eq_true_eq] at h
    exact h
  | opened w => exact WindowLaw.of_check h

def SlotLaw.check (s : State) : Bool :=
  decide (∀ i : Fin 2, SlotState.check s s.probe.slots[i] = true) &&
  decide ((s.probe.slots[0].owner = s.probe.slots[1].owner → s.probe.slots[0].owner = none) ∧ s.probe.position ≤ 8191)

theorem SlotLaw.of_check {s : State} (h : SlotLaw.check s = true) : SlotLaw s := by
  simp only [SlotLaw.check, Bool.and_eq_true, decide_eq_true_eq] at h
  exact ⟨fun i => SlotState.of_check (h.1 i), h.2⟩

def RoundLaw.check (s : State) : Bool :=
  decide ((s.stc.mode ≠ .run → s.probe.round = .idle ∧ s.probe.timer = none) ∧
    (s.probe.round ≠ .idle → s.probe.timer = none) ∧ (s.probe.round ≠ .marking → s.probe.deadline = none) ∧
    (s.probe.round ≠ .emitting →
      s.probe.started = false ∧ s.probe.position = 0 ∧ s.probe.startsAt = none ∧ s.probe.lag = 0) ∧
    (s.probe.round = .emitting → s.probe.startsAt.isSome = true) ∧
    (s.probe.round = .waking ∨ s.probe.round = .marking → ∃ i : Fin 2, s.probe.slots[i] = .reserved s.number)) &&
  (decide (s.probe.round ≠ .marking ∧ s.probe.round ≠ .emitting) || s.image.any fun img => decide
    (s.channels[img.probeChannel].power = .active ∨ s.channels[img.probeChannel].power = .watch)) &&
  ifSome s.bus.attempt (fun a => decide (a.dropOnFailure = true → a.frame.body.isMark = true))

theorem RoundLaw.of_check {s : State} (h : RoundLaw.check s = true) : RoundLaw s := by
  simp only [RoundLaw.check, Bool.and_eq_true, decide_eq_true_eq] at h
  obtain ⟨⟨⟨h1, h2, h3, h4, h5, h6⟩, h7⟩, h8⟩ := h
  refine ⟨h1, h2, h3, h4, h5, fun hr => ?_, h6, fun a e => of_decide_eq_true (of_ifSome h8 e)⟩
  rcases Bool.or_eq_true_iff.1 h7 with hn | hi
  · have := of_decide_eq_true hn
    exact absurd hr (not_or.2 this)
  · obtain ⟨img, hs, hp⟩ := (Option.any_eq_true _ _).1 hi
    exact ⟨img, hs, of_decide_eq_true hp⟩

def TargetLaw.check (s : State) : Bool :=
  decide (s.solver.delay ≤ 1340000 ∧ s.solver.path ≤ 16777215 ∧ s.solver.offset ≤ 60) &&
  ifSome s.solver.computed (fun d => decide (d ≤ 1340000))

theorem TargetLaw.of_check {s : State} (h : TargetLaw.check s = true) : TargetLaw s := by
  simp only [TargetLaw.check, Bool.and_eq_true, decide_eq_true_eq] at h
  exact ⟨h.1.1, h.1.2.1, h.1.2.2, fun d e => of_decide_eq_true (of_ifSome h.2 e)⟩

def RankOk.check (kind : Option StationKind) (state : SolverState) (rank : Nat) : Bool :=
  match kind with
  | none => false
  | some .origin => decide (rank = 0)
  | some .delay => decide (1 ≤ rank ∧ rank ≤ 15 ∧ (rank = 15 ↔ state = .fallback))

theorem RankOk.of_check {kind : Option StationKind} {state : SolverState} {rank : Nat}
    (h : RankOk.check kind state rank = true) : RankOk kind state rank := by
  rcases kind with _ | _ | _
  · exact absurd h (by simp [RankOk.check])
  · simp only [RankOk.check, decide_eq_true_eq] at h
    exact h
  · simp only [RankOk.check, decide_eq_true_eq] at h
    exact h

def frameRankOkB (kind : Option StationKind) (f : Frame) : Bool :=
  match f.body with
  | .align r => RankOk.check kind r.solver r.rank.toNat
  | _ => true

theorem of_frameRankOkB {kind : Option StationKind} {f : Frame} (h : frameRankOkB kind f = true) : frameRankOk kind f := by
  obtain ⟨src, dst, body⟩ := f
  cases body
  case align r => exact RankOk.of_check h
  all_goals trivial

def RankLaw.check (s : State) : Bool :=
  (if s.serving then
    RankOk.check s.stc.kind s.solver.state s.solver.rank &&
    decide ((s.stc.kind = some .origin → s.solver.state = .origin ∧ s.solver.settle = none ∧ s.solver.hold = .stopped) ∧
      (s.stc.kind = some .delay → s.solver.state ≠ .origin))
   else
    decide (s.solver.state = .fallback ∧ s.solver.rank = 15 ∧ s.solver.settle = none ∧ s.solver.hold = .stopped)) &&
  s.bus.queue.all (fun e => frameRankOkB s.stc.kind e.frame) && ifSome s.bus.attempt (fun a => frameRankOkB s.stc.kind a.frame)

theorem RankLaw.of_check {s : State} (h : RankLaw.check s = true) : RankLaw s := by
  simp only [RankLaw.check, Bool.and_eq_true, List.all_eq_true] at h
  obtain ⟨⟨h1, h2⟩, h3⟩ := h
  refine ⟨?_, fun e he => of_frameRankOkB (h2 e he), fun a e => of_frameRankOkB (of_ifSome h3 e)⟩
  split at h1
  · next hs =>
    simp only [Bool.and_eq_true, decide_eq_true_eq] at h1
    exact (if_pos hs).mpr ⟨RankOk.of_check h1.1, h1.2⟩
  · next hs => exact (if_neg hs).mpr (of_decide_eq_true h1)

def DelayLaw.check (s : State) : Bool :=
  decide (∀ c : Fin 4,
    let ch := s.channels[c]
    ch.target ≤ 65280 ∧ ch.applied ≤ 65280 * 4096 ∧ (ch.slew = .settled → ch.applied = ch.target * 4096) ∧
    (ch.slew = .up → ch.applied < ch.target * 4096) ∧ (ch.slew = .down → ch.target * 4096 < ch.applied) ∧
    (ch.power.sounding = false → ch.slew = .settled))

theorem DelayLaw.of_check {s : State} (h : DelayLaw.check s = true) : DelayLaw s := by
  simp only [DelayLaw.check, decide_eq_true_eq] at h
  exact h

def FormedLaw.check (s : State) : Bool :=
  ifSome s.image fun img => decide (∀ c : Fin 4,
    s.channels[c].target = (s.solver.delay * 48 + 500) / 1000 + img.channels[c].trim)

theorem FormedLaw.of_check {s : State} (h : FormedLaw.check s = true) : FormedLaw s :=
  fun _ e => of_decide_eq_true (of_ifSome h e)

def ChannelEqLaw.check (ch : Channel) : Bool :=
  decide (ch.crossfade = .idle → ch.waiting = none ∧ ch.nextStages = StageMemories.silent) &&
  (match ch.crossfade with
   | .running _ _ k => decide (k < 2400)
   | .idle => true) &&
  (match ch.ramp with
   | .running _ k => decide (k < 960)
   | .idle => true) &&
  decide ((ch.ramp = .idle → ch.factor = .of ch.gainTarget) ∧
    (ch.power.sounding = false → ch.crossfade = .idle ∧ ch.ramp = .idle) ∧ ch.preset ≤ 3 ∧ ch.storedGain ≤ 184)

theorem ChannelEqLaw.of_check {ch : Channel} (h : ChannelEqLaw.check ch = true) : ChannelEqLaw ch := by
  simp only [ChannelEqLaw.check, Bool.and_eq_true, decide_eq_true_eq] at h
  obtain ⟨⟨⟨h1, h2⟩, h3⟩, h4⟩ := h
  refine ⟨h1, fun a b k e => ?_, fun f k e => ?_, h4⟩
  · rw [e] at h2
    exact of_decide_eq_true h2
  · rw [e] at h3
    exact of_decide_eq_true h3

def ChannelPowerLaw.check (ch : Channel) : Bool :=
  decide (ch.enable = ch.power.enabled ∧ (ch.silence.isSome = true ↔ ch.power = .watch) ∧
    (ch.wake.isSome = true ↔ ch.power = .waking) ∧ (ch.cause.isSome = true ↔ ch.power = .fault)) &&
  ifSome ch.fade (fun k => decide (k < 48 ∧ ch.power.gateOpen = true)) &&
  decide (ch.wakeLoss = true → ch.power = .waking)

theorem ChannelPowerLaw.of_check {ch : Channel} (h : ChannelPowerLaw.check ch = true) : ChannelPowerLaw ch := by
  simp only [ChannelPowerLaw.check, Bool.and_eq_true, decide_eq_true_eq] at h
  obtain ⟨⟨⟨h1, h2, h3, h4⟩, h5⟩, h6⟩ := h
  exact ⟨h1, h2, h3, h4, fun k e => of_decide_eq_true (of_ifSome h5 e), h6⟩

def AlarmLaw.check (s : State) : Bool :=
  decide (s.emc.emergency = (s.ownAlarm || !s.emc.sources.isEmpty)) &&
  pairwiseB (fun a b => decide (a < b)) s.emc.sources &&
  s.emc.sources.all (fun n => decide (isStation n = true ∧ n ≠ s.number)) &&
  decide (s.stc.straps.latched = false → s.emc.latch = false)

theorem AlarmLaw.of_check {s : State} (h : AlarmLaw.check s = true) : AlarmLaw s := by
  simp only [AlarmLaw.check, Bool.and_eq_true, decide_eq_true_eq, List.all_eq_true] at h
  obtain ⟨⟨⟨h1, h2⟩, h3⟩, h4⟩ := h
  exact ⟨h1, (of_pairwiseB h2).imp of_decide_eq_true, h3, h4⟩

def CalmLaw.check (s : State) : Bool :=
  decide ((s.emc.emergency = true →
      s.probe.round = .idle ∧ s.cue.list = .idle ∧ (∀ i : Fin 2, s.probe.slots[i] = .free) ∧
      (s.stc.mode ≠ .configFault → s.solver.emergencyFreeze = true)) ∧
    (s.solver.emergencyFreeze = true → s.emc.emergency = true) ∧
    (s.frozen = true → s.solver.hold.isRunning = false) ∧ (s.cue.list ≠ .idle → s.serving = true))

theorem CalmLaw.of_check {s : State} (h : CalmLaw.check s = true) : CalmLaw s := by
  simp only [CalmLaw.check, decide_eq_true_eq] at h
  exact h

def ListLaw.check (s : State) : Bool :=
  ifSome s.cue.list.context fun c => decide (c.cue ≤ 63 ∧ c.params.length ≤ 4 ∧ c.position ≤ 512)

theorem ListLaw.of_check {s : State} (h : ListLaw.check s = true) : ListLaw s :=
  fun _ e => of_decide_eq_true (of_ifSome h e)

def QueueLaw.check (s : State) : Bool :=
  decide (s.bus.queue.length ≤ 8 ∧ queueCount s FrameBody.isAlign ≤ 1 ∧ queueCount s FrameBody.isEvac ≤ 1 ∧
    queueCount s FrameBody.isMark ≤ 1 ∧ queueCount s FrameBody.isRoll ≤ 1) &&
  pairwiseB (fun a b => decide (a.cls < b.cls ∨ a.cls = b.cls ∧ a.arrival < b.arrival)) s.bus.queue &&
  decide ((s.bus.queue.map (·.arrival)).Nodup) &&
  s.bus.queue.all (fun e => decide (e.arrival < s.bus.nextArrival)) &&
  s.bus.queue.all (fun e => decide (e.frame.body.isMark = true → s.probe.round = .marking)) &&
  ifSome s.bus.attempt (fun a => decide (a.frame.body.isMark = true →
    s.probe.round = .marking ∧ a.superseded = false ∧
    ∃ e ∈ s.bus.queue, e.frame.body.isMark = true ∧ e.arrival = a.arrival))

theorem QueueLaw.of_check {s : State} (h : QueueLaw.check s = true) : QueueLaw s := by
  simp only [QueueLaw.check, Bool.and_eq_true, decide_eq_true_eq, List.all_eq_true] at h
  obtain ⟨⟨⟨⟨⟨⟨h1, h2, h3, h4, h5⟩, h6⟩, h7⟩, h8⟩, h9⟩, h10⟩ := h
  exact ⟨h1, h2, h3, h4, h5, (of_pairwiseB h6).imp of_decide_eq_true, h7, h8, h9,
    fun a e => of_decide_eq_true (of_ifSome h10 e)⟩

def LineLaw.check (s : State) : Bool :=
  decide (s.bus.tfc ≤ 71 ∧ (s.bus.txQuiet = true ↔ 64 ≤ s.bus.tfc) ∧ s.bus.recovery < 128 ∧
    (s.bus.txQuiet = true ∨ s.stc.mode = .conflict → s.bus.queue = [] ∧ s.bus.attempt = none))

theorem LineLaw.of_check {s : State} (h : LineLaw.check s = true) : LineLaw s := by
  simp only [LineLaw.check, decide_eq_true_eq] at h
  exact h

def MemoryLaw.check (s : State) : Bool :=
  Memory.wf s && decide (s.delay.writePos < 65536) && decide (s.level.history.length = 479)

theorem MemoryLaw.of_check {s : State} (h : MemoryLaw.check s = true) : MemoryLaw s := by
  simp only [MemoryLaw.check, Bool.and_eq_true, decide_eq_true_eq] at h
  exact ⟨h.1.1, h.1.2, h.2⟩

/-- A test for every law. -/
def Lawful.check (s : State) : Bool :=
  StartLaw.check s && HeldLaw.check s && TableLaw.check s && SlotLaw.check s && RoundLaw.check s && TargetLaw.check s &&
  RankLaw.check s && DelayLaw.check s && FormedLaw.check s &&
  decide (∀ c : Fin 4, ChannelEqLaw.check s.channels[c] = true) &&
  decide (∀ c : Fin 4, ChannelPowerLaw.check s.channels[c] = true) && AlarmLaw.check s && CalmLaw.check s &&
  ListLaw.check s && QueueLaw.check s && LineLaw.check s && MemoryLaw.check s

/-- A state that passes the test is lawful. -/
theorem Lawful.of_check {s : State} (h : Lawful.check s = true) : Lawful s := by
  simp only [Lawful.check, Bool.and_eq_true, decide_eq_true_eq] at h
  obtain ⟨⟨⟨⟨⟨⟨⟨⟨⟨⟨⟨⟨⟨⟨⟨⟨h1, h2⟩, h3⟩, h4⟩, h5⟩, h6⟩, h7⟩, h8⟩, h9⟩, h10⟩, h11⟩, h12⟩, h13⟩, h14⟩, h15⟩, h16⟩, h17⟩ := h
  exact ⟨StartLaw.of_check h1, HeldLaw.of_check h2, TableLaw.of_check h3, SlotLaw.of_check h4, RoundLaw.of_check h5,
    TargetLaw.of_check h6, RankLaw.of_check h7, DelayLaw.of_check h8, FormedLaw.of_check h9,
    fun c => ChannelEqLaw.of_check (h10 c), fun c => ChannelPowerLaw.of_check (h11 c), AlarmLaw.of_check h12,
    CalmLaw.of_check h13, ListLaw.of_check h14, QueueLaw.of_check h15, LineLaw.of_check h16, MemoryLaw.of_check h17⟩

end Sys2Proof.Machine
end

