-- ==== Sys2Proof/Laws/Memory.lean ====
section
/-! SUPPORT. The addressed buffers: what a write does to every read, that every memory operation keeps the canonical
form, and that canonical buffers with equal reads are equal. -/

namespace Sys2Proof.Machine

namespace Cells

variable {α : Type} [DecidableEq α] {d : α} {n : Nat}

theorem wfFrom_cons {lo a : Nat} {v : α} {m : List (Nat × α)} :
    wfFrom d n lo ((a, v) :: m) = true ↔ lo ≤ a ∧ a < n ∧ v ≠ d ∧ wfFrom d n (a + 1) m = true := by
  simp [wfFrom, and_assoc]

theorem wfFrom_weaken {lo lo' : Nat} (h : lo' ≤ lo) :
    ∀ {m : List (Nat × α)}, wfFrom d n lo m = true → wfFrom d n lo' m = true
  | [], _ => rfl
  | (a, v) :: m, w => by
    rw [wfFrom_cons] at w ⊢
    exact ⟨Nat.le_trans h w.1, w.2⟩

/-- Below its first address a canonical list reads as unlisted. -/
theorem read_below {lo a : Nat} (h : a < lo) :
    ∀ {m : List (Nat × α)}, wfFrom d n lo m = true → read d m a = d
  | [], _ => rfl
  | (b, v) :: m, w => by
    rw [wfFrom_cons] at w
    have hb : a ≠ b := by omega
    simp only [read, hb, if_false]
    exact read_below (lo := b + 1) (by omega) w.2.2.2

theorem wfFrom_erase {lo a : Nat} : ∀ {m : List (Nat × α)}, wfFrom d n lo m = true → wfFrom d n lo (erase m a) = true
  | [], _ => rfl
  | (b, v) :: m, w => by
    rw [wfFrom_cons] at w
    unfold erase
    split
    · exact wfFrom_weaken (by omega) w.2.2.2
    · rw [wfFrom_cons]
      exact ⟨w.1, w.2.1, w.2.2.1, wfFrom_erase w.2.2.2⟩

theorem read_erase_same {lo a : Nat} :
    ∀ {m : List (Nat × α)}, wfFrom d n lo m = true → read d (erase m a) a = d
  | [], _ => rfl
  | (b, v) :: m, w => by
    rw [wfFrom_cons] at w
    unfold erase
    split
    · next h => exact read_below (lo := b + 1) (by omega) w.2.2.2
    · next h =>
      simp only [read, h, if_false]
      exact read_erase_same w.2.2.2

omit [DecidableEq α] in
theorem read_erase_other {a c : Nat} (h : c ≠ a) :
    ∀ m : List (Nat × α), read d (erase m a) c = read d m c
  | [] => rfl
  | (b, v) :: m => by
    unfold erase
    split
    · next hab =>
      have : c ≠ b := by omega
      simp [read, this]
    · simp only [read]
      split
      · rfl
      · exact read_erase_other h m

theorem wfFrom_insert {a : Nat} {v : α} (hn : a < n) (hv : v ≠ d) :
    ∀ {lo : Nat} {m : List (Nat × α)}, lo ≤ a → wfFrom d n lo m = true → read d m a = d →
      wfFrom d n lo (insert m a v) = true
  | lo, [], hlo, _, _ => by simp [insert, wfFrom, hlo, hn, hv]
  | lo, (b, w) :: m, hlo, hw, hr => by
    rw [wfFrom_cons] at hw
    have hab : a ≠ b := by
      intro e
      subst e
      simp [read] at hr
      exact hw.2.2.1 hr
    unfold insert
    split
    · next hlt =>
      rw [wfFrom_cons, wfFrom_cons]
      exact ⟨hlo, hn, hv, by omega, hw.2.1, hw.2.2.1, hw.2.2.2⟩
    · next hge =>
      rw [wfFrom_cons]
      refine ⟨hw.1, hw.2.1, hw.2.2.1, wfFrom_insert hn hv (by omega) hw.2.2.2 ?_⟩
      simpa [read, hab] using hr

omit [DecidableEq α] in
theorem read_insert_same {a : Nat} {v : α} :
    ∀ m : List (Nat × α), read d m a = d → (∀ p ∈ m, p.1 ≠ a) → read d (insert m a v) a = v
  | [], _, _ => by simp [insert, read]
  | (b, w) :: m, hr, hm => by
    have hab : a ≠ b := fun e => hm (b, w) (by simp) e.symm
    unfold insert
    split
    · simp [read]
    · simp only [read, hab, if_false] at hr ⊢
      exact read_insert_same m hr fun p hp => hm p (by simp [hp])

omit [DecidableEq α] in
theorem read_insert_other {a c : Nat} {v : α} (h : c ≠ a) :
    ∀ m : List (Nat × α), read d (insert m a v) c = read d m c
  | [] => by simp [insert, read, h]
  | (b, w) :: m => by
    unfold insert
    split
    · simp [read, h]
    · simp only [read]
      split
      · rfl
      · exact read_insert_other h m

theorem erase_lists_not {lo a : Nat} :
    ∀ {m : List (Nat × α)}, wfFrom d n lo m = true → ∀ p ∈ erase m a, p.1 ≠ a
  | [], _, p, hp => by simp [erase] at hp
  | (b, v) :: m, w, p, hp => by
    rw [wfFrom_cons] at w
    unfold erase at hp
    split at hp
    · next h =>
      subst h
      exact fun e => absurd hp (rising w.2.2.2 p (by omega))
    · next h =>
      rcases List.mem_cons.1 hp with rfl | hp
      · exact fun e => h e.symm
      · exact erase_lists_not w.2.2.2 p hp
where
  rising {lo : Nat} : ∀ {m : List (Nat × α)}, wfFrom d n lo m = true → ∀ p : Nat × α, p.1 < lo → p ∉ m
    | [], _, p, _, hp => by simp at hp
    | (b, v) :: m, w, p, hlt, hp => by
      rw [wfFrom_cons] at w
      rcases List.mem_cons.1 hp with rfl | hp
      · simp at hlt; omega
      · exact rising w.2.2.2 p (by omega) hp

/-- A write keeps the canonical form. -/
theorem wfFrom_write {lo a : Nat} {v : α} {m : List (Nat × α)} (hlo : lo ≤ a) (hn : a < n)
    (w : wfFrom d n lo m = true) : wfFrom d n lo (write d m a v) = true := by
  unfold write
  split
  · exact wfFrom_erase w
  · next hv => exact wfFrom_insert hn hv hlo (wfFrom_erase w) (read_erase_same w)

/-- What a write leaves at its own address. -/
theorem read_write_same {lo a : Nat} {v : α} {m : List (Nat × α)} (w : wfFrom d n lo m = true) :
    read d (write d m a v) a = v := by
  unfold write
  split
  · next hv => rw [read_erase_same w, hv]
  · exact read_insert_same _ (read_erase_same w) (erase_lists_not w)

/-- What a write leaves at every other address. -/
theorem read_write_other {a c : Nat} {v : α} {m : List (Nat × α)} (h : c ≠ a) :
    read d (write d m a v) c = read d m c := by
  unfold write
  split
  · exact read_erase_other h m
  · rw [read_insert_other h, read_erase_other h]

/-- A run of values installed from address `a` is in canonical form. -/
theorem wfFrom_ofList : ∀ {a : Nat} {l : List α}, a + l.length ≤ n → wfFrom d n a (ofList d a l) = true
  | _, [], _ => rfl
  | a, v :: l, h => by
    simp only [List.length_cons] at h
    unfold ofList
    split
    · exact wfFrom_weaken (by omega) (wfFrom_ofList (a := a + 1) (by omega))
    · next hv =>
      rw [wfFrom_cons]
      exact ⟨Nat.le_refl _, by omega, hv, wfFrom_ofList (a := a + 1) (by omega)⟩

/-- A run of values reads below its first address as unlisted. -/
theorem read_ofList_below : ∀ {l : List α} {a c : Nat}, c < a → read d (ofList d a l) c = d
  | [], _, _, _ => rfl
  | v :: l, a, c, h => by
    unfold ofList
    split
    · exact read_ofList_below (by omega)
    · have : c ≠ a := by omega
      simp only [read, this, if_false]
      exact read_ofList_below (by omega)

/-- A run of values reads as itself. -/
theorem read_ofList : ∀ {l : List α} {a c : Nat}, read d (ofList d a l) (a + c) = l.getD c d
  | [], _, _ => by simp [ofList, read]
  | v :: l, a, 0 => by
    unfold ofList
    split
    · next hv => simpa [hv] using read_ofList_below (l := l) (a := a + 1) (c := a) (by omega)
    · simp [read]
  | v :: l, a, c + 1 => by
    have e : a + (c + 1) = (a + 1) + c := by omega
    unfold ofList
    split
    · rw [e, read_ofList]; simp
    · have : a + (c + 1) ≠ a := by omega
      simp only [read, this, if_false]
      rw [e, read_ofList]; simp

/-- Canonical lists that read alike are equal. -/
theorem eq_of_read : ∀ {lo : Nat} {m m' : List (Nat × α)}, wfFrom d n lo m = true → wfFrom d n lo m' = true →
    (∀ a, read d m a = read d m' a) → m = m'
  | _, [], [], _, _, _ => rfl
  | _, [], (b, v) :: m', _, w', h => by
    rw [wfFrom_cons] at w'
    exact absurd (by simpa [read] using (h b).symm) w'.2.2.1
  | _, (a, v) :: m, [], w, _, h => by
    rw [wfFrom_cons] at w
    exact absurd (by simpa [read] using h a) w.2.2.1
  | lo, (a, v) :: m, (b, u) :: m', w, w', h => by
    rw [wfFrom_cons] at w w'
    have hab : a = b := by
      rcases Nat.lt_trichotomy a b with hlt | e | hgt
      · have := h a
        rw [read_below (lo := b) (m := (b, u) :: m') hlt (by rw [wfFrom_cons]; exact ⟨Nat.le_refl _, w'.2⟩)] at this
        exact absurd (by simpa [read] using this) w.2.2.1
      · exact e
      · have := h b
        rw [read_below (lo := a) (m := (a, v) :: m) hgt (by rw [wfFrom_cons]; exact ⟨Nat.le_refl _, w.2⟩)] at this
        exact absurd (by simpa [read] using this.symm) w'.2.2.1
    subst hab
    have hv : v = u := by simpa [read] using h a
    subst hv
    congr 1
    refine eq_of_read w.2.2.2 w'.2.2.2 fun c => ?_
    by_cases hc : c = a
    · subst hc
      rw [read_below (lo := c + 1) (by omega) w.2.2.2, read_below (lo := c + 1) (by omega) w'.2.2.2]
    · simpa [read, hc] using h c

end Cells

/-! ### The memory operations of the machine -/

/-- The canonical form of the three buffers, one by one. -/
theorem memory_wf_iff (s : State) :
    Memory.wf s = true ↔ Cells.wfFrom 0 65536 0 s.delay.memory = true ∧ Cells.wfFrom false 65536 0 s.level.marks = true ∧
      Cells.wfFrom 0#8 512 0 s.cue.memory = true := by
  simp [Memory.wf, and_assoc]

/-- Memory.wf rests on the three buffers alone. -/
theorem memory_wf_congr {s t : State} (hd : t.delay.memory = s.delay.memory) (hl : t.level.marks = s.level.marks)
    (hc : t.cue.memory = s.cue.memory) : Memory.wf t = Memory.wf s := by
  simp [Memory.wf, hd, hl, hc]

/-- State.reset's memory is in canonical form. -/
theorem memory_wf_reset : Memory.wf State.reset = true := rfl

/-- Writing a programme sample keeps the canonical form. -/
theorem memory_wf_writeSample (x : Int) (present : Bool) {s : State} (hp : s.delay.writePos < 65536)
    (w : Memory.wf s = true) : Memory.wf (writeSample x present s) = true := by
  rw [memory_wf_iff] at w ⊢
  exact ⟨Cells.wfFrom_write (Nat.zero_le _) hp w.1, Cells.wfFrom_write (Nat.zero_le _) hp w.2.1, w.2.2⟩

/-- Advancing the write position keeps the canonical form. -/
theorem memory_wf_advanceWrite (s : State) : Memory.wf (advanceWrite s) = Memory.wf s := rfl

/-- A reset gives memory in canonical form. -/
theorem memory_wf_resetState (straps : Straps) (s : State) : Memory.wf (resetState straps s) = true := rfl

/-- Installing an image keeps the canonical form. -/
theorem memory_wf_installImage (img : Image) {s : State} (hc : img.cueBytes.length ≤ 512) (w : Memory.wf s = true) :
    Memory.wf (installImage img s) = true := by
  rw [memory_wf_iff] at w ⊢
  refine ⟨?_, ?_, ?_⟩
  · simpa [installImage, forChannels] using w.1
  · simpa [installImage, forChannels] using w.2.1
  · simpa [installImage, forChannels] using Cells.wfFrom_ofList (d := 0#8) (n := 512) (a := 0) (l := img.cueBytes) (by omega)

end Sys2Proof.Machine
end

