-- ==== Sys2Proof/Laws/PerInstr.lean ====
section
/-! SUPPORT. The per-command family: a well-formed command names only numbers that six bits of a frame header hold. -/

namespace Sys2Proof.Laws

/-- The numbers a command puts into the six-bit fields of a frame header (R198): source, then destination. -/
def headerNumbers : Instr → List Nat
  | .align src _ | .roll src _ | .mark src _ | .evac src _ | .restart src _ _ => [src, 63]
  | .cue src dst _ _ _ | .query src dst _ | .reply src dst => [src, dst]
  | _ => []

namespace WellFormed

/-- Every number of a well-formed command fits its six bits (R161, R198). -/
def Statement (i : Instr) : Prop := i.wellFormed = true → ∀ n ∈ headerNumbers i, n ≤ 63

theorem none_named {i : Instr} (h : headerNumbers i = []) : Statement i := fun _ n m => by simp [h] at m

theorem two_named {i : Instr} {a b : Nat} (h : headerNumbers i = [a, b]) (k : i.wellFormed = true → a ≤ 63 ∧ b ≤ 63) :
    Statement i := fun w n m => by
  have := k w
  simp only [h, List.mem_cons, List.not_mem_nil, or_false] at m
  omega

theorem at_most_63 {n : Nat} (h : isStation n = true) : n ≤ 63 := by
  simp only [isStation, Bool.and_eq_true, decide_eq_true_eq] at h
  omega

/-- A frame's two numbers, once it is well-formed. -/
theorem numbers_of_frame {src dst : Nat} {body : FrameBody} (h : Frame.wellFormed ⟨src, dst, body⟩ = true) :
    src ≤ 63 ∧ dst ≤ 63 := by
  simp only [Frame.wellFormed, Bool.and_eq_true] at h
  refine ⟨at_most_63 h.1.1, ?_⟩
  have d := h.1.2
  cases body <;> simp only [FrameBody.destinationAllowed, Bool.or_eq_true, beq_iff_eq] at d <;> first
    | exact Nat.le_of_eq d
    | exact at_most_63 d
    | exact d.elim Nat.le_of_eq at_most_63

/-- The two numbers of a REPLY. -/
theorem numbers_of_reply {src dst : Nat} (h : (isStation src && isStation dst) = true) : src ≤ 63 ∧ dst ≤ 63 := by
  simp only [Bool.and_eq_true] at h
  exact ⟨at_most_63 h.1, at_most_63 h.2⟩

theorem hardReset (straps : Straps) : Statement (.hardReset straps) := none_named rfl
theorem imageHeaderRead (header : List Byte) : Statement (.imageHeaderRead header) := none_named rfl
theorem imageReadTimeout : Statement (.imageReadTimeout) := none_named rfl
theorem imageReadComplete (rest : List Byte) : Statement (.imageReadComplete rest) := none_named rfl
theorem claimTimerExpiry : Statement (.claimTimerExpiry) := none_named rfl
theorem align (src : Nat) (record : AlignRecord) : Statement (.align src record) := two_named rfl numbers_of_frame
theorem roll (src : Nat) (body : RollBody) : Statement (.roll src body) := two_named rfl numbers_of_frame
theorem mark (src : Nat) (stamp : Instant) : Statement (.mark src stamp) := two_named rfl numbers_of_frame
theorem evac (src : Nat) (set : Bool) : Statement (.evac src set) := two_named rfl numbers_of_frame
theorem cue (src dst : Nat) (number : Byte) (params : List Byte) (burst : Option Nat) :
    Statement (.cue src dst number params burst) := two_named rfl numbers_of_frame
theorem waitTimerExpiry (burst : Option Nat) : Statement (.waitTimerExpiry burst) := none_named rfl
theorem query (src dst : Nat) (body : QueryBody) : Statement (.query src dst body) := two_named rfl numbers_of_frame
theorem restart (src : Nat) (unit : BitVec 32) (straps : Straps) : Statement (.restart src unit straps) := two_named rfl numbers_of_frame
theorem reply (src dst : Nat) : Statement (.reply src dst) := two_named rfl numbers_of_reply
theorem duplicateFrame (roll : Option RollBody) : Statement (.duplicateFrame roll) := none_named rfl
theorem interFrameGap (burst : Option Nat) : Statement (.interFrameGap burst) := none_named rfl
theorem txAttempt : Statement (.txAttempt) := none_named rfl
theorem txSuccess : Statement (.txSuccess) := none_named rfl
theorem txCollision : Statement (.txCollision) := none_named rfl
theorem txQuietRecovery : Statement (.txQuietRecovery) := none_named rfl
theorem probeTimerExpiry : Statement (.probeTimerExpiry) := none_named rfl
theorem markDeadlineExpiry : Statement (.markDeadlineExpiry) := none_named rfl
theorem emissionStart : Statement (.emissionStart) := none_named rfl
theorem emissionEnd : Statement (.emissionEnd) := none_named rfl
theorem windowClose (slot : Fin 2) : Statement (.windowClose slot) := none_named rfl
theorem secondTick : Statement (.secondTick) := none_named rfl
theorem entryStale (entry : Fin 16) : Statement (.entryStale entry) := none_named rfl
theorem entryLost (entry : Fin 16) : Statement (.entryLost entry) := none_named rfl
theorem poolRelease (entry : Fin 16) : Statement (.poolRelease entry) := none_named rfl
theorem airReply (reply : SensorReply) : Statement (.airReply reply) := none_named rfl
theorem airReplyTimeout : Statement (.airReplyTimeout) := none_named rfl
theorem settleExpiry : Statement (.settleExpiry) := none_named rfl
theorem holdTimerExpiry : Statement (.holdTimerExpiry) := none_named rfl
theorem refreshTimerExpiry : Statement (.refreshTimerExpiry) := none_named rfl
theorem slewComplete (channel : Fin 4) : Statement (.slewComplete channel) := none_named rfl
theorem crossfadeEnd (channel : Fin 4) : Statement (.crossfadeEnd channel) := none_named rfl
theorem rampEnd (channel : Fin 4) : Statement (.rampEnd channel) := none_named rfl
theorem programmeJudgementChange (present : Bool) : Statement (.programmeJudgementChange present) := none_named rfl
theorem silenceTimerExpiry (channel : Fin 4) : Statement (.silenceTimerExpiry channel) := none_named rfl
theorem readyAsserted (channel : Fin 4) : Statement (.readyAsserted channel) := none_named rfl
theorem readyLost (channel : Fin 4) : Statement (.readyLost channel) := none_named rfl
theorem faultLineAsserted (channel : Fin 4) : Statement (.faultLineAsserted channel) := none_named rfl
theorem faultLineReleased (channel : Fin 4) : Statement (.faultLineReleased channel) := none_named rfl
theorem wakeTimerExpiry (channel : Fin 4) : Statement (.wakeTimerExpiry channel) := none_named rfl
theorem gateFadeEnd (channel : Fin 4) : Statement (.gateFadeEnd channel) := none_named rfl
theorem lostSample (channel : Fin 4) : Statement (.lostSample channel) := none_named rfl
theorem contactPinChange (line : ContactLine) (level : Bool) : Statement (.contactPinChange line level) := none_named rfl
theorem debouncedContactAsserted : Statement (.debouncedContactAsserted) := none_named rfl
theorem debouncedContactReleased : Statement (.debouncedContactReleased) := none_named rfl
theorem resetContactAsserted : Statement (.resetContactAsserted) := none_named rfl
theorem resetContactReleased : Statement (.resetContactReleased) := none_named rfl
theorem evacRefreshExpiry : Statement (.evacRefreshExpiry) := none_named rfl
theorem correlatorPeak (slot : Fin 2) (offset : Nat) (score : Byte) : Statement (.correlatorPeak slot offset score) := none_named rfl
theorem programmeSample (sample : AudioInput) : Statement (.programmeSample sample) := none_named rfl
theorem lineCharacter (char : LineChar) (driven : Bool) : Statement (.lineCharacter char driven) := none_named rfl

end WellFormed

end Sys2Proof.Laws
end

