-- ==== Sys2Proof/Laws/Sample.lean ====
section
/-! SUPPORT. What one programme sample does to one channel's chain and to a window: the chain writes its own fields alone, a
passing stage passes, a window's samples and peaks grow by the rules of chapter 2. -/

namespace Sys2Proof.Machine

/-! ### The chain (R87, R88, R96) -/

@[simp] theorem filterOutput_pass (memory : List Int) (x : Int) : filterOutput .pass memory x = x := rfl

@[simp] theorem settingFilter_flat (s : State) (c : Fin 4) (k : Nat) : settingFilter s c .flat k = .pass := rfl

/-- A copy whose stages all pass gives its input (R88). -/
theorem copyOutput_pass {f : Nat → Filter} (h : ∀ k, f k = .pass) (m : StageMemories) (x : Int) : copyOutput f m x = x := by
  simp [copyOutput, stageInput, h]

/-- A FLAT chain gives its input (R88, section 5.2). -/
@[simp] theorem copyOutput_flat (s : State) (c : Fin 4) (m : StageMemories) (x : Int) :
    copyOutput (settingFilter s c .flat) m x = x := copyOutput_pass (fun _ => rfl) m x

/-- Forming the chain writes the chain's sample and the memories, and nothing else of the channel. -/
theorem equalise_frame (s : State) (c : Fin 4) (x : Int) (ch : Channel) :
    equalise s c x ch =
      { ch with
        chain := (equalise s c x ch).chain
        stages := (equalise s c x ch).stages
        nextStages := (equalise s c x ch).nextStages } := by
  unfold equalise
  split <;> rfl

/-- The chain keeps the sample read and the gain factor applied. -/
theorem equalise_chain (s : State) (c : Fin 4) (x : Int) (ch : Channel) :
    (equalise s c x ch).chain.read = x ∧ (equalise s c x ch).chain.gain = ch.factor := by
  unfold equalise
  split <;> exact ⟨rfl, rfl⟩

/-- With the crossfade IDLE the second copy stays as it is (R96). -/
theorem equalise_idle {ch : Channel} (h : ch.crossfade = .idle) (s : State) (c : Fin 4) (x : Int) :
    (equalise s c x ch).nextStages = ch.nextStages ∧
      (equalise s c x ch).chain.eq = 2400 * copyOutput (settingFilter s c ch.active) ch.stages x := by
  unfold equalise
  rw [h]
  exact ⟨rfl, rfl⟩

/-- A blend starts at the from-copy's output and goes to the to-copy's by equal steps (R96). -/
theorem blend_spec (src dst : Int) (k : Nat) :
    blend src dst 0 = 2400 * src ∧ blend src dst 2400 = 2400 * dst ∧
      blend src dst (k + 1) = blend src dst k + (dst - src) := by
  unfold blend
  refine ⟨by omega, by omega, ?_⟩
  push_cast
  ring

/-! ### Gain factors (R101, R102) -/

@[simp] theorem amplitude_silence : GainTarget.amplitude .silence = 0 := rfl

@[simp] theorem Factor.amplitude_of (g : GainTarget) : (Factor.of g).amplitude = g.amplitude := rfl

/-- 0.0 dB is the factor 1 (R101). -/
theorem amplitude_unity : GainTarget.amplitude (.gain 160) = 1 := by
  norm_num [GainTarget.amplitude, gainDecibels]

/-- −80.0 dB is the factor 0.0001 (R101). -/
theorem amplitude_lowest : GainTarget.amplitude (.gain 0) = 1 / 10000 := by
  rw [GainTarget.amplitude, gainDecibels, show (((0 : ℕ) : ℝ) / 2 - 80) / 20 = ((-4 : ℤ) : ℝ) by norm_num, Real.rpow_intCast]
  norm_num

/-- No gain in dB is silence (R101). -/
theorem amplitude_gain_pos (code : Nat) : 0 < GainTarget.amplitude (.gain code) := Real.rpow_pos_of_pos (by norm_num) _

/-- A ramp stands at its start factor before its first sample and at its target after its last (R102). -/
theorem Factor.amplitude_ramp_ends (start : Factor) (target : GainTarget) :
    (Factor.ramp start target 0).amplitude = start.amplitude ∧
      (Factor.ramp start target 960).amplitude = target.amplitude := by
  constructor <;> simp [Factor.amplitude]

/-! ### The microphone and the peaks (R37, R39) -/

/-- A window that takes a microphone sample changes its samples and their lead alone, never exceeds its span, and keeps
the lead 0 until the first sample. -/
theorem Window.hear_spec (now : Instant) (x : Int) (w : Window) :
    w.hear now x = { w with heard := (w.hear now x).heard, lead := (w.hear now x).lead } ∧
      (w.heard.length ≤ windowSamples → (w.hear now x).heard.length ≤ windowSamples) ∧
      ((w.heard = [] → w.lead = 0) → (w.hear now x).heard = [] → (w.hear now x).lead = 0) := by
  unfold Window.hear
  split
  · next h => exact ⟨rfl, fun _ => h.2.2, fun _ h => absurd h (List.cons_ne_nil _ _)⟩
  · exact ⟨rfl, id, id⟩

/-- A microphone sample after the first one leaves the lead as it is. -/
theorem Window.hear_lead {w : Window} (h : w.heard ≠ []) (now : Instant) (x : Int) : (w.hear now x).lead = w.lead := by
  unfold Window.hear
  split
  · simp
  · rfl

@[simp] theorem hearSample_slot (x : Int) (s : State) (i : Fin 2) :
    (hearSample x s).probe.slots[i] = Slot.hear s.timeBase x s.probe.slots[i] := by
  simp [hearSample, mapVector, State.modProbe]

/-- The grid's score of the sequence alone is 255 (R38). -/
theorem Window.gridScore_alone {w : Window} {n : Nat} (h : w.aloneAt n = true) : w.gridScore n = 255 := by
  unfold Window.gridScore
  exact if_pos h

/-- The grid's score of samples that do not correlate is 0 (R38). -/
theorem Window.gridScore_zero {w : Window} {n : Nat} (h : w.aloneAt n = false)
    (hc : correlation w.owner 0 (w.span n) ≤ 0) : w.gridScore n = 0 := by
  simp [Window.gridScore, h, hc]

/-- A score of the grid is at most 255 (R38). -/
theorem Window.gridScore_le (w : Window) (n : Nat) : w.gridScore n ≤ 255 := by
  unfold Window.gridScore
  dsimp only
  repeat' split
  all_goals omega

/-- Where the grid has a score its offset is one that R37 scores. -/
theorem Window.offset_of_score {w : Window} {n : Nat} (h : 0 < w.gridScore n) : w.offsetOf n ≤ maxOffset := by
  unfold Window.gridScore at h
  dsimp only at h
  split at h
  · next ha => exact of_decide_eq_true (Bool.and_eq_true_iff.1 ha).2
  · split at h
    · omega
    · next hn => omega

/-- Only the sequence alone stands at 256 (R38). -/
theorem Window.standing_lt {w : Window} {n : Nat} (h : w.aloneAt n = false) : w.standing n < 256 := by
  simp only [Window.standing, h]
  exact Nat.lt_succ_of_le (w.gridScore_le n)

/-- A score is at most 255, refined or not (R38). -/
theorem Window.scored_le (w : Window) (n : Nat) : (w.scored n).score ≤ 255 := by
  have := w.gridScore_le n
  unfold Window.scored Window.refined
  repeat' split
  all_goals first | exact Nat.le_refl _ | (dsimp only; omega)

/-- A refined offset lies less than a sample off its place (R38, log 28). -/
theorem Window.scored_near (w : Window) (n : Nat) :
    w.offsetOf n ≤ (w.scored n).offset + 20 ∧ (w.scored n).offset ≤ w.offsetOf n + 20 := by
  unfold Window.scored
  split
  · next h =>
    have bound := w.offset_of_score (of_decide_eq_true (Bool.and_eq_true_iff.1 (Bool.and_eq_true_iff.1 h).1).1)
    unfold Window.refined
    split <;> dsimp only <;> omega
  · dsimp only
    omega

/-- What a peak is (R38): a local maximum of the grid that nothing within 500 µs outdoes. -/
theorem Window.isPeak_iff (w : Window) (n : Nat) :
    w.isPeak n = true ↔ w.isMaximum n = true ∧ ∀ m, m ≠ n →
      (w.scored m).offset ≤ (w.scored n).offset + 500 → (w.scored n).offset ≤ (w.scored m).offset + 500 →
      (m < n → w.rank m < w.rank n) ∧ (n < m → w.rank m ≤ w.rank n) := by
  have notOutdone : ∀ m, w.outdoes m n = false ↔ (m ≠ n →
      (w.scored m).offset ≤ (w.scored n).offset + 500 → (w.scored n).offset ≤ (w.scored m).offset + 500 →
      (m < n → w.rank m < w.rank n) ∧ (n < m → w.rank m ≤ w.rank n)) := by
    intro m
    unfold Window.outdoes
    rcases Nat.lt_trichotomy m n with h | h | h
    · simp only [bne_iff_ne.2 (Nat.ne_of_lt h), if_pos h, Bool.true_and, ← Bool.decide_and,
        decide_eq_false_iff_not]
      omega
    · simp [h]
    · simp only [bne_iff_ne.2 (Nat.ne_of_gt h), if_neg (Nat.lt_asymm h), Bool.true_and, ← Bool.decide_and,
        decide_eq_false_iff_not]
      omega
  simp only [Window.isPeak, Bool.and_eq_true, List.all_eq_true, List.mem_range, Bool.or_eq_true, decide_eq_true_eq,
    Bool.not_eq_true', ← notOutdone]
  refine and_congr_right fun _ => ⟨fun h m => ?_, fun h k hk => .inr (h _)⟩
  by_cases near : n ≤ m + 25 ∧ m ≤ n + 25
  · have := (h (m + 25 - n) (by omega)).resolve_left (by omega)
    rwa [show n + (m + 25 - n) - 25 = m by omega] at this
  · refine (notOutdone m).2 fun _ h1 h2 => absurd near (not_not.2 ?_)
    have := w.scored_near m
    have := w.scored_near n
    unfold Window.offsetOf at *
    omega

/-- The sequence alone, with no other within 25 samples, is a peak where it arrives, of 255 (R38). -/
theorem Window.isPeak_alone {w : Window} {n : Nat} (h : w.aloneAt n = true)
    (only : ∀ m, m ≠ n → n ≤ m + 25 → m ≤ n + 25 → w.aloneAt m = false) :
    w.isPeak n = true ∧ w.scored n = ⟨w.offsetOf n, 255⟩ := by
  have standing : w.standing n = 256 := by simp [Window.standing, h]
  have max : w.isMaximum n = true := by
    simp only [Window.isMaximum, standing, Window.gridScore_alone h, Bool.and_eq_true, Option.all_eq_true, decide_eq_true_eq]
    refine ⟨⟨by decide, ?_⟩, fun x hx => ?_⟩
    · cases n with
      | zero => rfl
      | succ n => simpa using w.standing_lt (only n (by omega) (by omega) (by omega))
    · obtain ⟨d, hd, rfl⟩ := List.mem_map.1 (List.mem_of_find?_eq_some hx)
      have := List.mem_range.1 hd
      exact w.standing_lt (only (n + d + 1) (by omega) (by omega) (by omega))
  refine ⟨?_, by simp [Window.scored, max, Window.refined, h]⟩
  simp only [Window.isPeak, max, Bool.true_and, List.all_eq_true, List.mem_range, Bool.or_eq_true, decide_eq_true_eq,
    Bool.not_eq_true']
  intro k hk
  by_cases first : n + k < 25
  · exact .inl first
  · refine .inr ?_
    by_cases same : n + k - 25 = n
    · simp [Window.outdoes, same]
    · have other := only (n + k - 25) same (by omega) (by omega)
      have := w.scored_le (n + k - 25)
      have low : w.rank (n + k - 25) < w.rank n := by
        simp only [Window.rank, h, other, if_true]
        exact Nat.lt_succ_of_le this
      simp only [Window.outdoes, Bool.and_eq_false_iff]
      refine .inr ?_
      split <;> exact decide_eq_false (by omega)

/-- When CORRELATOR_PEAK names a peak of a window (R37, R38): one of its samples is that peak. -/
theorem peakPossible_iff (s : State) (w : Window) (offset score : Nat) :
    peakPossible s w offset score = true ↔
      s.image.elim 1 (·.threshold) ≤ score ∧ (∀ l, w.latest = some l → l + 500 < offset) ∧
        ∃ n, samplesNeeded n ≤ w.heard.length ∧ w.isPeak n = true ∧ w.scored n = ⟨offset, score⟩ := by
  have has : ∀ n, w.hasPeak offset score n = true ↔
      samplesNeeded n ≤ w.heard.length ∧ w.isPeak n = true ∧ w.scored n = ⟨offset, score⟩ := by
    intro n
    simp only [Window.hasPeak, Bool.and_eq_true, decide_eq_true_eq, beq_iff_eq, and_assoc]
  simp only [peakPossible, Bool.and_eq_true, Bool.or_eq_true, decide_eq_true_eq, Option.all_eq_true, and_assoc]
  refine and_congr_right fun _ => and_congr_right fun _ => ⟨fun h => ?_, fun ⟨n, h⟩ => ?_⟩
  · exact h.elim (fun h => ⟨_, (has _).1 h⟩) fun h => ⟨_, (has _).1 h⟩
  · have near := w.scored_near n
    rw [h.2.2] at near
    simp only [Window.offsetOf] at near
    have place : (offset - w.lead) * 6 / 125 = n ∨ (offset - w.lead) * 6 / 125 + 1 = n := by omega
    rcases place with e | e
    · exact .inl (by rw [e]; exact (has n).2 h)
    · exact .inr (by rw [e]; exact (has n).2 h)

/-- A peak writes the best score, the peaks and the latest offset, and nothing else of the window (R39). -/
theorem Window.takePeak_frame (offset score : Nat) (w : Window) :
    w.takePeak offset score =
      { w with
        best := (w.takePeak offset score).best
        peaks := (w.takePeak offset score).peaks
        latest := some offset } := by
  unfold Window.takePeak
  dsimp only
  repeat' split
  all_goals rfl

end Sys2Proof.Machine
end

