-- ==== Sys2Proof/Tests/Slice0.lean ====
section
/-! SUPPORT. The model's own tests: the checks of WellFormed refuse what they should, the numbers of the spec's worked
examples come out, each command does on a small state what its rule says, and the hypotheses of every statement are met
by a state written out. -/

namespace Sys2Proof.Tests

set_option Elab.async false

open Sys2Proof.Machine

/-! ### Small states -/

/-- The command answers a next state of which `p` holds. -/
def gives (c : Instr) (s : State) (p : State → Bool) : Bool :=
  match exec c s with
  | .next t => p t
  | _ => false

/-- Straps of a station: 250 kbit/s, LEVEL, active high. -/
def straps (number : BitVec 6) : Straps := ⟨number, false, false, true⟩

def plainFlags : AlignFlags := ⟨false, false, false, false, false, false⟩

/-- A record of an origin station with D = 4,000 µs at 29.0 °C. -/
def record (seq : BitVec 8) : AlignRecord := ⟨seq, .origin, 0, 4000, 0, plainFlags, 0, 0, some 290⟩

def roll (unit : BitVec 32) (fault contact : Bool) : RollBody := ⟨unit, 77, 2, fault, 0, contact⟩

def testChannelImage : ChannelImage where
  trim := 40
  autoStandby := true
  wakeLimit := 500
  startGain := 160
  startMute := false
  evacPreset := 3
  evacGain := 154
  presets := [[], [], [], []]

def testImage (kind : StationKind) : Image where
  id := 77
  length := 1100
  kind := kind
  originDelay := 4000
  fallbackDelay := 350000
  offset := 20
  deadband := 250
  slewCode := 2
  refresh := 5
  staleLimit := 15
  lostLimit := 60
  holdLimit := 60
  jumpLimit := 3
  probeInterval := 60
  probeChannel := 2
  probeLevel := 40
  threshold := 48
  micLatency := 96
  defaultTemp := 200
  defaultBand := 1
  silenceLevel := 60
  standbyDelay := 600
  bindings := ((Vector.replicate 16 .unused).set 0 (.single 2)).set 2 (.pool 5 6)
  channels := Vector.replicate 4 testChannelImage
  absorption := List.replicate 8 (List.replicate 4 none)
  cueBytes := []

/-- A channel at its target, with an open gate. -/
def soundingChannel : Channel :=
  { Channel.reset true false with
    target := 16840
    applied := 16840 * 4096
    active := .eq 0 none
    storedMute := false
    gainTarget := .gain 160
    factor := .of (.gain 160)
    power := .active
    enable := true }

def peerEntry (state : EntryState) (age : Nat) (seq : BitVec 8) : PeerEntry :=
  { PeerEntry.blank (.single 2) (some 2) with
    state := state
    record := some (record seq)
    unread := true
    age := some age
    flights := ⟨[180000], [], 0, false⟩ }

def poolEntry (state : EntryState) (age : Nat) : PeerEntry :=
  { PeerEntry.blank (.pool 5 6) (some 5) with state := state, record := some (record 9), age := some age }

/-- A delay station with number 11 in RUN: entry 0 FRESH, entry 2 a POOL that has adopted station 5, fallback delay
350 ms. -/
def running : State :=
  { State.reset with
    stc :=
      { State.reset.stc with
        mode := .run
        strapPins := straps 11
        straps := straps 11
        identity := some (77, 1100)
        kind := some .delay
        reading := .none }
    image := some (testImage .delay)
    peers := ((Vector.replicate 16 (PeerEntry.blank .unused none)).set 0 (peerEntry .fresh 3 7)).set 2 (poolEntry .stale 59)
    selfRec := ⟨[14476], [], 0, false⟩
    probe := { State.reset.probe with timer := some 0 }
    air := ⟨.valid, 310, some 40, 0, none⟩
    solver :=
      { Solver.reset with delay := 350000, path := 350000, settle := some 0, refresh := some 0, handed := true }
    eq := ⟨some 3, some 1, none, none⟩
    channels := Vector.replicate 4 soundingChannel }

/-- The same with one channel changed. -/
def withChannel (c : Fin 4) (f : Channel → Channel) : State := running.modChannel c f

/-- In EMERGENCY, by an EVAC of station 9. -/
def alarmed : State :=
  { running with
    emc := { running.emc with sources := [9], emergency := true }
    solver := { running.solver with emergencyFreeze := true }
    channels := Vector.replicate 4
      { soundingChannel with gainTarget := .gain 154, factor := .of (.gain 154), active := .eq 3 none } }

/-- In ANNOUNCE. -/
def announcing : State :=
  { State.reset with
    stc :=
      { running.stc with
        mode := .announce
        claim := some 0 }
    image := some (testImage .delay)
    channels := Vector.replicate 4 { Channel.reset true false with target := 40, applied := 40 * 4096 } }

/-- In CONFIG_FAULT. -/
def faulty : State :=
  { State.reset with stc := { State.reset.stc with mode := .configFault, reason := .badCrc, reading := .none } }

/-- An origin station in RUN. -/
def originRunning : State :=
  { running with
    stc := { running.stc with kind := some .origin }
    image := some (testImage .origin)
    solver := { Solver.reset with state := .origin, rank := 0, delay := 4000 }
    channels := Vector.replicate 4 { soundingChannel with target := 232, applied := 232 * 4096 } }

/-- In RUN with entries in the transmit queue, under attempt or not. -/
def queued (bodies : List (FrameBody × Bool)) (attempt : Option Attempt) : State :=
  { running with
    bus :=
      { running.bus with
        queue := bodies.mapIdx fun i b => ⟨⟨11, 63, b.1⟩, i, b.2⟩
        nextArrival := bodies.length
        attempt := attempt } }

/-- A round in MARKING, its MARK under attempt or waiting. -/
def marking (attempt : Option Attempt) : State :=
  let s := queued [(.mark, attempt.isSome)] attempt
  { s with
    probe :=
      { s.probe with
        round := .marking
        timer := none
        deadline := some 0
        slots := s.probe.slots.set 0 (.reserved 11) } }

def markAttempt (drop : Bool) : Attempt := ⟨0, ⟨11, 63, .mark⟩, false, drop⟩

/-- A round in EMITTING at a position of its sequence. -/
def emitting (started : Bool) (position : Nat) : State :=
  { running with
    probe :=
      { running.probe with
        round := .emitting
        timer := none
        startsAt := some 2000
        started := started
        position := position } }

/-- An open window of an owner, its latest peak the last one held. -/
def window (owner : Nat) (best : Nat) (peaks : List Peak) (discard : Bool) : Window :=
  ⟨owner, 2000, 1542000, best, peaks, discard, peaks.getLast?.map (·.offset), [], 0⟩

/-- Slot 0 with an open window. -/
def listening (w : Window) : State :=
  { running with probe := { running.probe with slots := running.probe.slots.set 0 (.opened w) } }

/-- The cue memory from its start, with a list RUNNING at a position. -/
def cued (bytes : List Byte) (position : Nat) : State :=
  { running with
    cue := { running.cue with memory := Cells.ofList 0#8 0 bytes, list := .running ⟨0, [253], position⟩ } }

/-- The bytes of a start image with the absorption table unused; it passes every check where its operands do. -/
def imageOf (cookie length kind probeChannel stale lost : Nat) (bindings cues : List Byte) : List Byte :=
  let head := bytesBE 2 cookie ++ bytesBE 2 length ++ bytesBE 4 77
  let station :=
    bytesBE 1 kind ++ bytesBE 3 4000 ++ bytesBE 3 350000 ++ bytesBE 1 20 ++ bytesBE 2 250 ++ bytesBE 1 2 ++ bytesBE 1 5 ++
    bytesBE 1 stale ++ bytesBE 2 lost ++ bytesBE 2 60 ++ bytesBE 1 3 ++ bytesBE 2 60 ++ bytesBE 1 probeChannel ++ bytesBE 1 40 ++
    bytesBE 1 48 ++ bytesBE 1 96 ++ bytesBE 2 200 ++ bytesBE 1 1 ++ bytesBE 1 60 ++ bytesBE 2 600
  let bindings := (bindings ++ List.replicate 48 0#8).take 48
  let channel := bytesBE 2 40 ++ [1#8] ++ bytesBE 2 500 ++ [160#8, 0#8, 3#8, 154#8] ++ List.replicate 100 0#8
  let body :=
    station ++ bindings ++ channel ++ channel ++ channel ++ channel ++ List.replicate 64 0xFF#8 ++
    (cues ++ List.replicate 512 0#8).take 512
  head ++ split16 (crc16 (head ++ body)) ++ body

/-- The same with a SINGLE entry for station 2 and a POOL of 5 and 6. -/
def imageBytes (cookie length kind probeChannel : Nat) (cues : List Byte) : List Byte :=
  imageOf cookie length kind probeChannel 15 60 [1, 2, 0, 2, 5, 6] cues

/-- A good image, and a station of number 11 that has read its header. -/
def goodImage : List Byte := imageBytes 0x6C3E 1100 0 2 []

def reading (header : List Byte) : State :=
  { State.reset with
    stc := { State.reset.stc with strapPins := straps 11, straps := straps 11, reading := .body header 100000 } }

def imageAccepted (b : List Byte) : Bool :=
  match checkImage 11 b with
  | .ok _ => true
  | .error _ => false

def imageRefusal (b : List Byte) : FaultReason :=
  match checkImage 11 b with
  | .ok _ => .none
  | .error e => e

/-! ### WellFormed refuses -/

theorem test_station_bounds : isStation 0 = false ∧ isStation 1 = true ∧ isStation 62 = true ∧ isStation 63 = false := by
  decide

theorem test_illformed_sources :
    Instr.wellFormed (.align 0 (record 1)) = false ∧ Instr.wellFormed (.roll 63 (roll 1 false false)) = false ∧
    Instr.wellFormed (.mark 0 0) = false ∧ Instr.wellFormed (.evac 63 true) = false ∧
    Instr.wellFormed (.restart 0 1 (straps 1)) = false ∧ Instr.wellFormed (.reply 63 1) = false := by decide

theorem test_illformed_destinations :
    Instr.wellFormed (.cue 1 0 1 [] none) = false ∧ Instr.wellFormed (.query 1 63 ⟨0, 0, 1, 0⟩) = false ∧
    Instr.wellFormed (.reply 1 63) = false ∧ Instr.wellFormed (.cue 1 63 1 [] none) = true ∧
    Instr.wellFormed (.query 1 62 ⟨0, 0, 1, 0⟩) = true := by decide

theorem test_illformed_contents :
    Instr.wellFormed (.align 1 { record 1 with temperature := some 0x8000 }) = false ∧
    Instr.wellFormed (.cue 1 63 1 [1, 2, 3, 4, 5] none) = false ∧
    FrameBody.wellFormed (.replyData 6 0 [0]) = false ∧ FrameBody.wellFormed (.replyData 0 0 []) = false ∧
    FrameBody.wellFormed (.replyData 0 0 (List.replicate 49 0)) = false ∧
    FrameBody.wellFormed (.replyData 5 0 (List.replicate 48 0)) = true := by decide

theorem test_illformed_reads :
    Instr.wellFormed (.imageHeaderRead (List.replicate 9 0)) = false ∧
    Instr.wellFormed (.imageReadComplete (List.replicate 4087 0)) = false ∧
    Instr.wellFormed (.correlatorPeak 0 1369334 1) = false ∧ Instr.wellFormed (.correlatorPeak 0 1369333 0) = false := by
  decide +kernel

/-! ### The numbers of the spec's examples -/

/-- The two REPLYs of the example in section 12.2. -/
theorem test_reply_bytes :
    (Frame.bytes ⟨23, 60, .replyData 4 17 (List.replicate 8 0)⟩).take 4 = [0xC0, 0x57, 0x3C, 0x48] ∧
    (Frame.bytes ⟨23, 60, .replyData 4 17 (List.replicate 8 0)⟩).length = 13 ∧
    (Frame.bytes ⟨23, 60, .replyStatus 2 4 36 8 2 none⟩).take 10 =
      [0xF0, 0x17, 0x3C, 0x06, 0x02, 0x04, 0x00, 0x24, 0x08, 0x02] := by decide +kernel

/-- The table of section 1.8: an outlier, then a relocation. -/
theorem test_flight_history :
    let a := (takeDetection 3000 212950 ⟨[212400], [], 0, false⟩).record
    let b := (takeDetection 3000 213100 a).record
    let c := (takeDetection 3000 230000 b).record
    let d := (takeDetection 3000 212800 (takeMiss c)).record
    let e := takeDetection 3000 219500 (takeDetection 3000 219650 (takeDetection 3000 219400 d).record).record
    effectiveFlight a.history = some 212675 ∧ effectiveFlight b.history = some 212950 ∧ c.suspects = [230000] ∧
    (takeMiss c).misses = 1 ∧ d = ⟨[212950, 213100, 212800], [], 0, false⟩ ∧
    e = ⟨⟨[219400, 219650, 219500], [], 0, false⟩, true, true⟩ ∧ effectiveFlight e.record.history = some 219500 := by
  decide

/-- The flights of section 3.9, and the mean temperatures, halves up. -/
theorem test_present_flights :
    meanTemperature 290 310 = 300 ∧ meanTemperature 290 315 = 303 ∧ meanTemperature 315 274 = 295 ∧
    presentFlight 180000 300 = 176879 ∧ presentFlight 14476 310 = 14200 ∧ presentFlight 9600 274 = 9476 ∧
    presentFlight 372000 282 = 366694 ∧ presentFlight 213100 292 = 209696 ∧ presentFlight 180000 303 = 176787 ∧
    presentFlight 14476 315 = 14188 ∧ presentFlight 213100 295 = 209587 := by decide +kernel

/-- The examples of R75. -/
theorem test_zone_samples :
    [176679, 371218, 386899, 10010, 10020, 31250, 31260, 1340000, 350000].map zoneSamples =
      [8481, 17818, 18571, 480, 481, 1500, 1500, 64320, 16800] := by decide

/-- The action that bytes from position 0 on spell, with two parameters, or the fault. -/
def actionOf (bytes params : List Byte) (position : Nat) : Option Action × Option CueFaultKind :=
  match decodeAction (fun a => bytes.getD a 0#8) params position with
  | .ok a => (some a, none)
  | .error k => (none, some k)

/-- R145, R147, R202: the encodings of actions, with a value field that names a parameter. -/
theorem test_actions :
    actionOf [0x10, 0x08] [] 0 = (some (.mute 8), none) ∧ actionOf [0x20, 0x07, 0xFC] [100] 0 = (some (.gain 7 100), none) ∧
    actionOf [0x21, 0x03, 0x02] [] 0 = (some (.preset 3 2), none) ∧ actionOf [0x15, 0x4B] [] 0 = (some (.wait 75), none) ∧
    actionOf [0x01] [] 0 = (some .probe, none) ∧ actionOf [0x14, 0xFD] [0, 60] 0 = (some (.offset 60), none) ∧
    actionOf [0x00] [] 0 = (some .finish, none) ∧ actionOf [0x02] [] 0 = (some .freeze, none) ∧
    actionOf [0x03] [] 0 = (some .thaw, none) ∧ actionOf [0x11, 1] [] 0 = (some (.unmute 1), none) ∧
    actionOf [0x12, 15] [] 0 = (some (.sleep 15), none) ∧ actionOf [0x13, 0] [] 0 = (some (.wake 0), none) := by
  decide +kernel

/-- R146: the faults of an action, in their order. -/
theorem test_action_faults :
    actionOf [0x14, 0xFD] [0] 0 = (none, some .noParameter) ∧ actionOf [0x14, 61] [] 0 = (none, some .valueRange) ∧
    actionOf [0x10, 0x10] [] 0 = (none, some .valueRange) ∧ actionOf [0x20, 0x10, 0xFC] [] 0 = (none, some .noParameter) ∧
    actionOf [0x04] [] 0 = (none, some .unknownKind) ∧ actionOf (List.replicate 512 0x10) [] 511 = (none, some .memoryEnd) ∧
    actionOf [] [] 512 = (none, some .memoryEnd) := by decide +kernel

/-- An image of zeros behind a good cookie and length. -/
def zeroImage : List Byte := bytesBE 2 0x6C3E ++ bytesBE 2 1100 ++ List.replicate 1096 0

set_option maxRecDepth 20000 in
/-- R179: a good image passes every check. -/
theorem test_image_accepted : goodImage.length = 1100 ∧ imageAccepted goodImage = true := by decide +kernel

set_option maxRecDepth 20000 in
/-- R179: the first failing check names the reason. -/
theorem test_image_refused :
    imageRefusal (imageBytes 0x6C3F 1100 0 2 []) = .badCookie ∧ imageRefusal (imageBytes 0x6C3E 1099 0 2 []) = .badLength ∧
    imageRefusal zeroImage = .badCrc ∧ imageRefusal (imageBytes 0x6C3E 1100 2 2 []) = .fieldRange ∧
    imageRefusal (imageBytes 0x6C3E 1100 0 4 []) = .probeChannel := by decide +kernel

set_option maxRecDepth 20000 in
/-- R179: checks 8 to 11, at their bounds. -/
theorem test_bindings_refused :
    let refusal := fun lost bindings => imageRefusal (imageOf 0x6C3E 1100 0 2 15 lost bindings [])
    refusal 15 [] = .badLimits ∧ refusal 16 [] = .none ∧ refusal 60 [2, 0, 1] = .poolRange ∧ refusal 60 [2, 7, 6] = .poolRange ∧
    refusal 60 [2, 1, 63] = .poolRange ∧ refusal 60 [2, 62, 62] = .none ∧ refusal 60 [1, 11, 0] = .selfBinding ∧
    refusal 60 [1, 3, 0, 0, 9, 9, 1, 3, 0] = .duplicateSingle ∧ refusal 60 [1, 63, 0] = .fieldRange := by decide +kernel

/-- R200: a station kind out of range. -/
theorem test_image_fields : (readImage (imageBytes 0x6C3E 1100 2 2 [])).isNone = true := by decide +kernel

/-- R198, R199: a REPLY in the status form whose header bits 7..6 are set is a frame, and the unnamed bits of an ALIGN are
taken as carried. -/
theorem test_spare_bits :
    parseFrame [0xF0, 0x45, 0x86, 0xC6, 0, 1, 2, 3, 4, 5, 0] = some ⟨5, 6, .replyStatus 0 1 0x0203 4 5 none⟩ ∧
    parseFrame (Frame.bytes ⟨2, 63, .align { record 7 with stateSpare := 2, flagsSpare := 1 }⟩) =
      some ⟨2, 63, .align { record 7 with stateSpare := 2, flagsSpare := 1 }⟩ := by decide +kernel

/-- R198: the CRC of a frame written out is the one that its reader finds, and one changed byte is not a frame. -/
theorem test_frame_read_back :
    parseFrame (Frame.bytes ⟨2, 63, .align (record 7)⟩) = some ⟨2, 63, .align (record 7)⟩ ∧
    crcAgrees (Frame.bytes ⟨2, 63, .evac true⟩) = true ∧ crcAgrees ((Frame.bytes ⟨2, 63, .evac true⟩).set 4 0) = false := by
  decide +kernel

/-! ### The states are lawful -/

theorem test_lawful_running : Lawful running := Lawful.of_check (by decide +kernel)
theorem test_lawful_alarmed : Lawful alarmed := Lawful.of_check (by decide +kernel)
theorem test_lawful_announcing : Lawful announcing := Lawful.of_check (by decide +kernel)
theorem test_lawful_faulty : Lawful faulty := Lawful.of_check (by decide +kernel)
theorem test_lawful_origin : Lawful originRunning := Lawful.of_check (by decide +kernel)
theorem test_lawful_reading : Lawful (reading (goodImage.take 10)) := Lawful.of_check (by decide +kernel)
theorem test_lawful_marking : Lawful (marking (some (markAttempt true))) := Lawful.of_check (by decide +kernel)
theorem test_lawful_emitting : Lawful (emitting true 8191) := Lawful.of_check (by decide +kernel)

/-! ### The hypotheses of the statements are met, clause by clause -/

/-- A station of number 11 that awaits its header. -/
def awaiting : State :=
  { State.reset with
    stc := { State.reset.stc with strapPins := straps 11, straps := straps 11, reading := .header 100000 } }

theorem test_lawful_awaiting : Lawful awaiting := Lawful.of_check (by decide +kernel)

/-- StepTakesFrontCommand, EmptyQueueLetsTimePass. -/
theorem test_meets_queue :
    (running.push .txAttempt).pending = .txAttempt :: [] ∧ running.pending = [] ∧ running.cue.list = .idle ∧
    (cued [] 0).pending = [] ∧ (cued [] 0).cue.list = .running ⟨0, [253], 0⟩ ∧ awaiting.pending = [] ∧
    awaiting.stc.reading = .header 100000 ∧ (reading []).stc.reading = .body [] 100000 := by decide +kernel

/-- ChangedEventHandsOneAlign: no change, a first ALIGN, and an ALIGN with another waiting or under attempt. -/
theorem test_meets_changedEvent :
    let align : FrameBody := .align (record 1)
    let handed := fun b : Bool => { (queued [(align, b)] none) with solver := { running.solver with rank := 1 } }
    let first := { running with solver := { running.solver with rank := 1, handed := false } }
    published running = published running ∧ running.stc.mode = .run ∧ published running ≠ published first ∧
    first.solver.handed = false ∧ published running ≠ published (handed false) ∧ (handed false).solver.handed = true ∧
    (∃ e ∈ (handed false).bus.queue, e.frame.body.isAlign = true ∧ e.attempted = false) ∧
    (∀ e ∈ (handed true).bus.queue, e.frame.body.isAlign = true → e.attempted = true) := by decide +kernel

/-- FlagsSpelled: a delay station and an origin station, a winner that is not FRESH, one with stale flights. -/
theorem test_meets_flags :
    running.stc.kind ≠ some .origin ∧ originRunning.stc.kind = some .origin ∧
    (alignFlags { running with solver := { running.solver with state := .aligned } }).degraded = false ∧
    (alignFlags { running with solver := { running.solver with state := .aligned, winner := some 2 } }).degraded = true ∧
    (alignFlags { running with
      solver := { running.solver with state := .aligned }, selfRec := { running.selfRec with stale := true } }).degraded = true ∧
    (alignFlags originRunning).degraded = false ∧ (alignFlags alarmed).frozen = true ∧
    (alignFlags (withChannel 3 fun ch => { ch with power := .fault })).ampFault = true := by decide +kernel

/-- ImageReadChecked, its first four clauses at their bounds. -/
theorem test_meets_headerRead :
    let header := fun cookie length : Nat => bytesBE 2 cookie ++ bytesBE 2 length ++ List.replicate 6 0
    (header 0x6C3E 1100).length = 10 ∧ awaiting.stc.mode = .loading ∧ awaiting.stc.reading = .header 100000 ∧
    field (header 0x6C3E 1100) 0 2 = 0x6C3E ∧ 1100 ≤ field (header 0x6C3E 1100) 2 2 ∧
    field (header 0x6C3E 4096) 2 2 ≤ 4096 ∧ field (header 0x6C3F 1100) 0 2 ≠ 0x6C3E ∧
    field (header 0x6C3E 1099) 2 2 < 1100 ∧ 4096 < field (header 0x6C3E 4097) 2 2 := by decide +kernel

set_option maxRecDepth 20000 in
/-- ImageReadChecked, its last clause: the rest is read and a check fails. -/
theorem test_meets_bodyRead :
    (reading (zeroImage.take 10)).stc.reading = .body (zeroImage.take 10) 100000 ∧
    (zeroImage.drop 10).length = field (zeroImage.take 10) 2 2 - 10 ∧
    checkImage (reading (zeroImage.take 10)).number (zeroImage.take 10 ++ zeroImage.drop 10) = .error .badCrc := by
  refine ⟨rfl, by decide +kernel, ?_⟩
  rw [List.take_append_drop]
  have h : imageRefusal zeroImage = .badCrc := test_image_refused.2.2.1
  have n : (reading (zeroImage.take 10)).number = 11 := by decide +kernel
  rw [n]
  unfold imageRefusal at h
  split at h
  · exact absurd h (by decide)
  · next e heq => rw [heq, h]

set_option maxRecDepth 20000 in
/-- ImageReadChecked, checks 5 to 11: the fields of a good image lie in their ranges, and each condition is met by an image of
test_image_refused or test_bindings_refused. -/
theorem test_meets_imageChecks :
    field goodImage 0 2 = 0x6C3E ∧ 1100 ≤ field goodImage 2 2 ∧ field goodImage 2 2 ≤ 4096 ∧
    imageCrcAgrees goodImage = true ∧ imageCrcAgrees zeroImage = false ∧ field goodImage 30 1 ≤ 3 ∧
    3 < field (imageBytes 0x6C3E 1100 0 4 []) 30 1 ∧ field goodImage 22 1 < field goodImage 23 2 := by
  decide +kernel

set_option maxRecDepth 20000 in
set_option synthInstance.maxSize 2000 in
set_option synthInstance.maxHeartbeats 200000 in
theorem test_fields_in_range : FieldsInRange goodImage := by
  refine ⟨by unfold StationInRange; decide +kernel, by decide +kernel, ?_, by decide +kernel⟩
  unfold ChannelInRange
  have stage : ∀ c < 4, ∀ q < 4, ∀ j < 5, StageInRange ((goodImage.drop (88 + 109 * c)).drop (9 + 25 * q + 5 * j)) := by
    unfold StageInRange
    decide +kernel
  have rest : ∀ c < 4, let b := goodImage.drop (88 + 109 * c)
      field b 0 2 ≤ 960 ∧ field b 2 1 ≤ 1 ∧ 50 ≤ field b 3 2 ∧ field b 3 2 ≤ 2000 ∧ field b 5 1 ≤ 184 ∧
      field b 6 1 ≤ 1 ∧ field b 7 1 ≤ 3 ∧ field b 8 1 ≤ 184 := by
    decide +kernel
  intro c h
  obtain ⟨h1, h2, h3, h4, h5, h6, h7, h8⟩ := rest c h
  exact ⟨h1, h2, h3, h4, h5, h6, h7, h8, stage c h⟩

set_option maxRecDepth 20000 in
theorem test_fields_out_of_range : ¬FieldsInRange (imageBytes 0x6C3E 1100 2 2 []) := fun h =>
  absurd h.1.1 (by decide +kernel)

/-- R201: a stage of each kind. -/
theorem test_stages :
    ([0, 1, 2, 3, 4, 5].map fun kind => stageAt [kind, 0x03, 0xE8, 36, 7]) =
      [.bypass, .peak 1000 36 7, .lowShelf 1000 36, .highShelf 1000 36, .highPass 1000, .lowPass 1000] ∧
    ([0, 1, 2, 3, 4, 5].map fun kind => parseStage [kind, 0x03, 0xE8, 36, 7]) =
      ([0, 1, 2, 3, 4, 5].map fun kind => some (stageAt [kind, 0x03, 0xE8, 36, 7])) := by decide +kernel

set_option maxRecDepth 20000 in
/-- ValidImageEntersAnnounce. -/
theorem test_meets_validImage :
    Lawful (reading (goodImage.take 10)) ∧ (reading (goodImage.take 10)).stc.mode = .loading ∧
    (reading (goodImage.take 10)).stc.reading = .body (goodImage.take 10) 100000 ∧
    (goodImage.drop 10).length = field (goodImage.take 10) 2 2 - 10 ∧
    ∃ img, checkImage (reading (goodImage.take 10)).number (goodImage.take 10 ++ goodImage.drop 10) = .ok img := by
  refine ⟨test_lawful_reading, rfl, rfl, ?_, ?_⟩
  · rw [List.length_drop, test_image_accepted.1]
    decide +kernel
  · rw [List.take_append_drop]
    have h := test_image_accepted.2
    have n : (reading (goodImage.take 10)).number = 11 := rfl
    rw [n]
    unfold imageAccepted at h
    split at h
    · next img heq => exact ⟨img, heq⟩
    · exact absurd h (by decide)

/-- ClaimExpiryEntersRun. -/
theorem test_meets_claimExpiry :
    Lawful announcing ∧ announcing.stc.mode = .announce ∧ announcing.image = some (testImage .delay) :=
  ⟨test_lawful_announcing, rfl, rfl⟩

/-- RestartTaken: another unit, in EMERGENCY, and taken; a SINGLE entry and one that is not. -/
theorem test_meets_restart :
    isStation 2 = true ∧ 2 ≠ running.number ∧ (2#32 : BitVec 32) ≠ running.stc.unit ∧ 1#32 = alarmed.stc.unit ∧
    alarmed.emc.emergency = true ∧ 1#32 = running.stc.unit ∧ running.emc.emergency = false ∧
    running.stc.mode ≠ .loading ∧ running.peers[(0 : Fin 16)].binding = .single 2 ∧
    running.peers[(2 : Fin 16)].binding.singleStation = none := by decide +kernel

/-- OwnNumberContested: modes that contest and modes that do not, a ROLL waiting or not, and unit numbers on each side of
the own one. -/
theorem test_meets_ownNumber :
    isStation running.number = true ∧ awaiting.stc.mode ≠ .announce ∧ awaiting.stc.mode ≠ .run ∧
    announcing.stc.mode = .announce ∧ running.stc.mode = .run ∧ rollWaits running = false ∧
    rollWaits (queued [(.roll (roll 1 false false), false)] none) = true ∧ (roll 1 true false).faultFlag = true ∧
    (roll 1 false false).unit = running.stc.unit ∧ running.stc.unit.toNat < (roll 2 false false).unit.toNat ∧
    (roll 0 false false).unit.toNat < running.stc.unit.toNat := by decide +kernel

/-- OwnNumberContested: a contest lost in ANNOUNCE, with and without an ALIGN in the queue, and in RUN with a round in MARKING
and in EMITTING with its self window. -/
def announcingWith (bodies : List FrameBody) : State :=
  { announcing with bus := { announcing.bus with queue := bodies.mapIdx fun i b => ⟨⟨11, 63, b⟩, i, false⟩, nextArrival := 2 } }

def emittingHeard : State :=
  { emitting true 8191 with
    probe := { (emitting true 8191).probe with slots := (emitting true 8191).probe.slots.set 1 (.opened (window 11 0 [] false)) } }

theorem test_lawful_contested :
    Lawful (announcingWith [.roll (roll 1 false false)]) ∧
    Lawful (announcingWith [.align { record 3 with solver := .fallback, rank := 15 }]) ∧ Lawful emittingHeard :=
  ⟨Lawful.of_check (by decide +kernel), Lawful.of_check (by decide +kernel), Lawful.of_check (by decide +kernel)⟩

theorem test_meets_contest :
    (¬∃ e ∈ (announcingWith [.roll (roll 1 false false)]).bus.queue, e.frame.body.isAlign = true) ∧
    (∃ e ∈ (announcingWith [.align (record 3)]).bus.queue, e.frame.body.isAlign = true) ∧
    (marking none).probe.round ≠ .idle ∧ emittingHeard.probe.round ≠ .idle ∧ selfWindows emittingHeard = 1 ∧
    selfWindows (marking none) = 0 ∧ running.probe.round = .idle := by decide +kernel

/-- In TX_QUIET with a recovery count. -/
def silenced (recovery : Nat) : State :=
  { running with bus := { running.bus with txQuiet := true, tfc := 64, recovery := recovery } }

/-- ValidFrameCounted: out of TX_QUIET, in it, and at the 128th frame; sources and destinations that are none. -/
theorem test_meets_validFrame :
    isStation running.number = true ∧ isStation 0 = false ∧ isStation 63 = false ∧ 0 ≠ 63 ∧
    4 < ([1, 2, 3, 4, 5] : List Byte).length ∧ isStation 2 = true ∧ isStation 62 = true ∧ 2 ≠ running.number ∧ running.bus.txQuiet = false ∧
    (silenced 126).bus.txQuiet = true ∧ (silenced 126).bus.recovery ≠ 127 ∧ (silenced 127).bus.recovery = 127 := by
  decide +kernel

/-- The same with entry 2 a POOL that has adopted none. -/
def poolFree : State := { running with peers := running.peers.set 2 (PeerEntry.blank (.pool 5 6) none) }

theorem test_table_poolFree : TableLaw poolFree := TableLaw.of_check (by decide +kernel)

/-- RecordPlacedInOrder: a SINGLE, an adopted POOL, a free POOL at each end of its range, and none. -/
theorem test_meets_placing :
    running.peers[(0 : Fin 16)].binding = .single 2 ∧ running.peers[(2 : Fin 16)].binding.isPool = true ∧
    running.peers[(2 : Fin 16)].peer = some 5 ∧ (∀ i : Fin 16, poolFree.peers[i].peer ≠ some 5) ∧
    (∀ i : Fin 16, poolFree.peers[i].peer ≠ some 6) ∧ poolFree.peers[(2 : Fin 16)].binding = .pool 5 6 ∧
    poolFree.peers[(2 : Fin 16)].peer = none ∧ (5 ≤ 5 ∧ 5 ≤ 6) ∧ (5 ≤ 6 ∧ 6 ≤ 6) ∧ ¬(5 ≤ 7 ∧ 7 ≤ 6) ∧
    placeRecord poolFree 5 = some 2 ∧ placeRecord poolFree 6 = some 2 ∧ placeRecord poolFree 7 = none := by decide +kernel

/-- AlignTakenByTable: out of its modes, no place, a duplicate, a new record. -/
theorem test_meets_align :
    isStation 2 = true ∧ 2 ≠ running.number ∧ awaiting.stc.mode = .loading ∧ faulty.stc.mode = .configFault ∧
    running.stc.mode = .run ∧ placeRecord running 7 = none ∧ placeRecord running 2 = some 0 ∧
    running.peers[(0 : Fin 16)].record = some (record 7) ∧ (record 7).seq = 7 ∧ (record 8).seq ≠ (record 7).seq := by
  decide +kernel

/-- ContactFlagRemovesSource, EvacKeepsSourceSet. -/
theorem test_meets_sources :
    isStation 9 = true ∧ 9 ≠ alarmed.number ∧ isStation running.number = true ∧ 9 ∈ alarmed.emc.sources ∧
    8 ∉ alarmed.emc.sources ∧ alarmed.emc.emergency = (alarmed.ownAlarm || !alarmed.emc.sources.isEmpty) ∧
    (roll 1 false true).contact = true ∧ (∀ n ∈ alarmed.emc.sources, n = 9) := by decide +kernel

theorem test_meets_sourceOrder : alarmed.emc.sources.Pairwise (· < ·) := by decide +kernel

/-- EmergencyEntered, EmergencyLeft. -/
theorem test_meets_emergency :
    (Lawful running ∧ running.emc.emergency = false ∧ running.serving = true ∧ isStation 9 = true ∧ 9 ≠ running.number) ∧
    Lawful alarmed ∧ alarmed.emc.sources = [9] ∧ alarmed.ownAlarm = false ∧ alarmed.serving = true :=
  ⟨⟨test_lawful_running, by decide +kernel⟩, test_lawful_alarmed, by decide +kernel⟩

/-- In CONFIG_FAULT and EMERGENCY: a channel that sounds at 0.0 dB, and one that wakes with its mark. -/
def faultyAlarmed : State :=
  let loud := { Channel.reset true false with gainTarget := .gain 160, factor := .of (.gain 160), power := .active, enable := true }
  { faulty with
    emc := { faulty.emc with sources := [9], emergency := true }
    channels := (Vector.replicate 4 loud).set 1
      { loud with power := .waking, wake := some 500000, ready := false, wakeLoss := true } }

/-- EmergencyEntered, EmergencyLeft, in CONFIG_FAULT, with the channels' ready lines on each side. -/
theorem test_meets_faultyEmergency :
    (Lawful faulty ∧ faulty.stc.mode = .configFault ∧ faulty.emc.emergency = false ∧ 9 ≠ faulty.number ∧
      faulty.channels[(0 : Fin 4)].ready = false) ∧
    Lawful (faulty.modChannel 0 fun ch => { ch with ready := true }) ∧
    Lawful faultyAlarmed ∧ faultyAlarmed.emc.sources = [9] ∧ faultyAlarmed.ownAlarm = false ∧
    faultyAlarmed.stc.mode = .configFault ∧ faultyAlarmed.channels[(1 : Fin 4)].wakeLoss = true :=
  ⟨⟨test_lawful_faulty, by decide +kernel⟩, Lawful.of_check (by decide +kernel), Lawful.of_check (by decide +kernel),
    by decide +kernel⟩

theorem test_faulty_emergency :
    gives (.evac 9 true) faulty (fun t =>
      t.channels[0].power == .waking && t.channels[0].gainTarget == .gain 160 && t.channels[0].wake == some 500000) &&
    gives (.evac 9 false) faultyAlarmed (fun t =>
      t.channels[0].power == .standby && t.channels[1].power == .standby && t.channels[0].factor == .of .silence &&
      t.count .wakeLosses == 1) := by decide +kernel

/-- EmergencyLeft: a forced-off channel that sounds, and one that does not, each asked for its preset. -/
theorem test_meets_asked :
    alarmed.channels[(0 : Fin 4)].forcedOff = false ∧ alarmed.channels[(0 : Fin 4)].power.sounding = true ∧
    alarmed.channels[(0 : Fin 4)].request (.eq 0 none) ≠ alarmed.channels[(0 : Fin 4)] ∧
    Lawful (alarmed.modChannel 0 fun ch => { ch with forcedOff := true }) :=
  ⟨by decide +kernel, by decide +kernel, by decide +kernel, Lawful.of_check (by decide +kernel)⟩

/-- MarkOpensWindow: no holder, EMERGENCY, an open window of the source, no FREE slot, a FREE slot. -/
theorem test_meets_mark :
    let own : Slot := .opened (window 2 0 [] false)
    let full := { running with probe := { running.probe with slots := (Vector.replicate 2 own).set 1 (.reserved 11) } }
    (∀ i : Fin 16, running.peers[i].peer ≠ some 7) ∧ running.peers[(0 : Fin 16)].peer = some 2 ∧ running.holder 2 = some 0 ∧ alarmed.emc.emergency = true ∧
    alarmed.holder 2 = some 0 ∧ running.emc.emergency = false ∧ (listening (window 2 0 [] false)).probe.slots[0] = own ∧
    (∀ j : Fin 2, full.probe.slots[j] ≠ .free) ∧ (∀ j : Fin 2, running.probe.slots[j] = .free) := by decide +kernel

/-- CueRefused, CueTaken: each condition, and the last number on each side. -/
theorem test_meets_cue :
    (isStation 2 = true ∧ 2 ≠ running.number ∧ 11 = running.number ∧ ([1, 2, 3, 4] : List Byte).length ≤ 4) ∧
    alarmed.emc.emergency = true ∧ announcing.emc.emergency = false ∧ announcing.stc.mode ≠ .run ∧
    announcing.stc.mode ≠ .conflict ∧ running.stc.mode = .run ∧ 63 < (64#8 : Byte).toNat ∧ (63#8 : Byte).toNat ≤ 63 ∧
    cueByte (cued [1] 0) (8 * 1) = 0#8 ∧ cueByte (cued [1] 0) (8 * 0) ≠ 0#8 := by decide +kernel

/-- What the action at the position of a RUNNING list decodes to. -/
def actionAt (s : State) (position : Nat) : Option Action × Option CueFaultKind :=
  match decodeAction (cueByte s) [253] position with
  | .ok a => (some a, none)
  | .error k => (none, some k)

/-- ListTakesAction: an action of each kind, a fault, and a WAITING list; ListRunEnds at the end of cue memory. -/
theorem test_meets_action :
    ([[0x04], [0x00], [0x15, 250], [0x02], [0x14, 60], [0x03], [0x01], [0x10, 1], [0x11, 1], [0x20, 1, 184], [0x21, 1, 3],
      [0x12, 1], [0x13, 1]].map fun bytes => actionAt (cued bytes 0) 0) =
      [(none, some .unknownKind), (some .finish, none), (some (.wait 250), none), (some .freeze, none),
       (some (.offset 60), none), (some .thaw, none), (some .probe, none), (some (.mute 1), none), (some (.unmute 1), none),
       (some (.gain 1 184), none), (some (.preset 1 3), none), (some (.sleep 1), none), (some (.wake 1), none)] ∧
    { running with cue := { running.cue with list := .waiting ⟨0, [], 2⟩ 0 } }.cue.list = .waiting ⟨0, [], 2⟩ 0 := by
  decide +kernel

/-- ActionSpelled: each order of the checks at its bounds. -/
theorem test_meets_spelled :
    FieldGives [] 251 251 ∧ FieldGives [7, 9] 0xFD 9 ∧ FieldMissing [7] 0xFD ∧ FieldMissing [1, 2, 3] 0xFF ∧
    (15#8 : Byte).toNat ≤ 15 ∧ 15 < (16#8 : Byte).toNat ∧ ¬(22 ≤ 3 ∨ 16 ≤ 22 ∧ 22 ≤ 21 ∨ 32 ≤ 22 ∧ 22 ≤ 33) ∧
    512 ≤ 511 + 1 ∧ 510 + 1 < 512 ∧ 512 ≤ 510 + 2 ∧ 509 + 2 < 512 :=
  ⟨.inl (by decide), .inr ⟨1, 9, by decide⟩, ⟨1, by decide⟩, ⟨3, by decide⟩, by decide⟩

/-- ListTakesAction: a SLEEP of the probe channel in a round. -/
theorem test_meets_sleepInRound :
    (marking none).probeChannel = some 2 ∧ (marking none).channels[(2 : Fin 4)].power = .active ∧
    (4#4 : BitVec 4).getLsbD 2 = true := by decide +kernel

theorem test_meets_listLaw : ListLaw (cued [] 512) := ListLaw.of_check (by decide +kernel)

/-- QueryAnswered: each row of R193 at its bounds, and CLEAR with a REPLY that is admitted or not. -/
theorem test_meets_query :
    isStation 2 = true ∧ isStation running.number = true ∧ 2 ≠ running.number ∧ running.stc.mode = .run ∧
    awaiting.stc.mode = .loading ∧ 5 < (6#8 : Byte).toNat ∧ faulty.stc.mode = .configFault ∧ (1#8 : Byte).toNat ≠ 0 ∧
    (1#8 : Byte).toNat ≠ 4 ∧ (1#8 : Byte).getLsbD 0 = true ∧ (2#8 : Byte).getLsbD 0 = false ∧ (2#8 : Byte).getLsbD 1 = true ∧
    48 < (49#8 : Byte).toNat ∧ spaceSize 0 < 16 + 48 ∧ ¬spaceSize 0 < 15 + 48 ∧
    admission (countValid running) (.replyData 4 0 [0]) = .joins ∧
    admission (countValid (silenced 0)) (.replyData 4 0 [0]) = .refused := by decide +kernel

/-- The receive assembly in a state. -/
def assembling (a : Assembly) : State := { running with bus := { running.bus with assembly := a } }

/-- CharacterTaken: each state of the assembly, and the longest and the first too long payload. -/
theorem test_meets_character :
    (assembling (.seeking true)).bus.assembly = .seeking true ∧ running.bus.assembly = .seeking false ∧
    (assembling (.assembling [4, 1, 2])).bus.assembly = .assembling [4, 1, 2] ∧
    (assembling (.complete [] 0 false)).bus.assembly = .complete [] 0 false ∧
    (assembling .discarding).bus.assembly = .discarding ∧ declaredPayload 4 48 = 48 ∧ declaredPayload 4 49 = 49 ∧
    declaredPayload 0x80 0xFF = 63 ∧ declaredPayload 0xF0 0x30 = 48 := by decide +kernel

/-- GapChecksFrame: a frame whose CRC disagrees, a malformed one, and a good one. -/
theorem test_meets_gap :
    let good := Frame.bytes ⟨2, 63, .evac true⟩
    let malformed := [0x08#8, 2, 63, 0] ++ [crc8 [0x08, 2, 63, 0]]
    (good.set 4 0).getLast? ≠ some (crc8 (good.set 4 0).dropLast) ∧
    malformed.getLast? = some (crc8 malformed.dropLast) ∧ parseFrame malformed = none ∧
    good.getLast? = some (crc8 good.dropLast) ∧ parseFrame good = some ⟨2, 63, .evac true⟩ := by decide +kernel

/-- FrameBytesReadBack: a frame of each kind. -/
theorem test_meets_frames :
    ([⟨1, 63, .roll (roll 1 true true)⟩, ⟨62, 63, .align (record 255)⟩, ⟨1, 63, .mark⟩, ⟨1, 62, .cue 63 [1, 2, 3, 4]⟩,
      ⟨1, 2, .query ⟨5, 0, 5, 3⟩⟩, ⟨1, 63, .evac false⟩, ⟨1, 63, .restart 0xFFFFFFFF⟩, ⟨1, 2, .replyData 5 1023 [0]⟩,
      ⟨1, 2, .replyStatus 0 5 0 0 1 (some 0x2A150501)⟩] : List Frame).map Frame.wellFormed =
      List.replicate 9 true := by decide +kernel

/-- Eight entries of class 3 in the queue. -/
def fullQueue (attempt : Option Attempt) : State :=
  queued (List.replicate 8 (.replyData 0 0 [0], false)) attempt

/-- QueueAdmission: a frame that replaces one, with its entry under attempt or another's, refusals, a free place, and a
full queue with an entry that gives way or does not. -/
theorem test_meets_admission :
    let held := queued [(.evac true, true), (.mark, false)]
    let mine : Attempt := ⟨0, ⟨11, 63, .evac true⟩, false, false⟩
    let other : Attempt := ⟨1, ⟨11, 63, .mark⟩, false, false⟩
    (∃ e ∈ (held none).bus.queue, (FrameBody.evac false).replaces e.frame.body = true) ∧ (held none).bus.attempt = none ∧
    (held (some mine)).bus.attempt = some mine ∧ (held (some other)).bus.attempt = some other ∧
    (∀ e ∈ running.bus.queue, FrameBody.mark.replaces e.frame.body = false) ∧ (silenced 0).bus.txQuiet = true ∧
    running.bus.txQuiet = false ∧ running.bus.queue.length < 8 ∧ (fullQueue none).bus.queue.length = 8 ∧
    FrameBody.isReply (.replyData 0 0 [0]) = true ∧ FrameBody.mark.cls < 3 ∧
    (fullQueue none).bus.queue = (fullQueue none).bus.queue.dropLast ++ [⟨⟨11, 63, .replyData 0 0 [0]⟩, 7, false⟩] ∧
    (fullQueue (some ⟨7, ⟨11, 63, .mark⟩, false, false⟩)).bus.attempt.any (·.arrival == 7) = true := by decide +kernel

theorem test_meets_queueLaw :
    QueueLaw running ∧ QueueLaw (fullQueue none) ∧
    QueueLaw (fullQueue (some ⟨7, ⟨11, 63, .replyData 0 0 [0]⟩, false, false⟩)) :=
  ⟨QueueLaw.of_check (by decide +kernel), QueueLaw.of_check (by decide +kernel), QueueLaw.of_check (by decide +kernel)⟩

/-- AttemptBegins: a head, and nothing to attempt; numbers and classes of two stations. -/
theorem test_meets_attempt :
    let head := queued [(.evac true, false)] none
    head.bus.queue = [⟨⟨11, 63, .evac true⟩, 0, false⟩] ∧ head.bus.txQuiet = false ∧ head.stc.mode ≠ .conflict ∧
    head.bus.attempt = none ∧ running.bus.queue = [] ∧ (silenced 0).bus.txQuiet = true ∧
    (marking (some (markAttempt false))).bus.attempt.isSome = true ∧ isStation 1 = true ∧ isStation 62 = true ∧ 1 ≠ 62 := by
  decide +kernel

def evacAttempt : Attempt := ⟨0, ⟨11, 63, .evac true⟩, false, false⟩

/-- An attempt on an EVAC at a value of TFC. -/
def attempting (tfc : Nat) : State :=
  let s := queued [(.evac true, true)] (some evacAttempt)
  { s with bus := { s.bus with tfc := tfc } }

theorem test_lawful_attempting : Lawful (attempting 55) ∧ Lawful (attempting 56) :=
  ⟨Lawful.of_check (by decide +kernel), Lawful.of_check (by decide +kernel)⟩

theorem test_lawful_markWaits : Lawful (marking none) ∧ Lawful (marking (some (markAttempt false))) :=
  ⟨Lawful.of_check (by decide +kernel), Lawful.of_check (by decide +kernel)⟩

/-- AttemptSucceeds, AttemptFails: a frame and a MARK, below and at the limit of TFC. -/
theorem test_meets_attemptEnds :
    (attempting 55).bus.attempt = some evacAttempt ∧ evacAttempt.frame.body.isMark = false ∧
    (attempting 55).bus.tfc + 8 < 64 ∧ 64 ≤ (attempting 56).bus.tfc + 8 ∧ evacAttempt.dropOnFailure = false ∧
    (marking (some (markAttempt true))).bus.attempt = some (markAttempt true) ∧ (markAttempt true).dropOnFailure = true ∧
    (markAttempt true).frame.body.isMark = true ∧ (marking (some (markAttempt true))).probe.round = .marking ∧
    (marking (some (markAttempt true))).probe.slots[(0 : Fin 2)] = .reserved (marking none).number ∧
    (marking (some (markAttempt true))).probe.slots[(1 : Fin 2)] ≠ .reserved (marking none).number := by decide +kernel

/-- ProbeTimerStartsRound: all conditions at each power state of the probe channel, and one that fails. -/
theorem test_meets_probeTimer :
    running.probe.timer = some 0 ∧ startConditions running = true ∧ startConditions alarmed = false ∧
    alarmed.probe.timer = some 0 ∧ running.image = some (testImage .delay) ∧
    (∀ i : Fin 2, running.probe.slots[i].owner ≠ some running.number) ∧ running.probe.slots[(0 : Fin 2)] = .free ∧
    running.channels[(testImage .delay).probeChannel].power = .active ∧
    (∀ p ∈ [Power.watch, .waking, .standby], startConditions (withChannel 2 fun ch => { ch with power := p }) = true) := by
  decide +kernel

/-- RoundRunsOrAborts: an emission, a deadline with the MARK waiting and with it under attempt. -/
theorem test_meets_round :
    (emitting false 0).probe.round = .emitting ∧ (emitting false 0).image = some (testImage .delay) ∧
    (marking none).probe.deadline = some 0 ∧ (marking none).bus.attempt = none ∧
    (marking (some (markAttempt false))).probe.deadline = some 0 ∧
    (marking (some (markAttempt false))).bus.attempt = some (markAttempt false) := by decide +kernel

/-- A station's sequence alone, at a magnitude. -/
def sequenceOf (station magnitude : Nat) : List Int :=
  (List.range 8192).map fun k => (if Config.sequence station k then 1 else -1) * (magnitude : Int)

theorem follows_sequenceOf (station magnitude n k : Nat) :
    followsSequence station magnitude k ((List.range' k n).map fun k =>
      (if Config.sequence station k then 1 else -1) * (magnitude : Int)) = true := by
  induction n generalizing k with
  | zero => rfl
  | succ n ih =>
    simp only [List.range'_succ, List.map_cons, followsSequence, ih, Bool.and_true, beq_iff_eq]
    split <;> simp

theorem isSequenceAlone_sequenceOf (station magnitude : Nat) (h : 0 < magnitude) :
    isSequenceAlone station (sequenceOf station magnitude) = true := by
  have follows := follows_sequenceOf station magnitude 8192 0
  rw [← List.range_eq_range', show (8192 : Nat) = 8191 + 1 from rfl, List.range_succ_eq_map, List.map_cons] at follows
  rw [sequenceOf, show (8192 : Nat) = 8191 + 1 from rfl, List.range_succ_eq_map, List.map_cons, isSequenceAlone]
  have abs : ((if Config.sequence station 0 then (1 : Int) else -1) * (magnitude : Int)).natAbs = magnitude := by
    split <;> simp
  have nonzero : ((if Config.sequence station 0 then (1 : Int) else -1) * (magnitude : Int)) ≠ 0 := fun e => by
    rw [e] at abs
    exact absurd abs.symm (Nat.ne_of_gt h)
  rw [abs, follows, Bool.and_true, Bool.and_eq_true]
  exact ⟨bne_iff_ne.2 nonzero, by simp⟩

theorem follows_natAbs {station magnitude k : Nat} {l : List Int} (h : followsSequence station magnitude k l = true) :
    ∀ x ∈ l, x.natAbs = magnitude := by
  induction l generalizing k with
  | nil => exact fun x hx => absurd hx List.not_mem_nil
  | cons y l ih =>
    simp only [followsSequence, Bool.and_eq_true, beq_iff_eq] at h
    intro x hx
    rcases List.mem_cons.1 hx with rfl | hx
    · rw [h.1]
      split <;> simp
    · exact ih h.2 x hx

theorem not_alone_of_zero {station : Nat} {l : List Int} (h : 0 ∈ l) : isSequenceAlone station l = false := by
  cases l with
  | nil => rfl
  | cons x l =>
    refine Bool.eq_false_iff.2 fun e => ?_
    simp only [isSequenceAlone, Bool.and_eq_true, bne_iff_ne, ne_eq] at e
    exact e.1.1 (Int.natAbs_eq_zero.1 (follows_natAbs e.2 0 h).symm)

/-- A window that has heard its owner's sequence alone from its start, at magnitude 1, and then 49 samples of silence. -/
def heardWindow : Window :=
  { window 2 0 [] false with heard := (sequenceOf 2 1 ++ List.replicate 49 0).reverse }

theorem heardWindow_alone : heardWindow.aloneAt 0 = true := by
  have span : heardWindow.span 0 = sequenceOf 2 1 := by
    rw [Window.span, heardWindow, List.reverse_reverse, List.drop_zero, List.take_left' (by simp [sequenceOf])]
  rw [Window.aloneAt, span]
  exact Bool.and_eq_true_iff.2 ⟨isSequenceAlone_sequenceOf 2 1 (by decide), by decide⟩

theorem heardWindow_alone_only : ∀ m, m ≠ 0 → 0 ≤ m + 25 → m ≤ 0 + 25 → heardWindow.aloneAt m = false := by
  intro m hm _ hle
  have zero : (0 : Int) ∈ heardWindow.span m := by
    rw [Window.span, heardWindow, List.reverse_reverse]
    refine List.mem_iff_getElem.2 ⟨8192 - m, by simp [sequenceOf]; omega, ?_⟩
    rw [List.getElem_take, List.getElem_drop, List.getElem_append_right (by simp [sequenceOf]; omega), List.getElem_replicate]
  rw [Window.aloneAt, not_alone_of_zero zero, Bool.false_and]

theorem heardWindow_peak : heardWindow.isPeak 0 = true ∧ heardWindow.scored 0 = ⟨0, 255⟩ :=
  Window.isPeak_alone heardWindow_alone heardWindow_alone_only

/-- PeakUpdatesWindow: the sequence alone, a peak of 255 at offset 0; two peaks 501 µs apart; the last sample of a window, and
the offsets of the first samples behind a lead of 7 µs. -/
theorem test_meets_peak :
    (listening heardWindow).probe.slots[(0 : Fin 2)] = .opened heardWindow ∧
    (heardWindow.isPeak 0 = true ∧ heardWindow.scored 0 = ⟨0, (255#8 : Byte).toNat⟩) ∧
    heardWindow.aloneAt 0 = true ∧ heardWindow.aloneAt 1 = false ∧
    (testImage .delay).threshold ≤ (255#8 : Byte).toNat ∧ min 73920 (0 + 8241) ≤ heardWindow.heard.length ∧
    heardWindow.latest = none ∧ WindowLaw heardWindow ∧ 611 + 500 < 1112 ∧ min 73920 (65728 + 8241) = 73920 ∧
    ((window 2 0 [] false).offsetOf 65728 = maxOffset ∧ maxOffset < (window 2 0 [] false).offsetOf 65729) ∧
    ([0, 1, 2, 3].map fun n => { window 2 0 [] false with lead := 7 }.offsetOf n) = [7, 28, 49, 70] := by
  have length : heardWindow.heard.length = 8241 := by simp [heardWindow, sequenceOf]
  refine ⟨rfl, heardWindow_peak, heardWindow_alone, heardWindow_alone_only 1 (by decide) (by decide) (by decide), by decide,
    ?_, rfl, ?_, by decide⟩
  · rw [length]
    decide
  · exact ⟨by decide, by rw [length]; decide, fun _ => rfl, by decide⟩

/-- A window that has heard silence has no score, so no peak. -/
theorem test_silence_scores_nothing (w : Window) (n : Nat) (h : ∀ x ∈ w.heard, x = 0) : w.gridScore n = 0 := by
  have zeros : ∀ x ∈ w.span n, x = 0 := fun x hx =>
    h x (List.mem_reverse.1 (List.mem_of_mem_drop (List.mem_of_mem_take hx)))
  have sum : ∀ (l : List Int) (k : Nat), (∀ x ∈ l, x = 0) → correlation w.owner k l = 0 := by
    intro l
    induction l with
    | nil => exact fun _ _ => rfl
    | cons x l ih =>
      intro k h
      simp [correlation, h x (List.mem_cons_self ..), ih (k + 1) fun y hy => h y (List.mem_cons_of_mem _ hy)]
  have alone : w.aloneAt n = false := by
    cases e : w.span n with
    | nil => simp [Window.aloneAt, e, isSequenceAlone]
    | cons x l => simp [Window.aloneAt, e, isSequenceAlone, zeros x (e ▸ List.mem_cons_self ..)]
  exact Window.gridScore_zero alone (Int.le_of_eq (sum _ 0 zeros))

/-- WindowCloses: discarded, a miss for want of a peak and at the latency, a detection just after it; own, held, held by
none. -/
theorem test_meets_windowClose :
    (96 * 20833 + 500) / 1000 = 2000 ∧ (48 * 20833 + 500) / 1000 = 1000 ∧ (window 7 0 [] true).discard = true ∧
    7 ≠ running.number ∧ (window 2 60 [⟨2000, 60⟩] false).best ≠ 0 ∧ running.holder 2 = some 0 ∧ running.holder 7 = none ∧
    11 = running.number ∧ 2000 ≤ 2000 ∧ 2000 < 2001 ∧ running.peers[(0 : Fin 16)].record = some (record 7) ∧
    (record 7).temperature = some 290 ∧ { record 7 with temperature := none }.temperature = none := by decide +kernel

/-- FlightsRoundedHalfUp: the lowest temperature with a positive speed. -/
theorem test_meets_flights : 0 < 3313000 + 606 * (-5466 : Int) ∧ ¬0 < 3313000 + 606 * (-5467 : Int) := by decide

/-- EffectiveFlightByCount, ResultTakenByRecord: a median, an empty history, an agreeing value, a suspect, a relocation. -/
theorem test_meets_results :
    (2 ∈ [3, 1, 2] ∧ (1 ≤ 2 ∧ 2 ≤ 3)) ∧ effectiveFlight [1000] = some 1000 ∧ max 4000 1000 - min 4000 1000 ≤ 3000 ∧
    3000 < max 4001 1000 - min 4001 1000 ∧ (([] ++ [4001] : List Nat)).length < 3 ∧
    (∀ x ∈ [4001, 7001, 5000], ∀ y ∈ [4001, 7001, 5000], x ≤ y + 3000) ∧
    (∃ x ∈ [4001, 7002, 5000], ∃ y ∈ [4001, 7002, 5000], y + 3000 < x) := by decide

theorem test_meets_bounded : FlightRecord.bounded ⟨[1000], [4001, 7001], 255, false⟩ := by
  unfold FlightRecord.bounded
  decide

/-- EntriesAgeToTheirLimits: a tick that releases station 5 triggers a pass and marks the window of that station alone. -/
theorem test_meets_tick :
    gives .secondTick (listening (window 5 0 [] false)) (fun t =>
      t.solver.settle == some 0 && t.probe.slots[0] == .opened (window 5 0 [] true)) &&
    gives .secondTick (listening (window 6 0 [] false)) (fun t => t.probe.slots[0] == .opened (window 6 0 [] false)) := by
  decide +kernel

/-- EntriesAgeToTheirLimits: ages one second before each limit; a SINGLE and a POOL entry. -/
theorem test_meets_ages :
    (peerEntry .fresh 14 0).state = .fresh ∧ (peerEntry .fresh 14 0).age = some 14 ∧ 14 + 1 = (testImage .delay).staleLimit ∧
    (peerEntry .stale 59 0).state = .stale ∧ 59 + 1 = (testImage .delay).lostLimit ∧
    58 + 1 ≠ (testImage .delay).lostLimit ∧ (peerEntry .stale 59 0).binding = .single 2 ∧
    running.peers[(2 : Fin 16)].binding = .pool 5 6 ∧ running.peers[(2 : Fin 16)].age = some 59 ∧
    running.peers[(2 : Fin 16)].state = .stale ∧ running.peers[(2 : Fin 16)].peer = some 5 := by decide +kernel

/-- The air data with a request under way. -/
def asking (misses : Nat) : State := { running with air := { running.air with misses := misses, request := some 0 } }

/-- SensorRequestJudged: good values at their bounds, bad ones beside them, the tenth miss, and a drift of 0.5 °C. -/
theorem test_meets_sensor :
    (asking 9).air.request = some 0 ∧ (asking 9).air.misses = 9 ∧ (asking 9).air.state = .valid ∧
    (asking 8).image = some (testImage .delay) ∧ (-300 : Int) ≤ -300 ∧ (600 : Int) ≤ 600 ∧ ¬(601 : Int) ≤ 600 ∧
    (0 : Int) ≤ 0 ∧ (100 : Int) ≤ 100 ∧ min 255 (8 + 1) ≠ 10 ∧ State.reset.air.state = .lost ∧
    (asking 9).air.humidity = some 40 ∧ (asking 9).eq.humidityBand = some 1 ∧ 5 ≤ ((315 : Int) - 310).natAbs ∧
    ¬5 ≤ ((314 : Int) - 310).natAbs := by decide +kernel

/-- LargestCandidateWins, SolvePassRuns: a pass with a winner and one without, frozen and not, and a difference on each
side of the deadband. -/
theorem test_meets_pass :
    running.solver.settle = some 0 ∧ running.image = some (testImage .delay) ∧ candidates running ≠ [] ∧
    (winnerOf (candidates running)).map (fun w => (w.entry, w.sum, w.rank, w.path)) = some (0, 176679, 1, 176879) ∧
    running.frozen = false ∧ alarmed.frozen = true ∧ winnerOf (candidates { running with selfRec := FlightRecord.empty }) = none ∧
    running.solver.state ≠ .aligned ∧ (testImage .delay).deadband ≤ max 176679 176429 - min 176679 176429 ∧
    max 176679 176430 - min 176679 176430 < (testImage .delay).deadband := by decide +kernel

/-- The solver in HOLD. -/
def holding : State := { running with solver := { running.solver with state := .hold, hold := .running 0, rank := 1 } }

/-- A station whose absorption table has one shelf, in row 2 of column 1. -/
def shelved : State :=
  let rows := (List.replicate 8 (List.replicate 4 none)).set 2 [none, some (Shelf.mk 30 1), none, none]
  { running with
    image := some { testImage .delay with absorption := rows }
    eq := ⟨some 3, some 1, some ⟨30, 1⟩, some (2, 1)⟩
    channels := Vector.replicate 4 { soundingChannel with active := .eq 0 (some ⟨30, 1⟩) } }

/-- The bands and the shelf: kept at the edge of the margin, left one µs beyond it; a cell found two rows down, and none. -/
theorem test_meets_bands :
    (100000 * 3 ≤ 295000 + 5000) ∧ ¬(100000 * 3 ≤ 294999 + 5000) ∧ 405000 ≤ 100000 * (3 + 1) + 5000 ∧
    ¬405001 ≤ 100000 * (3 + 1) + 5000 ∧ (testPathBand 295000 shelved).eq.pathBand = some 3 ∧
    (testPathBand 294999 shelved).eq.pathBand = some 2 ∧ (testPathBand 705001 shelved).eq.pathBand = some 7 ∧
    (testPathBand 705001 shelved).eq.cell = some (2, 1) ∧ (testPathBand 176879 shelved).eq.shelf = none ∧
    (testPathBand 176879 shelved).eq.cell = none ∧ (testPathBand 176879 shelved).channels ≠ shelved.channels ∧
    Lawful shelved := by
  refine ⟨by decide, by decide, by decide, by decide, by decide +kernel, by decide +kernel, by decide +kernel,
    by decide +kernel, by decide +kernel, by decide +kernel, by decide +kernel, Lawful.of_check (by decide +kernel)⟩

/-- HoldAndRefreshExpire. -/
theorem test_meets_hold :
    holding.solver.hold = .running 0 ∧ holding.image = some (testImage .delay) ∧ running.stc.mode = .run ∧
    running.solver.refresh.isSome = true ∧ announcing.stc.mode ≠ .run := by decide +kernel

/-- TargetTakenAndSlewed: each power class, the three sides of the applied delay, the last step on each side. -/
theorem test_meets_target :
    let up := (withChannel 0 fun ch => { ch with applied := 16840 * 4096 - 4, slew := .up }).channels[(0 : Fin 4)]
    let down := (withChannel 0 fun ch => { ch with applied := 16840 * 4096 + 4, slew := .down }).channels[(0 : Fin 4)]
    soundingChannel.power = .active ∧ (Channel.reset false false).power = .standby ∧ up.slew = .up ∧ down.slew = .down ∧
    16 / 2 ^ (testImage .delay).slewCode = 4 ∧ up.target * 4096 ≤ up.applied + 4 ∧ ¬up.target * 4096 ≤ up.applied + 3 ∧
    down.applied ≤ down.target * 4096 + 4 ∧ soundingChannel.slew = .settled ∧ 1 ≠ soundingChannel.target := by decide +kernel

theorem test_meets_delayLaw :
    ChannelDelayLaw { soundingChannel with applied := 16840 * 4096 - 4, slew := .up } ∧
    ChannelDelayLaw { soundingChannel with applied := 16840 * 4096 + 4, slew := .down } := by
  unfold ChannelDelayLaw
  decide +kernel

/-- RunningEffectsEnd: a crossfade with a waiting setting and without, a ramp, a request at rest, a channel in WAKING. -/
theorem test_meets_effects :
    let fading := { soundingChannel with crossfade := .running .flat (.eq 0 none) 2399 }
    let ramping := { soundingChannel with ramp := .running (.of .silence) 959 }
    fading.crossfade = .running .flat (.eq 0 none) 2399 ∧ fading.waiting = none ∧
    { fading with waiting := some .flat }.waiting = some Setting.flat ∧ ramping.ramp = .running (.of .silence) 959 ∧
    soundingChannel.crossfade = .idle ∧ Setting.flat ≠ soundingChannel.active ∧
    { soundingChannel with power := .waking }.power = .waking ∧ soundingChannel.gainTarget ≠ .silence ∧
    (Channel.reset false false).gainTarget = .silence := by decide +kernel

/-- ProgrammeSampleTaken, and the StepKeeps statements: lawful states with and without an image, a round at its last two
samples. -/
theorem test_meets_sample :
    (Lawful running ∧ running.image = some (testImage .delay) ∧ Lawful faulty ∧ faulty.image = none) ∧
    (Lawful (emitting true 8190) ∧ (emitting true 8190).probe.position < 8191) ∧
    Lawful (emitting true 8191) ∧ (emitting true 8191).probe.position = 8191 ∧ (emitting true 8191).probe.started = true :=
  ⟨⟨test_lawful_running, rfl, test_lawful_faulty, rfl⟩, ⟨Lawful.of_check (by decide +kernel), by decide +kernel⟩,
    test_lawful_emitting, by decide +kernel⟩

/-- A channel on its way: slewing, ramping, crossfading with a pending setting, fading in, and hearing a window. -/
def moving (ramp crossfade fade : Nat) : State :=
  withChannel 0 fun ch =>
    { ch with
      applied := 16840 * 4096 - 4
      slew := .up
      factor := .of .silence
      ramp := .running (.of .silence) ramp
      active := .flat
      crossfade := .running .flat (.eq 0 none) crossfade
      waiting := some .flat
      fade := some fade }

/-- ProgrammeSampleTaken: ramp, crossfade and fade before and at their last sample; a window that hears and one that is
full. -/
theorem test_meets_moving :
    (Lawful (moving 958 2398 46) ∧ 958 < 959 ∧ 2398 < 2399 ∧ 46 < 47) ∧ Lawful (moving 959 2399 47) ∧
    (moving 959 2399 47).channels[(0 : Fin 4)].waiting = some .flat ∧ (Setting.eq 0 none) ≠ .flat ∧
    (testImage .delay).channels[(0 : Fin 4)].presets.getD 0 [] = [] ∧ (List.replicate 73919 (0 : Int)).length < 73920 :=
  ⟨⟨Lawful.of_check (by decide +kernel), by decide⟩, Lawful.of_check (by decide +kernel), by decide +kernel,
    by decide +kernel, by decide +kernel, by rw [List.length_replicate]; decide⟩

/-- JudgementChangeTaken, SleepAndWakeAtChannel: no change, a change to present and to quiet, out of RUN, each power
state. -/
theorem test_meets_judgement :
    running.level.present = false ∧ running.level.present ≠ true ∧ announcing.serving = false ∧ running.serving = true ∧
    { running with level := { running.level with present := true } }.level.present ≠ false ∧ running.autoStandby 0 = true ∧
    running.emc.emergency = false ∧ alarmed.emc.emergency = true ∧
    ([Power.active, .watch, .standby, .waking, .forcedOff, .fault].map fun p =>
      (withChannel 1 fun ch => { ch with power := p, ready := false, faultLine := true }).channels[(1 : Fin 4)].power) =
      [.active, .watch, .standby, .waking, .forcedOff, .fault] := by decide +kernel

/-- A channel in WAKING, in WATCH, and in FAULT by its line. -/
def wakingChannel : Channel := { soundingChannel with power := .waking, wake := some 0, ready := false, wakeLoss := true }
def watchChannel : Channel := { soundingChannel with power := .watch, silence := some 0 }
def faultChannel (off : Bool) : Channel :=
  { soundingChannel with power := .fault, enable := false, cause := some .line, ready := false, faultLine := true, forcedOff := off }

theorem test_lawful_channels :
    Lawful (withChannel 1 fun _ => wakingChannel) ∧ Lawful (withChannel 1 fun _ => watchChannel) ∧
    Lawful (withChannel 1 fun _ => faultChannel true) ∧ Lawful (withChannel 1 fun _ => faultChannel false) ∧
    Lawful { withChannel 1 fun _ => wakingChannel with level := { running.level with present := true } } :=
  ⟨Lawful.of_check (by decide +kernel), Lawful.of_check (by decide +kernel), Lawful.of_check (by decide +kernel),
    Lawful.of_check (by decide +kernel), Lawful.of_check (by decide +kernel)⟩

/-- AmplifierMovesChannel: the conditions of each clause on those channels. -/
theorem test_meets_amplifier :
    watchChannel.power = .watch ∧ running.level.present = false ∧ wakingChannel.power = .waking ∧ running.serving = true ∧
    running.autoStandby 1 = true ∧ soundingChannel.power ≠ .waking ∧ soundingChannel.ready = true ∧
    soundingChannel.faultLine = false ∧ (faultChannel true).forcedOff = true ∧ (faultChannel false).forcedOff = false ∧
    (faultChannel false).ready = false ∧ running.emc.emergency = false := by decide +kernel

/-- AmplifierMovesChannel: a channel in FAULT whose ready line is asserted, with quiet programme and with present. -/
theorem test_meets_retry :
    Lawful (withChannel 1 fun _ => { faultChannel false with ready := true }) ∧
    Lawful { withChannel 1 fun _ => { faultChannel false with ready := true } with
      level := { running.level with present := true } } ∧
    gives (.faultLineReleased 1) (withChannel 1 fun _ => { faultChannel false with ready := true }) (fun t =>
      t.channels[1].power == .watch && t.bus.queue.length == 1) :=
  ⟨Lawful.of_check (by decide +kernel), Lawful.of_check (by decide +kernel), by decide +kernel⟩

/-- A round in WAKING whose probe channel wakes, its ready line about to be asserted. -/
def roundWaking : State :=
  { withChannel 2 fun _ => wakingChannel with
    probe := { running.probe with round := .waking, timer := none, slots := running.probe.slots.set 0 (.reserved 11) } }

/-- AmplifierMovesChannel, SleepAndWakeAtChannel, RoundFollows: each round state with its probe channel and another one. -/
theorem test_meets_roundFollows :
    (Lawful roundWaking ∧ Lawful (marking none) ∧ Lawful emittingHeard) ∧ roundWaking.probeChannel = some 2 ∧
    roundWaking.probe.round = .waking ∧ roundWaking.channels[(2 : Fin 4)].power = .waking ∧ roundWaking.probeChannel ≠ some 1 ∧
    (marking none).probe.round = .marking ∧ (marking none).channels[(2 : Fin 4)].ready = true ∧
    emittingHeard.probe.round = .emitting :=
  ⟨⟨Lawful.of_check (by decide +kernel), Lawful.of_check (by decide +kernel), Lawful.of_check (by decide +kernel)⟩,
    by decide +kernel⟩

theorem test_round_follows :
    gives (.readyAsserted 2) roundWaking (fun t => t.probe.round == .marking && t.probe.deadline == some 50000 && markWaits t) &&
    gives (.wakeTimerExpiry 2) roundWaking (fun t => t.probe.round == .idle && t.count .probeAborts == 1) &&
    gives (.readyLost 2) (marking none) (fun t => t.probe.round == .idle && !markWaits t) &&
    gives (.faultLineAsserted 2) emittingHeard (fun t =>
      t.probe.round == .idle && t.count .capturesCancelled == 1 && t.probe.slots[1] == .free) := by decide +kernel

/-- PinsDebouncedAndEvacRefreshed, OwnAlarmFollowsContacts: both contact modes, each contact at each level, a span. -/
def contacted (latched contact latch resetContact : Bool) : State :=
  let alarm := if latched then latch else contact
  { running with
    stc := { running.stc with straps := { straps 11 with latched := latched } }
    solver := { running.solver with emergencyFreeze := alarm }
    emc :=
      { running.emc with
        contact := contact
        latch := latch
        resetContact := resetContact
        contactSpan := some 0
        resetSpan := some 0
        refresh := some 0
        emergency := alarm } }

/-- The same with a frame waiting, or with a MARK and its round. -/
def contactedWith (body : FrameBody) : State := { contacted false false false false with bus := (queued [(body, false)] none).bus }

def contactedMarking : State :=
  { contacted false false false false with bus := (marking none).bus, probe := (marking none).probe }

theorem test_lawful_contacts :
    Lawful (contacted false false false false) ∧ Lawful (contacted false true false true) ∧
    Lawful (contacted true false false false) ∧ Lawful (contacted true true true false) ∧
    Lawful (contacted true false true false) ∧ Lawful (contacted true false true true) ∧
    Lawful (contactedWith (.roll (roll 1 false false))) ∧ Lawful contactedMarking :=
  ⟨Lawful.of_check (by decide +kernel), Lawful.of_check (by decide +kernel), Lawful.of_check (by decide +kernel),
    Lawful.of_check (by decide +kernel), Lawful.of_check (by decide +kernel), Lawful.of_check (by decide +kernel),
    Lawful.of_check (by decide +kernel), Lawful.of_check (by decide +kernel)⟩

theorem test_meets_contacts :
    (contacted false true false false).emc.refresh = some 0 ∧ (contacted false true false false).ownAlarm = true ∧
    (contacted false true false false).stc.mode ≠ .conflict ∧ (contacted false true false false).bus.txQuiet = false ∧
    isStation (contacted false true false false).number = true ∧ false = running.emc.contactPin ∧
    true ≠ running.emc.contactPin ∧ false = running.emc.resetPin ∧ true ≠ running.emc.resetPin ∧
    (contacted true false true false).emc.contactSpan = some 0 ∧ (contacted true false true false).emc.contact = false ∧
    (contacted false false false false).emc.contact = false ∧ rollWaits (contactedWith (.roll (roll 1 false false))) = true ∧
    rollWaits (contacted false true false true) = false ∧ markWaits contactedMarking = true ∧
    (contacted true true true true).emc.contact = true ∧ (contacted true false true true).emc.resetSpan = some 0 ∧
    (contacted true false true true).emc.resetContact = true := by decide +kernel

/-- StepKeepsChannelLaws: WATCH in effective silence; a channel that slews through a programme sample and by its last step,
and one that the interrupted list leaves as it is. -/
theorem test_meets_slew :
    let watching := withChannel 1 fun _ => watchChannel
    let slewing := moving 958 2398 46
    (∀ c : Fin 4, watching.channels[c].power = .watch →
      watching.serving = true ∧ (watching.level.present = false ∨ watching.channels[c].gainTarget = .silence)) ∧
    gives (.programmeSample ⟨0, 0⟩) slewing (fun t => t.channels[0].power.sounding && t.channels[0].applied != slewing.channels[0].applied) &&
    gives (.slewComplete 0) slewing (fun t => t.channels[0].power.sounding && t.channels[0].applied != slewing.channels[0].applied) &&
    (event takeAction (cued [0x02] 0)).channels[(0 : Fin 4)].power.sounding := by
  decide +kernel

/-- The StepKeeps statements, EmergencyHoldsTarget: a lawful state whose step answers. -/
theorem test_meets_steps :
    (Lawful running ∧ step running = .next (idle running)) ∧ Lawful alarmed ∧ step alarmed = .next (idle alarmed) ∧
    alarmed.stc.mode = .run ∧ (idle alarmed).stc.mode = .run ∧ alarmed.emc.emergency = true ∧
    (idle alarmed).emc.emergency = true :=
  ⟨⟨test_lawful_running, rfl⟩, test_lawful_alarmed, rfl, by decide +kernel⟩

/-! ### One step of each command -/

theorem test_startup :
    gives (.hardReset (straps 0)) running (fun t => t.stc.reason == .badStrap && t.stc.mode == .configFault) &&
    gives (.imageHeaderRead (goodImage.take 4 ++ List.replicate 6 0)) awaiting
      (fun t => t.stc.reading == .body ([0x6C, 0x3E, 0x04, 0x4C] ++ List.replicate 6 0) 100000) &&
    gives .imageReadTimeout awaiting (fun t => t.stc.reason == .noImage && t.bus.queue.length == 1) &&
    gives .claimTimerExpiry announcing (fun t =>
      t.solver.delay == 350000 && t.channels[0].target == 16840 && t.bus.queue.length == 1) &&
    gives (.duplicateFrame (some (roll 0 false false))) running (fun t =>
      t.stc.mode == .conflict && t.stc.lastDuplicate == some (0, false)) &&
    gives (.restart 2 1 (straps 12)) running (fun t =>
      t.stc.mode == .loading && t.number == 12 && t.stc.restarts == 1 && t.selfRec == ⟨[14476], [], 0, false⟩) := by
  decide +kernel

theorem test_frames :
    gives (.align 2 (record 9)) running (fun t =>
      t.count .recordGap == 1 && t.count .recordOverrun == 1 && t.peers[0].age == some 0) &&
    gives (.align 7 (record 9)) running (fun t => t.count .unmatchedAlign == 1) &&
    gives (.roll 9 (roll 5 false false)) alarmed (fun t => t.emc.sources == [] && !t.emc.emergency) &&
    gives (.evac 9 true) running (fun t =>
      t.emc.emergency && t.solver.emergencyFreeze && t.channels[3].gainTarget == .gain 154 && t.bus.queue.length == 1) &&
    gives (.mark 2 100) running (fun t => t.probe.slots[0] == .opened ⟨2, 2100, 1542100, 0, [], false, none, [], 0⟩) &&
    gives (.reply 2 3) running (fun t => t.count .rxGood == 1) && gives (.reply 0 3) running (fun t => t.count .rxMalformed == 1) &&
    gives (.query 2 11 ⟨4, 0, 40, 0⟩) running (fun t => t.bus.queue.length == 1) := by decide +kernel

theorem test_cues :
    gives (.cue 2 63 0 [] none) (cued [0x10, 1, 0x00] 0) (fun t =>
      t.cue.list == .idle && t.cue.overtaken == 1 && t.channels[0].storedMute && !t.channels[1].storedMute &&
      t.cue.lastList == some ⟨0, .complete, 2⟩) &&
    gives (.waitTimerExpiry none) { cued [0x04] 0 with cue := { (cued [0x04] 0).cue with list := .waiting ⟨0, [], 0⟩ 0 } }
      (fun t => t.cue.lastList == some ⟨0, .fault .unknownKind, 0⟩ && t.count .cueFaults == 1) := by decide +kernel

theorem test_line :
    gives (.lineCharacter (.good 6) false) (assembling (.seeking true)) (fun t => t.bus.assembly == .assembling [6]) &&
    gives (.lineCharacter .broken false) (assembling (.assembling [6])) (fun t => t.count .rxCrc == 1) &&
    gives (.interFrameGap none) (assembling (.complete (Frame.bytes ⟨9, 63, .evac true⟩) 5 false)) (fun t =>
      t.emc.sources == [9] && t.bus.assembly == .seeking true) &&
    gives .txAttempt (queued [(.evac true, false)] none) (fun t =>
      t.bus.idleMicros == 14 * 40 && t.bus.attempt == some evacAttempt) &&
    gives .txSuccess (marking (some (markAttempt false))) (fun t =>
      t.probe.round == .emitting && t.probe.slots[0] == .opened (window 11 0 [] false) && t.bus.queue == []) &&
    gives .txCollision (attempting 56) (fun t => t.bus.txQuiet && t.bus.tfc == 64 && t.count .txDropped == 1) &&
    gives .txQuietRecovery (silenced 100) (fun t => !t.bus.txQuiet && t.bus.tfc == 0) := by decide +kernel

theorem test_probing :
    gives .probeTimerExpiry running (fun t => t.probe.round == .marking && t.bus.queue.length == 1) &&
    gives .markDeadlineExpiry (marking none) (fun t => t.count .probeAborts == 1 && t.probe.timer == some 5000000) &&
    gives .emissionStart (emitting false 0) (fun t => t.probe.started) &&
    gives .emissionEnd (emitting true 8191) (fun t => t.probe.timer == some 61000000 && t.count .probeRounds == 0) &&
    gives (.windowClose 0) (listening (window 2 60 [⟨213500, 60⟩] false)) (fun t => t.peers[0].flights.suspects == [215232]) &&
    gives (.windowClose 0) (listening (window 11 0 [] false)) (fun t => t.selfRec.misses == 1) := by decide +kernel

/-- R38, R39: the peak of the sequence alone, taken; a score other than the one heard, and a peak too near the latest, is no
event; what a peak makes of the list. -/
theorem test_peak (s : State) (w : Window) (hi : s.image = some (testImage .delay)) (hl : w.latest = some 10)
    (hb : w.best = 60) (hp : w.peaks = [⟨10, 60⟩]) :
    peakPossible s heardWindow 0 255 = true ∧ peakPossible s heardWindow 0 254 = false ∧
    peakPossible s w 510 200 = false ∧ (w.takePeak 511 200).best = 200 ∧ (w.takePeak 511 200).peaks = [⟨511, 200⟩] ∧
    (w.takePeak 511 200).latest = some 511 := by
  have length : heardWindow.heard.length = 8241 := by simp [heardWindow, sequenceOf]
  refine ⟨(peakPossible_iff ..).2 ⟨?_, ?_, 0, ?_, heardWindow_peak⟩, ?_, ?_, ?_⟩
  · simp [hi, testImage]
  · exact fun l h => nomatch h
  · rw [length]
    decide
  · refine Bool.eq_false_iff.2 fun h => ?_
    obtain ⟨-, -, n, hn, hpeak, hscored⟩ := (peakPossible_iff ..).1 h
    have near := heardWindow.scored_near n
    rw [hscored] at near
    simp only [Window.offsetOf] at near
    obtain rfl : n = 0 := by omega
    rw [heardWindow_peak.2] at hscored
    exact absurd (congrArg Peak.score hscored) (by decide)
  · simp [peakPossible, hl]
  · simp [Window.takePeak, hb, hp]

/-- R96, R101, R102: half of a blend, a gain at each end of its range, half of a ramp, and a sample let out at half weight. -/
theorem test_arithmetic :
    blend 10 20 1200 = 2400 * 15 ∧ GainTarget.amplitude (.gain 0) = 0.0001 ∧ GainTarget.amplitude (.gain 200) = 10 ∧
    (Factor.ramp (.of .silence) (.gain 160) 480).amplitude = 1 / 2 ∧
    ProgrammeOut.value ⟨⟨0, 2400 * 5, .of (.gain 160)⟩, 24⟩ = 5 / 2 := by
  refine ⟨by decide, by rw [amplitude_lowest]; norm_num, by norm_num [GainTarget.amplitude, gainDecibels], ?_, ?_⟩
  · norm_num [Factor.amplitude, amplitude_unity]
  · norm_num [ProgrammeOut.value, amplitude_unity]

/-- R28, R37: the first sample of an emission 7 µs after its due instant, and a window that hears from its opening. -/
theorem test_probe_parts :
    (let s := sampleChannel 2 (placeEmission { emitting true 0 with timeBase := 2007 })
     s.channels[2].output.probe = some ⟨11, 0, 7, 40⟩ ∧ s.probe.lag = 7 ∧ (advanceEmission s).probe.position = 1 ∧
     (sampleChannel 1 s).channels[1].output.probe = none) ∧
    (hearSample 9 { listening (window 2 0 [] false) with timeBase := 2000 }).probe.slots[0] =
      .opened { window 2 0 [] false with heard := [9] } ∧
    (hearSample 9 { listening (window 2 0 [] false) with timeBase := 2007 }).probe.slots[0] =
      .opened { window 2 0 [] false with heard := [9], lead := 7 } ∧
    (hearSample 9 { listening (window 2 0 [] false) with timeBase := 1542000 }).probe.slots[0] =
      .opened (window 2 0 [] false) ∧
    (hearSample 9 { listening (window 2 0 [] false) with timeBase := 1999 }).probe.slots[0] =
      .opened (window 2 0 [] false) := by decide +kernel

/-- R74, R87, R102, R121: a channel that reads a stored sample through a FLAT chain, its gate opening and then shut. -/
theorem test_chain :
    (let s := sampleChannel 0 (writeSample 5 true (withChannel 0 fun ch =>
        { ch with target := 0, applied := 0, active := .flat, fade := some 0, ramp := .running (.of .silence) 0 }))
     s.channels[0].output.programme = some ⟨⟨5, 2400 * 5, .ramp (.of .silence) (.gain 160) 1⟩, 1⟩ ∧
     s.channels[0].fade = some 1) ∧
    (let s := sampleChannel 0 (writeSample 5 true announcing)
     s.channels[0].output.programme = none ∧ s.channels[0].chain = ⟨0, 0, .of .silence⟩) := by decide +kernel

theorem test_air_and_table :
    gives .secondTick running (fun t => t.peers[0].age == some 4 && t.peers[2].peer == none && t.air.request == some 50000) &&
    gives (.entryStale 0) running (fun t => t.peers[0].state == .stale && t.peers[0].age == some 15) &&
    gives (.poolRelease 2) running (fun t => t.peers[2].peer == none) &&
    gives (.entryLost 0) { running with peers := running.peers.set 0 (peerEntry .stale 59 7) }
      (fun t => t.peers[0].state == .lost && t.peers[0].flights.history == [180000]) &&
    gives (.airReply ⟨315, 72, true⟩) (asking 3) (fun t =>
      t.air == ⟨.valid, 315, some 72, 0, none⟩ && t.eq.humidityBand == some 3) &&
    gives .airReplyTimeout (asking 9) (fun t => t.air.state == .lost && t.air.temperature == 200) := by decide +kernel

theorem test_solver :
    gives .settleExpiry running (fun t =>
      t.solver.state == .aligned && t.solver.delay == 176679 && t.solver.rank == 1 && t.solver.path == 176879 &&
      t.channels[0].target == 8521 && t.channels[0].slew == .down && t.bus.queue.length == 1) &&
    gives .holdTimerExpiry holding (fun t => t.solver.state == .fallback && t.solver.rank == 15) &&
    gives .refreshTimerExpiry running (fun t => t.solver.seq == 1 && t.solver.refresh == some 5000000) := by decide +kernel

theorem test_audio :
    gives (.slewComplete 0) (withChannel 0 fun ch => { ch with applied := 16840 * 4096 - 4, slew := .up }) (fun t =>
      t.channels[0] == soundingChannel) &&
    gives (.crossfadeEnd 0) (withChannel 0 fun ch => { ch with active := .flat, crossfade := .running .flat (.eq 0 none) 2399 })
      (fun t => t.channels[0] == soundingChannel) &&
    gives (.rampEnd 0) (withChannel 0 fun ch => { ch with factor := .of .silence, ramp := .running (.of .silence) 959 })
      (fun t => t.channels[0] == soundingChannel) &&
    gives (.gateFadeEnd 0) (withChannel 0 fun ch => { ch with fade := some 47 }) (fun t => t.channels[0].fade == none) &&
    gives (.lostSample 0) (withChannel 0 fun _ => { wakingChannel with wakeLoss := false }) (fun t => t.channels[0].wakeLoss) := by
  decide +kernel

theorem test_power :
    gives (.programmeJudgementChange true) (withChannel 1 fun _ => watchChannel) (fun t => t.channels[1].power == .active) &&
    gives (.silenceTimerExpiry 1) (withChannel 1 fun _ => watchChannel) (fun t => t.channels[1].power == .standby) &&
    gives (.readyAsserted 1) (withChannel 1 fun _ => wakingChannel) (fun t =>
      t.channels[1].power == .watch && t.channels[1].fade == some 0 && t.count .wakeLosses == 1) &&
    gives (.readyLost 1) running (fun t => t.channels[1].cause == some .readyLost) &&
    gives (.faultLineAsserted 1) running (fun t => t.channels[1].cause == some .line && !t.channels[1].enable) &&
    gives (.faultLineReleased 1) (withChannel 1 fun _ => faultChannel true) (fun t => t.channels[1].power == .forcedOff) &&
    gives (.wakeTimerExpiry 1) (withChannel 1 fun _ => wakingChannel) (fun t => t.channels[1].cause == some .timeout) := by
  decide +kernel

theorem test_contacts :
    gives (.contactPinChange .emergency true) running (fun t => t.emc.contactPin && t.emc.contactSpan == some 20000) &&
    gives .debouncedContactAsserted (contacted false false false false) (fun t =>
      t.emc.emergency && t.emc.refresh == some 1000000 && t.bus.queue.length == 2) &&
    gives .debouncedContactReleased (contacted true true true false) (fun t => t.emc.latch && t.emc.emergency) &&
    gives .resetContactAsserted (contacted true false true false) (fun t => !t.emc.latch && !t.emc.emergency) &&
    gives .resetContactReleased (contacted true true true true) (fun t => !t.emc.resetContact && t.emc.latch) &&
    gives .evacRefreshExpiry (contacted false true false false) (fun t => t.emc.refresh == some 1000000) := by decide +kernel

end Sys2Proof.Tests
end

section
/-! PROOFS. The effective flight of a history (R13): the model's value for three flights is bounded below and above exactly
as their median is, and a number with the bounds of the median is therefore that value. -/

namespace Sys2Proof.Machine

/-- The value of R13 for a history of three flights, as the model computes it. -/
theorem effectiveFlight_three (a b c : Nat) :
    effectiveFlight [a, b, c] = some (max (min a b) (min (max a b) c)) := rfl

/-- A number is at most the median of three exactly if it is at most two of them. -/
theorem le_median_iff (m a b c : Nat) :
    m ≤ max (min a b) (min (max a b) c) ↔ m ≤ a ∧ m ≤ b ∨ m ≤ a ∧ m ≤ c ∨ m ≤ b ∧ m ≤ c := by
  rw [le_max_iff, le_min_iff, le_min_iff, le_max_iff, or_and_right]

/-- A number is at least the median of three exactly if it is at least two of them. -/
theorem median_le_iff (m a b c : Nat) :
    max (min a b) (min (max a b) c) ≤ m ↔ a ≤ m ∧ b ≤ m ∨ a ≤ m ∧ c ≤ m ∨ b ≤ m ∧ c ≤ m := by
  rw [max_le_iff, min_le_iff, min_le_iff, max_le_iff]
  tauto

/-- Settles O37: the table of R13 by the number of values; for three, the median is pinned by its two bounds. -/
theorem effectiveFlightByCount : Obligations.EffectiveFlightByCount := by
  refine ⟨rfl, fun _ => rfl, fun _ _ => rfl, ?three⟩
  case three =>
    intro a b c m _ atMostTwo atLeastTwo
    have lower := (le_median_iff m a b c).2 atMostTwo
    have upper := (median_le_iff m a b c).2 atLeastTwo
    rw [effectiveFlight_three, le_antisymm upper lower]

end Sys2Proof.Machine
end

section
/-! PROOFS. The CONTACT flag of ALIGN and ROLL (R129): entry into EMERGENCY and exit from it leave the source set as it is,
so the flag alone says what becomes of the set; and a flag that finds nothing to remove changes nothing at all. -/

namespace Sys2Proof.Machine

/-! ### The source set under Emergency Control -/

/-- Entry into EMERGENCY keeps the source set. -/
@[simp] theorem enterEmergency_sources (s : State) : (enterEmergency s).emc.sources = s.emc.sources := by
  simp [enterEmergency]

/-- Exit from EMERGENCY keeps the source set. -/
@[simp] theorem leaveEmergency_sources (s : State) : (leaveEmergency s).emc.sources = s.emc.sources := by
  simp [leaveEmergency]

/-- Following the inputs (R131) reads the source set and keeps it. -/
@[simp] theorem followInputs_sources (s : State) : (followInputs s).emc.sources = s.emc.sources := by
  simp only [followInputs]
  split
  · exact enterEmergency_sources s
  · split
    · exact leaveEmergency_sources s
    · rfl

/-- Where EMERGENCY already follows its inputs (R131), nothing is entered or left. -/
theorem followInputs_of_follows {s : State} (follows : s.emc.emergency = (s.ownAlarm || !s.emc.sources.isEmpty)) :
    followInputs s = s := by
  simp only [followInputs, State.inEmergency, ← follows]
  cases s.emc.emergency <;> rfl

/-- The set after a CONTACT flag: the source is removed exactly if the flag is clear (R129). -/
theorem takeContactFlag_sources (station : Nat) (contact : Bool) (s : State) :
    (takeContactFlag station contact s).emc.sources =
      if contact = true then s.emc.sources else s.emc.sources.filter (· ≠ station) := by
  cases contact
  case true => rfl
  case false => simp [takeContactFlag, takeEvac, bne, beq_eq_decide]

/-- A source that is no member leaves nothing to remove. -/
theorem takeEvac_clear_of_not_mem {station : Nat} {s : State} (absent : station ∉ s.emc.sources)
    (follows : s.emc.emergency = (s.ownAlarm || !s.emc.sources.isEmpty)) : takeEvac station false s = s := by
  have kept : s.emc.sources.filter (· != station) = s.emc.sources :=
    List.filter_eq_self.2 fun n member => bne_iff_ne.2 (ne_of_mem_of_not_mem member absent)
  have removal : (s.modEmc fun e => { e with sources := e.sources.filter (· != station) }) = s := by
    simp only [State.modEmc, kept]
  calc takeEvac station false s
      = followInputs (s.modEmc fun e => { e with sources := e.sources.filter (· != station) }) := rfl
    _ = s := by rw [removal, followInputs_of_follows follows]

/-- A set flag, or a clear one of a source that is no member, changes nothing. -/
theorem takeContactFlag_eq_self {station : Nat} {contact : Bool} {s : State}
    (idle : contact = true ∨
      station ∉ s.emc.sources ∧ s.emc.emergency = (s.ownAlarm || !s.emc.sources.isEmpty)) :
    takeContactFlag station contact s = s := by
  cases contact
  case true => rfl
  case false =>
    obtain ⟨absent, follows⟩ := idle.resolve_left Bool.false_ne_true
    exact takeEvac_clear_of_not_mem absent follows

/-! ### Where a confirmed frame goes (R161 to R164) -/

/-- Counting a valid frame keeps the station's number. -/
@[simp] theorem countValid_number (s : State) : (countValid s).number = s.number := by simp [State.number]

/-- Counting a valid frame keeps the own alarm. -/
@[simp] theorem countValid_ownAlarm (s : State) : (countValid s).ownAlarm = s.ownAlarm := by simp [State.ownAlarm]

section Confirmed

variable {f : Frame} {stamp : Instant} {straps : Straps} {burst : Option Nat} {s : State}

/-- A well-formed frame from this station's own number goes to Start-up Control alone (R163). -/
theorem confirmFrame_own (station : isStation f.src = true) (allowed : f.body.destinationAllowed f.dst = true)
    (own : f.src = s.number) :
    confirmFrame f stamp straps burst s = event (takeDuplicate (FrameBody.asRoll f.body)) (countValid s) := by
  simp only [confirmFrame, station, allowed, countValid_number, if_pos own, Bool.and_self, if_true]

/-- A well-formed broadcast of another station is counted and handed over (R164). -/
theorem confirmFrame_broadcast (station : isStation f.src = true) (allowed : f.body.destinationAllowed f.dst = true)
    (broadcast : f.dst = 63) (other : f.src ≠ s.number) :
    confirmFrame f stamp straps burst s = dispatch f stamp straps burst (countValid s) := by
  simp only [confirmFrame, station, allowed, countValid_number, if_neg other, if_pos (Or.inl broadcast), Bool.and_self,
    if_true]

/-- The set after a confirmed broadcast that is handed over as a CONTACT flag. -/
theorem confirmFrame_sources {contact : Bool} (station : isStation f.src = true)
    (allowed : f.body.destinationAllowed f.dst = true) (broadcast : f.dst = 63)
    (handed : ∀ u, (dispatch f stamp straps burst u).emc.sources =
      if contact = true then u.emc.sources else u.emc.sources.filter (· ≠ f.src)) :
    (confirmFrame f stamp straps burst s).emc.sources =
      if f.src = s.number ∨ contact = true then s.emc.sources else s.emc.sources.filter (· ≠ f.src) := by
  by_cases own : f.src = s.number
  case pos =>
    rw [confirmFrame_own station allowed own, if_pos (Or.inl own)]
    simp
  case neg =>
    rw [confirmFrame_broadcast station allowed broadcast own, handed]
    simp [own]

end Confirmed

/-- An ALIGN that is handed over acts on the set by its CONTACT flag: the table and the ALIGN of the event's end keep the
set. -/
theorem dispatch_align_sources (src dst : Nat) (r : AlignRecord) (stamp : Instant) (straps : Straps)
    (burst : Option Nat) (s : State) :
    (dispatch ⟨src, dst, .align r⟩ stamp straps burst s).emc.sources =
      if r.flags.contact = true then s.emc.sources else s.emc.sources.filter (· ≠ src) := by
  simp [dispatch, takeContactFlag_sources]

/-- A ROLL that is handed over acts on the set by its CONTACT flag. -/
theorem dispatch_roll_sources (src dst : Nat) (b : RollBody) (stamp : Instant) (straps : Straps)
    (burst : Option Nat) (s : State) :
    (dispatch ⟨src, dst, .roll b⟩ stamp straps burst s).emc.sources =
      if b.contact = true then s.emc.sources else s.emc.sources.filter (· ≠ src) := by
  simp [dispatch, takeContactFlag_sources]

/-! ### The commands ALIGN and ROLL -/

/-- ALIGN is the confirmation of its frame. -/
theorem exec_align_eq (src : Nat) (r : AlignRecord) (s : State) :
    exec (.align src r) s = .next (confirmFrame ⟨src, 63, .align r⟩ s.timeBase s.stc.strapPins none s) := rfl

/-- ROLL is the confirmation of its frame. -/
theorem exec_roll_eq (src : Nat) (b : RollBody) (s : State) :
    exec (.roll src b) s = .next (confirmFrame ⟨src, 63, .roll b⟩ s.timeBase s.stc.strapPins none s) := rfl

/-- A ROLL of another station that finds nothing to change is counted, and no more. -/
theorem exec_roll_of_idle {src : Nat} {b : RollBody} {s : State} (station : isStation src = true)
    (other : src ≠ s.number)
    (idle : b.contact = true ∨ src ∉ s.emc.sources ∧ s.emc.emergency = (s.ownAlarm || !s.emc.sources.isEmpty)) :
    exec (.roll src b) s = .next (countValid s) := by
  have unchanged : takeContactFlag src b.contact (countValid s) = countValid s :=
    takeContactFlag_eq_self (by simpa using idle)
  have event_idle : event (takeContactFlag src b.contact) (countValid s) = countValid s := by
    rw [event_quiet (congrArg published unchanged), unchanged]
  rw [exec_roll_eq, confirmFrame_broadcast station rfl rfl other]
  exact congrArg _ event_idle

/-- Settles O15: both commands confirm a broadcast that is handed over as a CONTACT flag, and a ROLL hands over nothing
else. -/
theorem contactFlagRemovesSource : Obligations.ContactFlagRemovesSource := by
  intro src s station
  refine ⟨fun r => ⟨_, exec_align_eq src r s, ?align⟩, fun b => ⟨_, exec_roll_eq src b s, ?roll⟩,
    fun _ other idle => exec_roll_of_idle station other idle⟩
  case align => exact confirmFrame_sources station rfl rfl (dispatch_align_sources src 63 r _ _ _)
  case roll => exact confirmFrame_sources station rfl rfl (dispatch_roll_sources src 63 b _ _ _)

end Sys2Proof.Machine
end

section
/-! PROOFS. A refused CUE (R143): a CUE kept by its destination reaches the Cue Engine after its count, each condition of the
refusal is read off the state as it was before the count, and a refusal sets the last CUE record and one counter. -/

namespace Sys2Proof.Machine

/-! ### The CUE reaches the Cue Engine (R161 to R164) -/

/-- A well-formed frame of another station, to all or to this station, is counted and handed over (R164). -/
theorem confirmFrame_kept {f : Frame} {stamp : Instant} {straps : Straps} {burst : Option Nat} {s : State}
    (station : isStation f.src = true) (allowed : f.body.destinationAllowed f.dst = true)
    (other : f.src ≠ s.number) (kept : f.dst = 63 ∨ f.dst = s.number) :
    confirmFrame f stamp straps burst s = dispatch f stamp straps burst (countValid s) := by
  simp only [confirmFrame, station, allowed, countValid_number, if_neg other, if_pos kept, Bool.and_self, if_true]

/-- A CUE may go to all stations or to one (R161). -/
theorem cue_destinationAllowed_iff {dst : Nat} {number : Byte} {params : List Byte} :
    (FrameBody.cue number params).destinationAllowed dst = true ↔ dst = 63 ∨ isStation dst = true := by
  simp [FrameBody.destinationAllowed]

section Handed

variable {src dst : Nat} {number : Byte} {params : List Byte} {burst : Option Nat} {s : State}

/-- A CUE of another station that this one keeps is counted and goes to the Cue Engine. -/
theorem exec_cue_kept (station : isStation src = true) (other : src ≠ s.number)
    (kept : dst = 63 ∨ dst = s.number ∧ isStation dst = true) (short : params.length ≤ 4) :
    exec (.cue src dst number params burst) s = .next (takeCue src number params burst (countValid s)) := by
  have allowed : (FrameBody.cue number params).destinationAllowed dst = true :=
    cue_destinationAllowed_iff.2 (kept.imp_right And.right)
  have confirmed : confirmFrame ⟨src, dst, .cue number params⟩ s.timeBase s.stc.strapPins burst s =
      takeCue src number params burst (countValid s) :=
    confirmFrame_kept station allowed other (kept.imp_right And.left)
  calc exec (.cue src dst number params burst) s
      = .next (if params.length ≤ 4 then
          confirmFrame ⟨src, dst, .cue number params⟩ s.timeBase s.stc.strapPins burst s
        else bump .rxMalformed s) := rfl
    _ = .next (takeCue src number params burst (countValid s)) := by rw [if_pos short, confirmed]

/-! ### The refusal (R143) -/

/-- The station serves its zone in RUN and CONFLICT alone. -/
theorem serving_iff (s : State) : s.serving = true ↔ s.stc.mode = .run ∨ s.stc.mode = .conflict := by
  simp [State.serving]

/-- The count of a valid frame has no part in the refusal. -/
@[simp] theorem cueRefusal_countValid (s : State) (number : Byte) :
    cueRefusal (countValid s) number = cueRefusal s number := by
  simp [cueRefusal, State.inEmergency, State.serving]

/-- The first condition: EMERGENCY, whatever the mode and the number. -/
theorem cueRefusal_of_emergency (emergency : s.emc.emergency = true) :
    cueRefusal s number = some .refusedEmergency := by
  rw [cueRefusal, State.inEmergency, if_pos emergency]

/-- The second condition: a mode in which the station serves no zone, whatever the number. -/
theorem cueRefusal_of_not_serving (calm : s.emc.emergency = false) (idle : s.serving = false) :
    cueRefusal s number = some .refusedMode := by
  simp [cueRefusal, State.inEmergency, calm, idle]

/-- The third condition: a number above 63. -/
theorem cueRefusal_of_number (calm : s.emc.emergency = false) (serving : s.serving = true)
    (above : 63 < number.toNat) : cueRefusal s number = some .refusedNumber := by
  simp [cueRefusal, State.inEmergency, calm, serving, above]

/-- The Cue Engine counts and records a CUE that it refuses, and takes no action. -/
theorem takeCue_of_refused {outcome : CueOutcome} (refused : cueRefusal s number = some outcome) :
    takeCue src number params burst s = bump .cueFaults (recordCue src number outcome s) := by
  simp only [takeCue, acceptCue, refused]

/-- A refusal in the state before the frame is the command's whole effect, but for the frame's count. -/
theorem exec_cue_of_refused {outcome : CueOutcome} (station : isStation src = true) (other : src ≠ s.number)
    (kept : dst = 63 ∨ dst = s.number ∧ isStation dst = true) (short : params.length ≤ 4)
    (refused : cueRefusal s number = some outcome) :
    exec (.cue src dst number params burst) s = .next
      (bump .cueFaults { countValid s with cue := { s.cue with lastCue := some ⟨src, number, outcome⟩ } }) := by
  have counted : cueRefusal (countValid s) number = some outcome := by rw [cueRefusal_countValid, refused]
  rw [exec_cue_kept station other kept short, takeCue_of_refused counted]
  simp only [recordCue, State.modCue, countValid_frame]

end Handed

/-- Settles O20: the three conditions in the order of R143, each with its outcome; what a refusal does is the same for all. -/
theorem cueRefused : Obligations.CueRefused := by
  intro src dst number params burst s station other kept short
  refine ⟨fun emergency => ?emergency, fun calm notRun notConflict => ?mode, fun calm mode above => ?number⟩
  case emergency =>
    exact exec_cue_of_refused station other kept short (cueRefusal_of_emergency emergency)
  case mode =>
    have idle : s.serving = false :=
      Bool.eq_false_iff.2 fun serving => ((serving_iff s).1 serving).elim notRun notConflict
    exact exec_cue_of_refused station other kept short (cueRefusal_of_not_serving calm idle)
  case number =>
    exact exec_cue_of_refused station other kept short (cueRefusal_of_number calm ((serving_iff s).2 mode) above)

end Sys2Proof.Machine
end

section
/-! PROOFS. What a step is made of: a command always answers a next state, and every step is a chain of turns, each of
which starts where the laws hold again: the count of a frame, the event of a frame, one cue action, one other command. -/

namespace Sys2Proof.Machine

/-! ### The laws of a lawful state, by name -/

section Lawful

variable {s : State}

theorem Lawful.start (h : Lawful s) : StartLaw s := by obtain ⟨h, -⟩ := h; exact h
theorem Lawful.held (h : Lawful s) : HeldLaw s := by obtain ⟨-, h, -⟩ := h; exact h
theorem Lawful.table (h : Lawful s) : TableLaw s := by obtain ⟨-, -, h, -⟩ := h; exact h
theorem Lawful.slots (h : Lawful s) : SlotLaw s := by obtain ⟨-, -, -, h, -⟩ := h; exact h
theorem Lawful.round (h : Lawful s) : RoundLaw s := by obtain ⟨-, -, -, -, h, -⟩ := h; exact h
theorem Lawful.target (h : Lawful s) : TargetLaw s := by obtain ⟨-, -, -, -, -, h, -⟩ := h; exact h
theorem Lawful.rank (h : Lawful s) : RankLaw s := by obtain ⟨-, -, -, -, -, -, h, -⟩ := h; exact h
theorem Lawful.delay (h : Lawful s) : DelayLaw s := by obtain ⟨-, -, -, -, -, -, -, h, -⟩ := h; exact h
theorem Lawful.formed (h : Lawful s) : FormedLaw s := by obtain ⟨-, -, -, -, -, -, -, -, h, -⟩ := h; exact h
theorem Lawful.eqs (h : Lawful s) : EqLaw s := by obtain ⟨-, -, -, -, -, -, -, -, -, h, -⟩ := h; exact h
theorem Lawful.power (h : Lawful s) : PowerLaw s := by obtain ⟨-, -, -, -, -, -, -, -, -, -, h, -⟩ := h; exact h
theorem Lawful.alarm (h : Lawful s) : AlarmLaw s := by obtain ⟨-, -, -, -, -, -, -, -, -, -, -, h, -⟩ := h; exact h
theorem Lawful.calm (h : Lawful s) : CalmLaw s := by obtain ⟨-, -, -, -, -, -, -, -, -, -, -, -, h, -⟩ := h; exact h
theorem Lawful.list (h : Lawful s) : ListLaw s := by obtain ⟨-, -, -, -, -, -, -, -, -, -, -, -, -, h, -⟩ := h; exact h
theorem Lawful.queue (h : Lawful s) : QueueLaw s := by obtain ⟨-, -, -, -, -, -, -, -, -, -, -, -, -, -, h, -⟩ := h; exact h
theorem Lawful.line (h : Lawful s) : LineLaw s := by obtain ⟨-, -, -, -, -, -, -, -, -, -, -, -, -, -, -, h, -⟩ := h; exact h
theorem Lawful.memory (h : Lawful s) : MemoryLaw s := by obtain ⟨-, -, -, -, -, -, -, -, -, -, -, -, -, -, -, -, h⟩ := h; exact h

end Lawful

/-! ### Every command answers -/

@[simp] theorem beginLoading_pending (s : State) : (beginLoading s).pending = s.pending := by
  unfold beginLoading
  split <;> simp

@[simp] theorem takeRestart_pending (unit : BitVec 32) (straps : Straps) (s : State) :
    (takeRestart unit straps s).pending = s.pending := by
  unfold takeRestart
  split
  · rfl
  · split
    · simp
    · simp [warmRestart, resetState]

@[simp] theorem confirmFrame_pending (f : Frame) (stamp : Instant) (straps : Straps) (burst : Option Nat) (s : State) :
    (confirmFrame f stamp straps burst s).pending = s.pending := by
  unfold confirmFrame dispatch
  dsimp only
  repeat' split
  all_goals simp

@[simp] theorem checkFrame_pending (chars : List Byte) (stamp : Instant) (burst : Option Nat) (s : State) :
    (checkFrame chars stamp burst s).pending = s.pending := by
  unfold checkFrame
  repeat' split
  all_goals simp

@[simp] theorem judgeRequest_pending {f : State → State} (kept : ∀ s, (f s).pending = s.pending) (s : State) :
    (judgeRequest f s).pending = s.pending := by
  unfold judgeRequest
  split
  · exact kept _
  · rfl

/-- Settles O3: command by command; what a command calls leaves the waiting commands alone. -/
theorem everyCommandAnswersNext : Obligations.EveryCommandAnswersNext := by
  intro c s
  cases c
  case airReply r =>
    exact ⟨_, rfl, (event_frame _ s).2.2.2.2.2.2.2.2.2.2.2.2.2.2.trans
      (judgeRequest_pending (fun s => by split <;> simp) s)⟩
  case airReplyTimeout => exact ⟨_, rfl, by simp⟩
  all_goals
    refine ⟨_, rfl, ?_⟩
    try simp only [event_frame, confirmFrame_pending]
    try ((repeat' split) <;> simp [resetState])

/-- Settles O1: with a command at the front, the step is that command with the queue's rest. -/
theorem stepTakesFrontCommand : Obligations.StepTakesFrontCommand := by
  intro c rest s front
  simp only [step, front]

/-! ### A step with nothing waiting -/

theorem step_of_nothing_waiting {s : State} (empty : s.pending = []) : step s = .next (idle s) := by
  simp only [step, empty]

theorem ListState.isRunning_iff (l : ListState) : l.isRunning = true ↔ ∃ c, l = .running c := by
  cases l <;> simp [ListState.isRunning]

/-- An interrupted run goes on by one action (log 6). -/
theorem idle_of_running {s : State} {c : ListContext} (running : s.cue.list = .running c) :
    idle s = event takeAction s := by
  have stops : runActions 512 (some 0) (event takeAction s) = event takeAction s := by
    unfold runActions
    split <;> simp_all
  simp only [idle, running, ListState.isRunning, if_true, runList, stops]

theorem idle_of_not_running {s : State} (idling : s.cue.list.isRunning = false) : idle s = tick s := by
  simp [idle, idling]

theorem mapVector_get {α β : Type} {n : Nat} (f : α → β) (v : Vector α n) (i : Fin n) :
    (mapVector f v)[i] = f v[i] := by
  simp [mapVector]

/-- Settles O2: the two cases of `idle`; what 1 µs changes is read off `tick` block by block. -/
theorem emptyQueueLetsTimePass : Obligations.EmptyQueueLetsTimePass := by
  intro s empty
  refine ⟨fun c running => ?run, fun idling => ⟨tick s, ?pass, rfl, rfl, ⟨s.stc.reading.tick, rfl, ?_, ?_, ?_⟩, rfl, rfl,
    ⟨s.solver.hold.tick, rfl, ?_, ?_⟩, ?_, ⟨s.cue.list.tick, rfl, ?_, ?_⟩, rfl, rfl, rfl, rfl, rfl, rfl, rfl, rfl, rfl,
    empty⟩⟩
  case run => rw [step_of_nothing_waiting empty, idle_of_running running]
  case pass =>
    have stopped : s.cue.list.isRunning = false :=
      Bool.eq_false_iff.2 fun h => let ⟨c, hc⟩ := (s.cue.list.isRunning_iff).1 h; idling c hc
    rw [step_of_nothing_waiting empty, idle_of_not_running stopped]
  · intro l h; rw [h]; rfl
  · intro h l e; rw [e]; rfl
  · intro h; rw [h]; rfl
  · intro l h; rw [h]; rfl
  · intro h; cases e : s.solver.hold <;> simp_all [HoldTimer.isRunning, HoldTimer.tick]
  · intro c; exact mapVector_get _ _ c
  · intro c l h; rw [h]; rfl
  · intro h; rw [h]; rfl

/-! ### Reset -/

/-- Settles O4: both by the test for every law, on a state written out. -/
theorem resetIsLawful : Obligations.ResetIsLawful := by
  have unwatched : ∀ c : Fin 4, State.reset.channels[c].power ≠ .watch := by decide +kernel
  exact ⟨Lawful.of_check (by decide +kernel), fun c watch => absurd watch (unwatched c)⟩

/-! ### The turns of a step -/

/-- The command is one event, or one change, on its own: no received frame and no run of cue actions. -/
def isSingle : Instr → Bool
  | .align .. | .roll .. | .mark .. | .evac .. | .cue .. | .waitTimerExpiry _ | .query .. | .restart .. | .reply ..
  | .duplicateFrame _ | .interFrameGap _ => false
  | _ => true

/-- The frame is not a CUE, whose actions are turns of their own (R145). -/
def FrameBody.isNoCue : FrameBody → Bool
  | .cue .. => false
  | _ => true

/-- The line after a gap (R159): the assembly is ready and the idle time has reached G. -/
def gapTaken (s : State) : State :=
  s.modBus fun b => { b with assembly := .seeking true, idleMicros := max b.idleMicros (gapChars * s.characterTime) }

/-- One turn: the smallest part of a step after which every law holds again. -/
inductive Turn : State → State → Prop
  | unwait (q : List Instr) (s : State) : Turn s (s.setPending q)
  | pass {s : State} (idling : s.cue.list.isRunning = false) : Turn s (tick s)
  | act (s : State) : Turn s (event takeAction s)
  | resume {s : State} {c : ListContext} {left : Nat} (waiting : s.cue.list = .waiting c left) :
      Turn s (s.modCue fun e => { e with list := .running c })
  | count (k : Counter) (s : State) : Turn s (bump k s)
  | pins (straps : Straps) (s : State) : Turn s (s.modStc fun c => { c with strapPins := straps })
  | gap (s : State) : Turn s (gapTaken s)
  | valid (s : State) : Turn s (countValid s)
  | duplicate (roll : Option RollBody) (s : State) : Turn s (event (takeDuplicate roll) s)
  | handed {f : Frame} {s : State} (stamp : Instant) (straps : Straps) (burst : Option Nat)
      (station : isStation f.src = true) (other : f.src ≠ s.number) (noCue : FrameBody.isNoCue f.body = true) :
      Turn s (dispatch f stamp straps burst s)
  | accept {params : List Byte} (src : Nat) (number : Byte) (s : State) (short : params.length ≤ 4) :
      Turn s (acceptCue src number params s)
  | command {c : Instr} {s t : State} (single : isSingle c = true) (answer : exec c s = .next t) : Turn s t

/-- A chain of turns. -/
abbrev Turns : State → State → Prop := Relation.ReflTransGen Turn

theorem Turn.one {s t : State} (h : Turn s t) : Turns s t := Relation.ReflTransGen.single h

/-- What every turn keeps, a chain of turns keeps. -/
theorem Turns.keeps {P : State → Prop} (step : ∀ s t, Turn s t → P s → P t) {s t : State} (h : Turns s t) (start : P s) :
    P t := by
  induction h with
  | refl => exact start
  | tail _ turn ih => exact step _ _ turn ih

theorem runActions_turns (fuel : Nat) (burst : Option Nat) (s : State) : Turns s (runActions fuel burst s) := by
  induction fuel generalizing burst s with
  | zero => exact .refl
  | succ fuel ih =>
    unfold runActions
    split
    · exact .refl
    · exact .trans (Turn.act s).one (ih _ _)
    · exact .trans (Turn.act s).one (ih _ _)
    · exact .refl

theorem runList_turns (burst : Option Nat) (s : State) : Turns s (runList burst s) := by
  unfold runList
  split
  · exact .trans (Turn.act s).one (runActions_turns _ _ _)
  · exact .refl

theorem takeCue_turns {params : List Byte} (src : Nat) (number : Byte) (burst : Option Nat) (s : State)
    (short : params.length ≤ 4) : Turns s (takeCue src number params burst s) := by
  unfold takeCue
  split
  · exact (Turn.accept src number s short).one
  · exact .trans (Turn.accept src number s short).one (runList_turns _ _)

theorem idle_turns (s : State) : Turns s (idle s) := by
  unfold idle
  split
  · exact runList_turns _ _
  · next idling => exact (Turn.pass (Bool.eq_false_iff.2 idling)).one

/-- A CUE carries at most four parameters (R199). -/
def FrameBody.shortCue : FrameBody → Prop
  | .cue _ params => params.length ≤ 4
  | _ => True

theorem dispatch_turns {f : Frame} {s : State} (stamp : Instant) (straps : Straps) (burst : Option Nat)
    (station : isStation f.src = true) (other : f.src ≠ s.number) (short : FrameBody.shortCue f.body) :
    Turns s (dispatch f stamp straps burst s) := by
  obtain ⟨src, dst, body⟩ := f
  cases body
  case cue number params => exact takeCue_turns src number burst s short
  all_goals exact (Turn.handed stamp straps burst station other rfl).one

theorem confirmFrame_turns {f : Frame} (stamp : Instant) (straps : Straps) (burst : Option Nat) (s : State)
    (short : FrameBody.shortCue f.body) : Turns s (confirmFrame f stamp straps burst s) := by
  unfold confirmFrame
  split
  · next checked =>
    have station : isStation f.src = true := (Bool.and_eq_true_iff.1 checked).1
    refine .trans (Turn.valid s).one ?_
    dsimp only
    split
    · exact (Turn.duplicate _ _).one
    · next other =>
      split
      · exact dispatch_turns stamp straps burst station other short
      · exact .refl
  · exact (Turn.count .rxMalformed s).one

/-- No other parser of a payload gives a CUE. -/
theorem parseBody_cue {b0 b1 b2 b3 : Byte} {payload params : List Byte} {number : Byte}
    (h : parseBody b0 b1 b2 b3 payload = some (.cue number params)) : parseCue payload = some (.cue number params) := by
  unfold parseBody parseRoll parseAlign parseQuery parseEvac parseRestart parseReplyStatus at h
  repeat' split at h
  all_goals first | exact h | cases h

/-- A CUE read from its bytes carries at most four parameters (R199). -/
theorem parseBody_shortCue {b0 b1 b2 b3 : Byte} {payload : List Byte} {body : FrameBody}
    (h : parseBody b0 b1 b2 b3 payload = some body) : FrameBody.shortCue body := by
  cases body
  case cue number params =>
    have parsed := parseBody_cue h
    unfold parseCue at parsed
    split at parsed
    · split at parsed
      · next short =>
        cases parsed
        exact short
      · cases parsed
    · cases parsed
  all_goals trivial

theorem parseFrame_shortCue {chars : List Byte} {f : Frame} (h : parseFrame chars = some f) :
    FrameBody.shortCue f.body := by
  unfold parseFrame at h
  split at h
  · dsimp only at h
    split at h
    · cases h
    · split at h
      · cases h
      · next body parsed =>
        obtain ⟨-, same⟩ := Option.ite_none_right_eq_some.1 h
        cases same
        exact parseBody_shortCue parsed
  · cases h

theorem checkFrame_turns (chars : List Byte) (stamp : Instant) (burst : Option Nat) (s : State) :
    Turns s (checkFrame chars stamp burst s) := by
  unfold checkFrame
  split
  · split
    · next f parsed => exact confirmFrame_turns _ _ _ _ (parseFrame_shortCue parsed)
    · exact (Turn.count _ _).one
  · exact (Turn.count _ _).one

/-- A received frame, a gap or a run of cue actions is a chain of turns; every other command is one. -/
theorem exec_turns {c : Instr} {s t : State} (answer : exec c s = .next t) : Turns s t := by
  by_cases single : isSingle c = true
  case pos => exact (Turn.command single answer).one
  case neg =>
    cases c
    case align src r => cases answer; exact confirmFrame_turns _ _ _ _ trivial
    case roll src b => cases answer; exact confirmFrame_turns _ _ _ _ trivial
    case mark src stamp => cases answer; exact confirmFrame_turns _ _ _ _ trivial
    case evac src set => cases answer; exact confirmFrame_turns _ _ _ _ trivial
    case query src dst q => cases answer; exact confirmFrame_turns _ _ _ _ trivial
    case reply src dst => cases answer; exact confirmFrame_turns _ _ _ _ trivial
    case duplicateFrame roll => cases answer; cases roll <;> exact confirmFrame_turns _ _ _ _ trivial
    case restart src unit straps =>
      cases answer
      exact .trans (Turn.pins straps s).one (confirmFrame_turns _ _ _ _ trivial)
    case cue src dst number params burst =>
      cases answer
      split
      · next short => exact confirmFrame_turns _ _ _ _ short
      · exact (Turn.count _ _).one
    case waitTimerExpiry burst =>
      cases answer
      split
      · next waiting => exact .trans (Turn.resume waiting).one (runList_turns _ _)
      · exact .refl
    case interFrameGap burst =>
      cases answer
      refine .trans (Turn.gap s).one ?_
      dsimp only [gapTaken]
      split
      · exact .refl
      · exact .refl
      · exact (Turn.count _ _).one
      · split
        · exact .refl
        · exact checkFrame_turns _ _ _ _
    all_goals exact absurd rfl single

/-- A step is a chain of turns. -/
theorem step_turns {s t : State} (h : step s = .next t) : Turns s t := by
  unfold step at h
  split at h
  · next c rest _ => exact .trans (Turn.unwait rest s).one (exec_turns h)
  · cases h
    exact idle_turns s

end Sys2Proof.Machine
end

section
/-! PROOFS. What an image that is read holds: each field is read from its place, and its ranges are those of check 6. -/

namespace Sys2Proof.Machine

/-! ### Lists of optional values -/

theorem allSome_eq_some_iff {α : Type} {l : List (Option α)} {r : List α} : allSome l = some r ↔ l = r.map some := by
  induction l generalizing r with
  | nil => cases r <;> simp [allSome]
  | cons a l ih =>
    cases a with
    | none => cases r <;> simp [allSome]
    | some a =>
      cases r with
      | nil => simp [allSome]
      | cons b r => simp [allSome, ih, and_comm]

theorem allSome_eq_none_iff {α : Type} {l : List (Option α)} : allSome l = none ↔ none ∈ l := by
  induction l with
  | nil => simp [allSome]
  | cons a l ih => cases a <;> simp [allSome, ih]

/-- The values of a function on a range, read one by one. -/
theorem allSome_range {α : Type} {n : Nat} {f : Nat → Option α} {r : List α}
    (h : allSome ((List.range n).map f) = some r) : r.length = n ∧ ∀ i, i < n → f i = r[i]? := by
  rw [allSome_eq_some_iff] at h
  have len : r.length = n := by simpa using (congrArg List.length h).symm
  refine ⟨len, fun i hi => ?_⟩
  have at_i := congrArg (·[i]?) h
  simp only [List.getElem?_map, List.getElem?_range hi, Option.map_some] at at_i
  rw [List.getElem?_eq_getElem (by omega)] at at_i ⊢
  simpa using at_i

theorem vectorOf_toList {α : Type} {n : Nat} {l : List α} {v : Vector α n} (h : vectorOf n l = some v) : v.toList = l := by
  unfold vectorOf at h
  split at h
  · cases h; rfl
  · cases h

theorem vectorOf_isSome {α : Type} {n : Nat} {l : List α} (h : l.length = n) : ∃ v, vectorOf n l = some v :=
  ⟨_, dif_pos h⟩

theorem get_of_toList {α : Type} {n : Nat} {l : List α} {v : Vector α n} (h : v.toList = l) (i : Fin n) :
    l[i.val]? = some v[i] := by
  subst h
  simp

theorem within_iff {lo hi n : Nat} : within lo hi n = true ↔ lo ≤ n ∧ n ≤ hi := by
  simp [within]

/-! ### The fields of an image -/

/-- An image's fields are those its bytes give, section by section (R200, R201). -/
structure ReadFrom (b : List Byte) (img : Image) : Prop where
  station : stationFieldsOk b = true
  scalars : img =
    { img with
      id := BitVec.ofNat 32 (field b 4 4)
      length := field b 2 2
      kind := if field b 10 1 = 1 then .origin else .delay
      originDelay := field b 11 3
      fallbackDelay := field b 14 3
      offset := field b 17 1
      deadband := field b 18 2
      slewCode := field b 20 1
      refresh := field b 21 1
      staleLimit := field b 22 1
      lostLimit := field b 23 2
      holdLimit := field b 25 2
      jumpLimit := field b 27 1
      probeInterval := field b 28 2
      probeChannel := Fin.ofNat 4 (field b 30 1)
      probeLevel := field b 31 1
      threshold := field b 32 1
      micLatency := field b 33 1
      defaultTemp := signedField b 34
      defaultBand := field b 36 1
      silenceLevel := field b 37 1
      standbyDelay := field b 38 2
      cueBytes := (b.drop 588).take 512 }
  bindings : ∀ i : Fin 16, parseBinding (b.drop (40 + 3 * i)) = some img.bindings[i]
  channels : ∀ c : Fin 4, parseChannel (b.drop (88 + 109 * c)) = some img.channels[c]
  absorption : img.absorption.length = 8 ∧ ∀ p, p < 8 → parseRow (b.drop (524 + 8 * p)) = img.absorption[p]?

theorem readImage_readFrom {b : List Byte} {img : Image} (h : readImage b = some img) : ReadFrom b img := by
  unfold readImage at h
  split at h
  · next station =>
    split at h
    · next bs cs rows hb hc hr =>
      split at h
      · next bindings channels hbs hcs =>
        obtain ⟨-, eachBinding⟩ := allSome_range hb
        obtain ⟨-, eachChannel⟩ := allSome_range hc
        cases h
        exact {
          station
          scalars := rfl
          bindings := fun i => (eachBinding i i.isLt).trans (get_of_toList (vectorOf_toList hbs) i)
          channels := fun c => (eachChannel c c.isLt).trans (get_of_toList (vectorOf_toList hcs) c)
          absorption := allSome_range hr }
      · cases h
    · cases h
  · cases h

/-! ### The bindings and the channels, one by one -/

theorem parseBinding_single {b : List Byte} {st : Nat} (h : parseBinding b = some (.single st)) : isStation st = true := by
  unfold parseBinding at h
  split at h
  · cases h
  · split at h
    · next station => cases h; exact station
    · cases h
  · cases h
  · cases h

theorem parseChannel_ranges {b : List Byte} {ch : ChannelImage} (h : parseChannel b = some ch) :
    ch.trim ≤ 960 ∧ ch.startGain ≤ 184 ∧ ch.evacGain ≤ 184 ∧ ch.evacPreset ≤ 3 := by
  unfold parseChannel at h
  split at h
  · cases h
  · split at h
    · next ranges =>
      cases h
      simp only [Bool.and_eq_true, within_iff] at ranges
      obtain ⟨⟨⟨⟨⟨⟨trim, -⟩, -⟩, startGain⟩, -⟩, evacPreset⟩, evacGain⟩ := ranges
      exact ⟨trim.2, startGain.2, evacGain.2, evacPreset.2⟩
    · cases h

/-- An image that is read lies in the ranges that the laws rest on. -/
theorem ReadFrom.ranges {b : List Byte} {img : Image} (h : ReadFrom b img) : ImageRanges img := by
  have station := h.station
  simp only [stationFieldsOk, Bool.and_eq_true, within_iff] at station
  have originDelay : img.originDelay = field b 11 3 := congrArg Image.originDelay h.scalars
  have fallbackDelay : img.fallbackDelay = field b 14 3 := congrArg Image.fallbackDelay h.scalars
  have offset : img.offset = field b 17 1 := congrArg Image.offset h.scalars
  have cueBytes : img.cueBytes = (b.drop 588).take 512 := congrArg Image.cueBytes h.scalars
  refine ⟨by omega, by omega, by omega, ?_, fun c => parseChannel_ranges (h.channels c)⟩
  rw [cueBytes]
  exact List.length_take_le 512 _

/-! ### The checks of an image (R179) -/

/-- The SINGLE stations of an image, in the order of the entries. -/
def Image.singles (img : Image) : List Nat := img.bindings.toList.filterMap Binding.singleStation

/-- An image that passes has been read, and passes checks 7 to 11. -/
structure Checked (own : Nat) (b : List Byte) (img : Image) : Prop where
  read : ReadFrom b img
  probeChannel : field b 30 1 ≤ 3
  limits : img.staleLimit < img.lostLimit
  pools : img.bindings.toList.all poolOk = true
  other : own ∉ img.singles
  distinct : hasDuplicate img.singles = false

theorem checkImage_checked {own : Nat} {b : List Byte} {img : Image} (h : checkImage own b = .ok img) :
    Checked own b img := by
  unfold checkImage at h
  split at h
  · cases h
  split at h
  · cases h
  split at h
  · cases h
  next img' read =>
  dsimp only at h
  split at h
  · cases h
  next probeChannel =>
  split at h
  · cases h
  next limits =>
  split at h
  · cases h
  next pools =>
  split at h
  · cases h
  next other =>
  split at h
  · cases h
  next distinct =>
  cases h
  exact {
    read := readImage_readFrom read
    probeChannel := by omega
    limits := by omega
    pools := by simpa using pools
    other := by simpa [Image.singles] using other
    distinct := by simpa [Image.singles] using distinct }

theorem hasDuplicate_iff_nodup {l : List Nat} : hasDuplicate l = false ↔ l.Nodup := by
  induction l with
  | nil => simp [hasDuplicate]
  | cons a l ih => simp [hasDuplicate, ih]

/-- In a list without repeats, two places that give the same value are the same. -/
theorem filterMap_nodup_injective {α β : Type} {f : α → Option β} {l : List α} (h : (l.filterMap f).Nodup) {i j : Nat}
    {a a' : α} {b : β} (hi : l[i]? = some a) (hj : l[j]? = some a') (ha : f a = some b) (ha' : f a' = some b) : i = j := by
  induction l generalizing i j with
  | nil => simp at hi
  | cons x l ih =>
    have tail : (l.filterMap f).Nodup := h.sublist ((List.sublist_cons_self x l).filterMap f)
    have absent : ∀ {k : Nat} {y : α}, f x = some b → l[k]? = some y → f y = some b → False := by
      intro k y hx hy hb
      rw [List.filterMap_cons_some hx, List.nodup_cons] at h
      exact h.1 (List.mem_filterMap.2 ⟨y, List.mem_of_getElem? hy, hb⟩)
    cases i <;> cases j
    · rfl
    · simp only [List.getElem?_cons_zero, Option.some.injEq] at hi
      subst hi
      exact (absent ha (by simpa using hj) ha').elim
    · simp only [List.getElem?_cons_zero, Option.some.injEq] at hj
      subst hj
      exact (absent ha' (by simpa using hi) ha).elim
    · exact congrArg (· + 1) (ih tail (by simpa using hi) (by simpa using hj))

section Checked

variable {own : Nat} {b : List Byte} {img : Image}

theorem Checked.single_station (h : Checked own b img) {i : Fin 16} {st : Nat} (single : img.bindings[i] = .single st) :
    isStation st = true :=
  parseBinding_single ((h.read.bindings i).trans (congrArg some single))

theorem Checked.single_other (h : Checked own b img) {i : Fin 16} {st : Nat} (single : img.bindings[i] = .single st) :
    st ≠ own := by
  rintro rfl
  exact h.other (List.mem_filterMap.2 ⟨img.bindings[i], by simp, by rw [single]; rfl⟩)

theorem Checked.single_injective (h : Checked own b img) {i j : Fin 16} {st : Nat} (hi : img.bindings[i] = .single st)
    (hj : img.bindings[j] = .single st) : i = j :=
  Fin.ext (filterMap_nodup_injective (f := Binding.singleStation) (hasDuplicate_iff_nodup.1 h.distinct)
    (get_of_toList rfl i) (get_of_toList rfl j) (by rw [hi]; rfl) (by rw [hj]; rfl))

end Checked

end Sys2Proof.Machine
end

section
/-! PROOFS. The addressed buffers (R72, R108, R140): every turn leaves them as they were, but for a reset, the installation
of an image and a programme sample, and each of these keeps their canonical form. -/

namespace Sys2Proof.Machine

/-! ### Cue memory under the Cue Engine and Emergency Control -/

@[simp] theorem abandonList_memory (s : State) : (abandonList s).cue.memory = s.cue.memory := by
  unfold abandonList
  split <;> simp [endList]

@[simp] theorem overtakeList_memory (s : State) : (overtakeList s).cue.memory = s.cue.memory := by
  unfold overtakeList
  split <;> simp [endList]

@[simp] theorem startList_memory (source : Nat) (number : Byte) (params : List Byte) (s : State) :
    (startList source number params s).cue.memory = s.cue.memory := by
  unfold startList
  dsimp only
  split <;> simp [endList, recordCue]

@[simp] theorem acceptCue_memory (source : Nat) (number : Byte) (params : List Byte) (s : State) :
    (acceptCue source number params s).cue.memory = s.cue.memory := by
  unfold acceptCue
  split <;> simp [recordCue]

@[simp] theorem takeAction_memory (s : State) : (takeAction s).cue.memory = s.cue.memory := by
  unfold takeAction
  split
  · split
    · simp [endList]
    · unfold advanceList
      split <;> simp [endList]
  · rfl

@[simp] theorem enterEmergency_memory (s : State) : (enterEmergency s).cue.memory = s.cue.memory := by
  simp [enterEmergency]

@[simp] theorem followInputs_memory (s : State) : (followInputs s).cue.memory = s.cue.memory := by
  unfold followInputs
  dsimp only
  split
  · simp
  · split <;> simp

@[simp] theorem takeEvac_memory (station : Nat) (set : Bool) (s : State) :
    (takeEvac station set s).cue.memory = s.cue.memory := by
  simp [takeEvac]

@[simp] theorem takeContactFlag_memory (station : Nat) (contact : Bool) (s : State) :
    (takeContactFlag station contact s).cue.memory = s.cue.memory := by
  unfold takeContactFlag
  split <;> simp

@[simp] theorem changeContacts_memory (f : EmergencyControl → EmergencyControl) (s : State) :
    (changeContacts f s).cue.memory = s.cue.memory := by
  unfold changeContacts alarmAsserted alarmReleased
  dsimp only
  repeat' split
  all_goals simp

@[simp] theorem tick_memory (s : State) : (tick s).cue.memory = s.cue.memory := rfl

/-! ### Marks and history under the level detector -/

@[simp] theorem setJudgement_buffers (present : Bool) (s : State) :
    (setJudgement present s).level.marks = s.level.marks ∧ (setJudgement present s).level.history = s.level.history := by
  unfold setJudgement
  split <;> simp [forChannels]

/-! ### The law -/

/-- The buffers of the law are the same in both states. -/
def SameBuffers (s t : State) : Prop :=
  t.delay = s.delay ∧ t.level.marks = s.level.marks ∧ t.level.history = s.level.history ∧ t.cue.memory = s.cue.memory

theorem SameBuffers.keeps {s t : State} (same : SameBuffers s t) (h : MemoryLaw s) : MemoryLaw t := by
  obtain ⟨delay, marks, history, memory⟩ := same
  obtain ⟨canonical, position, length⟩ := h
  refine ⟨?_, by rwa [delay], by rwa [history]⟩
  rwa [memory_wf_congr (congrArg DelayEngine.memory delay) marks memory]

theorem writeSample_memoryLaw (x : Int) (present : Bool) {s : State} (h : MemoryLaw s) :
    MemoryLaw (writeSample x present s) := by
  obtain ⟨canonical, position, length⟩ := h
  refine ⟨memory_wf_writeSample x present position canonical, by simpa [writeSample] using position, ?_⟩
  simp [writeSample, length]

theorem advanceWrite_memoryLaw {s : State} (h : MemoryLaw s) : MemoryLaw (advanceWrite s) := by
  obtain ⟨canonical, -, length⟩ := h
  exact ⟨canonical, Nat.mod_lt _ (by decide), length⟩

theorem takeSample_memoryLaw (x microphone : Int) {s : State} (h : MemoryLaw s) : MemoryLaw (takeSample x microphone s) := by
  have judged : SameBuffers s (setJudgement (judgeSample s x) s) := by simp [SameBuffers]
  have written := writeSample_memoryLaw x (judgeSample s x) (judged.keeps h)
  have sounded (u : State) : SameBuffers u (forChannels sampleChannel (placeEmission (hearSample microphone u))) := by
    simp [SameBuffers, forChannels]
  have advanced := advanceWrite_memoryLaw ((sounded _).keeps written)
  exact SameBuffers.keeps (by simp [SameBuffers, takeSample]) advanced

theorem beginLoading_buffers (s : State) : SameBuffers s (beginLoading s) := by
  unfold beginLoading
  split <;> simp [SameBuffers]

/-- A reset gives empty buffers and a silent history. -/
theorem resetState_memoryLaw (straps : Straps) (s : State) : MemoryLaw (resetState straps s) :=
  ⟨memory_wf_resetState straps s, Nat.zero_lt_succ _, List.length_replicate⟩

theorem warmRestart_memoryLaw (straps : Straps) (s : State) : MemoryLaw (warmRestart straps s) :=
  (beginLoading_buffers _).keeps (resetState_memoryLaw straps s)

theorem enterAnnounce_memoryLaw {img : Image} {s : State} (short : img.cueBytes.length ≤ 512) (h : MemoryLaw s) :
    MemoryLaw (enterAnnounce img s) := by
  obtain ⟨canonical, position, length⟩ := h
  have installed : MemoryLaw (installImage img s) :=
    ⟨memory_wf_installImage img short canonical, by simpa using position, by simpa using length⟩
  exact SameBuffers.keeps (by simp [SameBuffers, enterAnnounce]) installed

/-- Every other command on its own leaves the buffers as they were. -/
theorem exec_buffers {c : Instr} {s t : State} (single : isSingle c = true) (answer : exec c s = .next t)
    (noReset : ∀ straps, c ≠ .hardReset straps) (noImage : ∀ rest, c ≠ .imageReadComplete rest)
    (noSample : ∀ x, c ≠ .programmeSample x) : SameBuffers s t := by
  cases c
  case align | roll | mark | evac | cue | waitTimerExpiry | query | restart | reply | duplicateFrame | interFrameGap =>
    cases single
  case hardReset straps => exact absurd rfl (noReset straps)
  case imageReadComplete rest => exact absurd rfl (noImage rest)
  case programmeSample x => exact absurd rfl (noSample x)
  all_goals
    cases answer
    try simp only [SameBuffers, event_frame, judgeRequest]
    try ((repeat' split) <;> simp [SameBuffers])

theorem dispatch_memoryLaw {f : Frame} (stamp : Instant) (straps : Straps) (burst : Option Nat) {s : State}
    (noCue : FrameBody.isNoCue f.body = true) (h : MemoryLaw s) : MemoryLaw (dispatch f stamp straps burst s) := by
  obtain ⟨src, dst, body⟩ := f
  cases body
  case cue => exact absurd noCue Bool.false_ne_true
  case restart unit =>
    refine SameBuffers.keeps (s := takeRestart unit straps s) (by simp [SameBuffers, dispatch]) ?_
    unfold takeRestart
    split
    · exact h
    · split
      · exact SameBuffers.keeps (by simp [SameBuffers]) h
      · exact warmRestart_memoryLaw straps s
  all_goals exact SameBuffers.keeps (by simp [SameBuffers, dispatch]) h

theorem exec_memoryLaw {c : Instr} {s t : State} (single : isSingle c = true) (answer : exec c s = .next t)
    (h : MemoryLaw s) : MemoryLaw t := by
  cases c
  case hardReset straps =>
    cases answer
    exact (beginLoading_buffers _).keeps (resetState_memoryLaw straps s)
  case imageReadComplete rest =>
    cases answer
    split
    · dsimp only
      split
      · exact h
      · split
        · exact SameBuffers.keeps (by simp [SameBuffers]) h
        · next checked => exact enterAnnounce_memoryLaw (checkImage_checked checked).read.ranges.2.2.2.1 h
    · exact h
  case programmeSample x =>
    cases answer
    exact SameBuffers.keeps (by simp [SameBuffers]) (takeSample_memoryLaw x.programme x.microphone h)
  all_goals exact (exec_buffers single answer (by simp) (by simp) (by simp)).keeps h

theorem turn_keeps_memoryLaw {s t : State} (turn : Turn s t) (h : MemoryLaw s) : MemoryLaw t := by
  cases turn with
  | handed stamp straps burst station other noCue => exact dispatch_memoryLaw stamp straps burst noCue h
  | command single answer => exact exec_memoryLaw single answer h
  | _ => exact SameBuffers.keeps (by simp [SameBuffers, gapTaken]) h

/-- Settles O59: the law of the buffers is kept by each turn of a step. -/
theorem stepKeepsMemoryLaw : Obligations.StepKeepsMemoryLaw :=
  fun _ _ lawful answer => (step_turns answer).keeps (fun _ _ turn h => turn_keeps_memoryLaw turn h) lawful.memory

end Sys2Proof.Machine
end

section
/-! PROOFS. The two laws of the Peer Record Table (R4, R16): what each operation does to one entry, and that the entry a
record is placed in is the only one that holds its source. -/

namespace Sys2Proof.Machine

/-! ### Flight records (R14, R15, R16) -/

theorem pushFlight_length {l : List Nat} (h : l.length ≤ 3) (r : Nat) : (pushFlight l r).length ≤ 3 := by
  unfold pushFlight
  split <;> simp <;> omega

theorem takeDetection_bounded {f : FlightRecord} (h : f.bounded) (limit r : Nat) :
    (takeDetection limit r f).record.bounded := by
  obtain ⟨history, suspects, -⟩ := h
  unfold takeDetection
  split
  · exact ⟨pushFlight_length history r, suspects, Nat.zero_le _⟩
  · split
    · exact ⟨pushFlight_length history r, Nat.zero_le _, Nat.zero_le _⟩
    · dsimp only
      split
      · exact ⟨pushFlight_length suspects r, Nat.zero_le _, Nat.zero_le _⟩
      · exact ⟨history, pushFlight_length suspects r, Nat.zero_le _⟩

theorem takeMiss_bounded {f : FlightRecord} (h : f.bounded) : (takeMiss f).bounded := by
  obtain ⟨history, suspects, -⟩ := h
  exact ⟨history, suspects, min_le_left _ _⟩

theorem empty_bounded : FlightRecord.empty.bounded := ⟨Nat.zero_le _, Nat.zero_le _, Nat.zero_le _⟩

/-! ### One entry -/

/-- An entry with a station may hold any bounded flight data. -/
theorem EntryLaw.withFlights {e : PeerEntry} (h : EntryLaw e) (held : e.peer ≠ none) {f : FlightRecord} (bounded : f.bounded) :
    EntryLaw { e with flights := f } := by
  obtain ⟨unused, single, station, -, record, peer, unread, -⟩ := h
  exact ⟨unused, single, station, fun none => absurd none held, record, peer, unread, bounded⟩

theorem EntryLaw.blank {b : Binding} {peer : Option Nat} (unused : b = .unused → peer = none)
    (single : ∀ st, b = .single st → peer = some st) (station : ∀ st, peer = some st → isStation st = true) :
    EntryLaw (PeerEntry.blank b peer) := by
  refine ⟨unused, single, station, fun _ => ⟨rfl, rfl⟩, ?_, ?_, ?_, empty_bounded⟩ <;> simp [PeerEntry.blank]

/-- Whoever holds no station may be released, unless it is bound to one (R10). -/
theorem EntryLaw.released {b : Binding} (pool : b.isPool = true) : EntryLaw (PeerEntry.blank b none) := by
  cases b with
  | pool lo hi => exact EntryLaw.blank (by simp) (by simp) (by simp)
  | _ => cases pool

theorem EntryLaw.unread_clear {e : PeerEntry} (h : EntryLaw e) : EntryLaw { e with unread := false } := by
  obtain ⟨unused, single, station, flights, record, peer, -, bounded⟩ := h
  exact ⟨unused, single, station, flights, record, peer, fun h => absurd h Bool.false_ne_true, bounded⟩

theorem EntryLaw.aged {e : PeerEntry} (h : EntryLaw e) (age : Option Nat) : EntryLaw { e with age := age } := h

theorem EntryLaw.marked {e : PeerEntry} (h : EntryLaw e) (mark : Option Instant) : EntryLaw { e with lastMark := mark } := h

/-- A FRESH entry becomes STALE (R8). -/
theorem EntryLaw.staled {e : PeerEntry} (h : EntryLaw e) (fresh : e.state = .fresh) (age : Option Nat) :
    EntryLaw { e with state := .stale, age := age } := by
  obtain ⟨unused, single, station, flights, record, peer, unread, bounded⟩ := h
  exact ⟨unused, single, station, flights, ⟨fun _ => .inr rfl, fun _ => record.2 (.inl fresh)⟩, peer, unread, bounded⟩

/-- An entry becomes LOST (R9). -/
theorem EntryLaw.lost {e : PeerEntry} (h : EntryLaw e) (age : Option Nat) :
    EntryLaw { e with state := .lost, record := none, unread := false, age := age } := by
  obtain ⟨unused, single, station, flights, -, -, -, bounded⟩ := h
  exact ⟨unused, single, station, flights, by simp, by simp, by simp, bounded⟩

/-- An entry stores a record of its station, or of the one it adopts (R4, R6). -/
theorem EntryLaw.stored {e : PeerEntry} (h : EntryLaw e) {station : Nat} (number : isStation station = true)
    (used : e.binding ≠ .unused) (bound : ∀ st, e.binding = .single st → st = station) (origin : Bool) (r : AlignRecord) :
    EntryLaw (storeRecord origin station r e) := by
  obtain ⟨-, -, -, -, -, -, -, bounded⟩ := h
  refine ⟨fun unused => absurd unused used, fun st single => by rw [bound st single]; rfl, ?_, ?_, ?_, ?_, ?_, bounded⟩
  · rintro st ⟨⟩
    exact number
  · rintro ⟨⟩
  · simp [storeRecord]
  · simp [storeRecord]
  · simp [storeRecord]

/-! ### The table -/

/-- The parts of a state that the law of the table speaks of. -/
def SameTable (s t : State) : Prop :=
  t.stc.straps = s.stc.straps ∧ t.stc.kept = s.stc.kept ∧ t.peers = s.peers ∧ t.selfRec = s.selfRec

theorem SameTable.keeps {s t : State} (same : SameTable s t) (h : TableLaw s) : TableLaw t := by
  obtain ⟨straps, kept, peers, selfRec⟩ := same
  simpa only [TableLaw, State.number, straps, kept, peers, selfRec] using h

theorem modPeer_get_self (i : Fin 16) (f : PeerEntry → PeerEntry) (s : State) :
    (s.modPeer i f).peers[i] = f s.peers[i] := by
  simp [State.modPeer]

theorem modPeer_get_other {i j : Fin 16} (h : j ≠ i) (f : PeerEntry → PeerEntry) (s : State) :
    (s.modPeer i f).peers[j] = s.peers[j] := by
  have : i.val ≠ j.val := fun e => h (Fin.ext e.symm)
  simp [State.modPeer, Vector.getElem_set_ne, this]

/-- A change of one entry, to a lawful one whose station is nobody else's. -/
theorem TableLaw.modPeer {s : State} (h : TableLaw s) (i : Fin 16) {f : PeerEntry → PeerEntry}
    (entry : EntryLaw (f s.peers[i])) (own : (f s.peers[i]).peer ≠ some s.number)
    (alone : ∀ j, j ≠ i → s.peers[j].peer = (f s.peers[i]).peer → (f s.peers[i]).peer = none) :
    TableLaw (s.modPeer i f) := by
  obtain ⟨entries, distinct, selfRec, kept⟩ := h
  refine ⟨fun j => ?_, fun j k differ same => ?_, selfRec, kept⟩
  · by_cases here : j = i
    · subst here
      rw [modPeer_get_self]
      exact ⟨entry, own⟩
    · rw [modPeer_get_other here]
      exact entries j
  · by_cases hj : j = i
    · subst hj
      rw [modPeer_get_self, modPeer_get_other differ.symm] at same
      rw [modPeer_get_self]
      exact alone k differ.symm same.symm
    · rw [modPeer_get_other hj] at same ⊢
      by_cases hk : k = i
      · subst hk
        rw [modPeer_get_self] at same
        exact same.trans (alone j hj same)
      · rw [modPeer_get_other hk] at same
        exact distinct j k differ same

/-- A change of one entry that keeps its station. -/
theorem TableLaw.modPeer_keeping {s : State} (h : TableLaw s) (i : Fin 16) {f : PeerEntry → PeerEntry}
    (entry : EntryLaw (f s.peers[i])) (same : (f s.peers[i]).peer = s.peers[i].peer) : TableLaw (s.modPeer i f) :=
  h.modPeer i entry (same ▸ (h.1 i).2) fun j other held => same ▸ h.2.1 i j other.symm (same ▸ held).symm

/-- A change of one entry that leaves it without a station. -/
theorem TableLaw.modPeer_released {s : State} (h : TableLaw s) (i : Fin 16) {f : PeerEntry → PeerEntry}
    (entry : EntryLaw (f s.peers[i])) (free : (f s.peers[i]).peer = none) : TableLaw (s.modPeer i f) :=
  h.modPeer i entry (by rw [free]; exact (Option.some_ne_none _).symm) fun _ _ _ => free

theorem trigger_table (s : State) : SameTable s (trigger s) := by simp [SameTable]

theorem bump_table (k : Counter) (s : State) : SameTable s (bump k s) := by simp [SameTable]

/-! ### Flight results (R12, R17) -/

theorem holder_some {s : State} {station : Nat} {i : Fin 16} (h : s.holder station = some i) :
    s.peers[i].peer = some station := by
  simpa using List.find?_some h

theorem takePeerResult_tableLaw (station : Nat) (r : FlightResult) {s : State} (h : TableLaw s) :
    TableLaw (takePeerResult station r s) := by
  unfold takePeerResult
  split
  · exact h
  · next i held =>
    have peer : s.peers[i].peer ≠ none := by rw [holder_some held]; exact Option.some_ne_none _
    obtain ⟨-, -, -, -, -, -, -, bounded⟩ := (h.1 i).1
    cases r with
    | miss => exact h.modPeer_keeping i ((h.1 i).1.withFlights peer (takeMiss_bounded bounded)) rfl
    | detection flight =>
      have taken : TableLaw (s.modPeer i fun e =>
          { e with flights := (takeDetection (jumpLimit s) flight s.peers[i].flights).record }) :=
        h.modPeer_keeping i ((h.1 i).1.withFlights peer (takeDetection_bounded bounded _ _)) rfl
      exact SameTable.keeps (by simp [SameTable]) taken

theorem TableLaw.modSelf {s : State} (h : TableLaw s) {f : FlightRecord → FlightRecord} (bounded : (f s.selfRec).bounded) :
    TableLaw (s.modSelf f) := by
  obtain ⟨entries, distinct, -, kept⟩ := h
  exact ⟨entries, distinct, bounded, kept⟩

theorem takeSelfResult_tableLaw (r : FlightResult) {s : State} (h : TableLaw s) : TableLaw (takeSelfResult r s) := by
  have bounded : s.selfRec.bounded := h.2.2.1
  cases r with
  | miss => exact h.modSelf (takeMiss_bounded bounded)
  | detection flight =>
    exact SameTable.keeps (by simp [SameTable, takeSelfResult])
      (h.modSelf (f := fun _ => (takeDetection (jumpLimit s) flight s.selfRec).record) (takeDetection_bounded bounded _ _))

theorem deliverResult_tableLaw (owner : Nat) (r : FlightResult) {s : State} (h : TableLaw s) :
    TableLaw (deliverResult owner r s) := by
  have delivered : ∀ {u : State}, TableLaw u →
      TableLaw (if owner = u.number then takeSelfResult r u else takePeerResult owner r u) := by
    intro u hu
    split
    · exact takeSelfResult_tableLaw r hu
    · exact takePeerResult_tableLaw owner r hu
  unfold deliverResult
  refine delivered ?_
  split
  · exact (bump_table _ s).keeps h
  · exact h

/-! ### Placing and taking records (R3 to R6) -/

/-- The entry that a record is placed in is bound to its source, has adopted it, or is free for it while no other entry
holds it. -/
theorem placeRecord_spec {s : State} (h : TableLaw s) {station : Nat} {i : Fin 16}
    (placed : placeRecord s station = some i) :
    s.peers[i].binding ≠ .unused ∧ (∀ st, s.peers[i].binding = .single st → st = station) ∧
      (s.peers[i].peer = some station ∨
        s.peers[i].peer = none ∧ station ≠ s.number ∧ ∀ j : Fin 16, s.peers[j].peer ≠ some station) := by
  unfold placeRecord at placed
  dsimp only at placed
  rw [Option.or_eq_some_iff, Option.or_eq_some_iff] at placed
  rcases placed with single | ⟨noSingle, adopted | ⟨notAdopted, free⟩⟩
  · have bound : s.peers[i].binding = .single station := by simpa using List.find?_some single
    obtain ⟨-, peer, -⟩ := (h.1 i).1
    exact ⟨bound ▸ Binding.noConfusion, fun st e => Binding.single.inj (e.symm.trans bound), .inl (peer _ bound)⟩
  · have adopts := List.find?_some adopted
    rw [Bool.and_eq_true_iff, beq_iff_eq] at adopts
    obtain ⟨pool, holds⟩ := adopts
    refine ⟨fun e => ?_, fun st e => ?_, .inl holds⟩
    · rw [e] at pool
      cases pool
    · rw [e] at pool
      cases pool
  · split at free
    · cases free
    · next other =>
      have fits := List.find?_some free
      unfold PeerEntry.freeFor at fits
      split at fits
      · next lo hi pool =>
        have nobody : s.peers[i].peer = none := Option.isNone_iff_eq_none.1 (Bool.and_eq_true_iff.1 fits).2
        refine ⟨pool ▸ Binding.noConfusion, fun st e => ?_, .inr ⟨nobody, other, fun j held => ?_⟩⟩
        · rw [pool] at e
          cases e
        · rw [List.find?_eq_none] at noSingle notAdopted
          obtain ⟨unused, bound, -⟩ := (h.1 j).1
          cases binding : s.peers[j].binding with
          | unused => exact absurd (unused binding) (held ▸ Option.some_ne_none _)
          | single st =>
            have : st = station := Option.some.inj ((bound st binding).symm.trans held)
            exact noSingle j (List.mem_finRange j) (by rw [binding, this]; exact beq_self_eq_true _)
          | pool lo hi => exact notAdopted j (List.mem_finRange j) (by rw [binding, held]; exact beq_self_eq_true _)
      · cases fits

theorem takeRecord_tableLaw {s : State} (h : TableLaw s) {station : Nat} {i : Fin 16}
    (placed : placeRecord s station = some i) (number : isStation station = true) (r : AlignRecord) :
    TableLaw (takeRecord i station r s) := by
  obtain ⟨used, bound, held⟩ := placeRecord_spec h placed
  unfold takeRecord
  dsimp only
  split
  · exact h.modPeer_keeping i ((h.1 i).1.aged _) rfl
  · have stored : ∀ origin, EntryLaw (storeRecord origin station r s.peers[i]) := fun origin =>
      (h.1 i).1.stored number used bound origin r
    have placedLaw : ∀ origin, TableLaw (s.modPeer i (storeRecord origin station r)) := by
      intro origin
      rcases held with peer | ⟨free, other, nobody⟩
      · exact h.modPeer_keeping i (stored origin) peer.symm
      · refine h.modPeer i (stored origin) ?_ fun j _ same => absurd same (nobody j)
        simpa [storeRecord] using other
    refine SameTable.keeps ?_ (placedLaw (s.stc.kind == some .origin))
    repeat' split
    all_goals simp [SameTable, State.modPeer]

theorem tableTakesAlign_tableLaw {s : State} (h : TableLaw s) {station : Nat} (number : isStation station = true)
    (r : AlignRecord) : TableLaw (tableTakesAlign station r s) := by
  unfold tableTakesAlign
  split
  · exact h
  · split
    · next i placed => exact takeRecord_tableLaw h placed number r
    · exact (bump_table _ s).keeps h

/-! ### Aging, loss and release (R8 to R10) -/

theorem becomeStale_tableLaw {s : State} (h : TableLaw s) {i : Fin 16} (fresh : s.peers[i].state = .fresh) :
    TableLaw (becomeStale i s) :=
  (trigger_table _).keeps (h.modPeer_keeping i ((h.1 i).1.staled fresh _) rfl)

theorem becomeLost_tableLaw {s : State} (h : TableLaw s) (i : Fin 16) : TableLaw (becomeLost i s) :=
  (trigger_table _).keeps (h.modPeer_keeping i ((h.1 i).1.lost _) rfl)

theorem releasePool_tableLaw {s : State} (h : TableLaw s) {i : Fin 16} (pool : s.peers[i].binding.isPool = true) :
    TableLaw (releasePool i s) := by
  have released : TableLaw (s.modPeer i fun e => PeerEntry.blank e.binding none) :=
    h.modPeer_released i (EntryLaw.released pool) rfl
  refine SameTable.keeps ?_ released
  unfold releasePool
  dsimp only
  split <;> simp [SameTable, State.modPeer]

theorem loseEntry_tableLaw {s : State} (h : TableLaw s) (i : Fin 16) : TableLaw (loseEntry i s) := by
  unfold loseEntry
  split
  · exact becomeLost_tableLaw h i
  · next pool => exact releasePool_tableLaw h (by rw [pool]; rfl)
  · exact h

theorem ageEntry_tableLaw {s : State} (h : TableLaw s) (i : Fin 16) : TableLaw (ageEntry i s) := by
  have aged : ∀ a, TableLaw (s.modPeer i fun e => { e with age := some a }) := fun a =>
    h.modPeer_keeping i ((h.1 i).1.aged _) rfl
  unfold ageEntry
  dsimp only
  split
  · next fresh _ =>
    split
    · exact becomeStale_tableLaw (aged _) (by rw [modPeer_get_self]; exact fresh)
    · exact aged _
  · split
    · exact loseEntry_tableLaw (aged _) i
    · exact aged _
  · exact h

theorem ageEntries_tableLaw {s : State} (h : TableLaw s) : TableLaw (ageEntries s) :=
  List.foldlRecOn (List.finRange 16) (fun s i => ageEntry i s) h fun _ law i _ => ageEntry_tableLaw law i

/-! ### Passes, MARKs, images and resets -/

theorem computePass_tableLaw {s : State} (h : TableLaw s) : TableLaw (computePass s) := by
  obtain ⟨entries, distinct, selfRec, kept⟩ := h
  have cleared (i : Fin 16) : (computePass s).peers[i] = { s.peers[i] with unread := false } := by
    simp [computePass, mapVector]
  refine ⟨fun i => ?_, fun i j differ same => ?_, selfRec, kept⟩
  · rw [cleared]
    exact ⟨(entries i).1.unread_clear, (entries i).2⟩
  · rw [cleared, cleared] at same
    rw [cleared]
    exact distinct i j differ same

theorem solvePass_tableLaw {s : State} (h : TableLaw s) : TableLaw (solvePass s) := by
  refine SameTable.keeps ?_ (computePass_tableLaw h)
  unfold solvePass
  dsimp only
  repeat' split
  all_goals simp [SameTable]

theorem takeMark_tableLaw (station : Nat) (stamp : Instant) {s : State} (h : TableLaw s) :
    TableLaw (takeMark station stamp s) := by
  unfold takeMark
  split
  · exact h
  · next i _ =>
    have marked : TableLaw (s.modPeer i fun e => { e with lastMark := some stamp }) :=
      h.modPeer_keeping i ((h.1 i).1.marked (some stamp)) rfl
    refine SameTable.keeps ?_ marked
    dsimp only
    repeat' split
    all_goals simp [SameTable]

/-- A table of blank entries without stations. -/
theorem TableLaw.blank {s : State} (peers : s.peers = Vector.replicate 16 (PeerEntry.blank .unused none))
    (selfRec : s.selfRec.bounded)
    (kept : ∀ (i : Fin 16) (k : KeptLists), s.stc.kept[i] = some k → k.history.length ≤ 3 ∧ k.suspects.length ≤ 3) :
    TableLaw s := by
  have entry (i : Fin 16) : s.peers[i] = PeerEntry.blank .unused none := by simp [peers]
  refine ⟨fun i => ?_, fun i j _ _ => ?_, selfRec, kept⟩
  · rw [entry]
    exact ⟨EntryLaw.blank (fun _ => rfl) (by simp) (by simp), by simp [PeerEntry.blank]⟩
  · rw [entry]
    rfl

theorem nothing_kept {s : State} (kept : s.stc.kept = Vector.replicate 16 none) (i : Fin 16) (k : KeptLists)
    (held : s.stc.kept[i] = some k) : k.history.length ≤ 3 ∧ k.suspects.length ≤ 3 := by
  simp [kept] at held

theorem enterConfigFault_tableLaw (reason : FaultReason) {s : State} (selfRec : s.selfRec.bounded) :
    TableLaw (enterConfigFault reason s) := by
  have faulted : TableLaw (faultStartup reason s) :=
    TableLaw.blank rfl selfRec (nothing_kept rfl)
  refine SameTable.keeps ?_ faulted
  unfold enterConfigFault
  dsimp only
  split <;> simp [SameTable, forChannels]

theorem beginLoading_tableLaw {s : State} (h : TableLaw s) : TableLaw (beginLoading s) := by
  unfold beginLoading
  split
  · exact h
  · exact enterConfigFault_tableLaw _ h.2.2.1

theorem hardReset_tableLaw (straps : Straps) (s : State) : TableLaw (beginLoading (resetState straps s)) :=
  beginLoading_tableLaw (TableLaw.blank rfl empty_bounded (nothing_kept rfl))

/-- The lists kept through LOADING are as long as those of the entries they come from (R21). -/
theorem keptLists_bounded {s : State} (h : TableLaw s) (i : Fin 16) (k : KeptLists) (held : (keptLists s)[i] = some k) :
    k.history.length ≤ 3 ∧ k.suspects.length ≤ 3 := by
  obtain ⟨entries, -, -, kept⟩ := h
  unfold keptLists at held
  split at held
  · exact kept i k held
  · obtain ⟨-, -, -, -, -, -, -, history, suspects, -⟩ := (entries i).1
    rw [mapVector_get] at held
    unfold keptOf at held
    split at held
    · cases held
      exact ⟨history, suspects⟩
    · cases held

theorem warmRestart_tableLaw (straps : Straps) {s : State} (h : TableLaw s) : TableLaw (warmRestart straps s) :=
  beginLoading_tableLaw (TableLaw.blank rfl h.2.2.1 (keptLists_bounded h))

theorem takeRestart_tableLaw (unit : BitVec 32) (straps : Straps) {s : State} (h : TableLaw s) :
    TableLaw (takeRestart unit straps s) := by
  unfold takeRestart
  split
  · exact h
  · split
    · exact (bump_table _ s).keeps h
    · exact warmRestart_tableLaw straps h

theorem installEntry_spec (b : Binding) (kept : Option KeptLists)
    (lists : ∀ k, kept = some k → k.history.length ≤ 3 ∧ k.suspects.length ≤ 3)
    (station : ∀ st, b = .single st → isStation st = true) :
    EntryLaw (installEntry b kept) ∧ (installEntry b kept).peer = b.singleStation := by
  cases b with
  | unused => exact ⟨EntryLaw.blank (fun _ => rfl) (by simp) (by simp), rfl⟩
  | pool lo hi => exact ⟨EntryLaw.blank (by simp) (by simp) (by simp), rfl⟩
  | single st =>
    have blank : EntryLaw (PeerEntry.blank (.single st) (some st)) :=
      EntryLaw.blank (by simp) (by rintro st ⟨⟩; rfl) (by rintro st ⟨⟩; exact station _ rfl)
    cases kept with
    | none => exact ⟨blank, rfl⟩
    | some k =>
      by_cases same : k.station = st
      · rw [installEntry]
        dsimp only
        rw [if_pos same]
        exact ⟨blank.withFlights (Option.some_ne_none _) ⟨(lists k rfl).1, (lists k rfl).2, Nat.zero_le _⟩, rfl⟩
      · rw [installEntry]
        dsimp only
        rw [if_neg same]
        exact ⟨blank, rfl⟩

theorem tabulate_get {α : Type} {n : Nat} (f : Fin n → α) (i : Fin n) : (tabulate n f)[i] = f i := by
  simp [tabulate]

theorem installImage_peers (img : Image) (s : State) (i : Fin 16) :
    (installImage img s).peers[i] = installEntry img.bindings[i] s.stc.kept[i] := by
  have peers : (installImage img s).peers = tabulate 16 fun i => installEntry img.bindings[i] s.stc.kept[i] := by
    simp [installImage, forChannels]
  rw [peers, tabulate_get]

theorem singleStation_eq_some {b : Binding} {st : Nat} : b.singleStation = some st ↔ b = .single st := by
  cases b <;> simp [Binding.singleStation]

theorem enterAnnounce_tableLaw {b : List Byte} {img : Image} {s : State} (checked : Checked s.number b img)
    (h : TableLaw s) : TableLaw (enterAnnounce img s) := by
  obtain ⟨-, -, selfRec, kept⟩ := h
  have peers (i : Fin 16) : (enterAnnounce img s).peers[i] = installEntry img.bindings[i] s.stc.kept[i] := by
    simpa [enterAnnounce] using installImage_peers img s i
  have entry (i : Fin 16) := installEntry_spec img.bindings[i] s.stc.kept[i] (kept i) fun st => checked.single_station
  have number : (enterAnnounce img s).number = s.number := by simp [enterAnnounce, State.number]
  refine ⟨fun i => ?_, fun i j differ same => ?_, by simpa [enterAnnounce] using selfRec, fun i k held => ?_⟩
  · rw [peers, number]
    refine ⟨(entry i).1, fun own => ?_⟩
    rw [(entry i).2, singleStation_eq_some] at own
    exact checked.single_other own rfl
  · rw [peers, peers, (entry i).2, (entry j).2] at same
    rw [peers, (entry i).2]
    refine Option.eq_none_iff_forall_ne_some.2 fun st single => ?_
    have other := same ▸ single
    rw [singleStation_eq_some] at single other
    exact differ (checked.single_injective single other)
  · simp [enterAnnounce] at held

/-! ### The law -/

theorem dispatch_tableLaw {f : Frame} (stamp : Instant) (straps : Straps) (burst : Option Nat) {s : State}
    (station : isStation f.src = true) (noCue : FrameBody.isNoCue f.body = true) (h : TableLaw s) :
    TableLaw (dispatch f stamp straps burst s) := by
  obtain ⟨src, dst, body⟩ := f
  cases body
  case cue => exact absurd noCue Bool.false_ne_true
  case align r => exact SameTable.keeps (by simp [SameTable, dispatch]) (tableTakesAlign_tableLaw h station r)
  case mark => exact SameTable.keeps (by simp [SameTable, dispatch]) (takeMark_tableLaw src stamp h)
  case restart unit => exact SameTable.keeps (by simp [SameTable, dispatch]) (takeRestart_tableLaw unit straps h)
  all_goals exact SameTable.keeps (by simp [SameTable, dispatch]) h

/-! ### The station mode's own block (R176) -/

@[simp] theorem enterRun_stc (s : State) : (enterRun s).stc = { s.stc with mode := .run, claim := none } := by
  simp [enterRun, forChannels]

@[simp] theorem enterConflict_stc (s : State) : (enterConflict s).stc = { s.stc with mode := .conflict, claim := none } := by
  unfold enterConflict
  dsimp only
  split <;> simp

@[simp] theorem contest_straps (b : RollBody) (s : State) :
    (contest b s).stc.straps = s.stc.straps ∧ (contest b s).stc.kept = s.stc.kept := by
  unfold contest recordDuplicate
  dsimp only
  repeat' split
  all_goals simp

@[simp] theorem takeDuplicate_straps (roll : Option RollBody) (s : State) :
    (takeDuplicate roll s).stc.straps = s.stc.straps ∧ (takeDuplicate roll s).stc.kept = s.stc.kept := by
  unfold takeDuplicate
  dsimp only
  repeat' split
  all_goals simp

@[simp] theorem tick_straps (s : State) :
    (tick s).stc.straps = s.stc.straps ∧ (tick s).stc.kept = s.stc.kept ∧ (tick s).stc.mode = s.stc.mode := ⟨rfl, rfl, rfl⟩

/-- The other commands leave the table as it was. -/
theorem exec_table {c : Instr} {s t : State} (single : isSingle c = true) (answer : exec c s = .next t)
    (other : match c with
      | .hardReset _ | .imageHeaderRead _ | .imageReadTimeout | .imageReadComplete _ | .windowClose _ | .secondTick
      | .entryStale _ | .entryLost _ | .poolRelease _ | .settleExpiry => False
      | _ => True) : SameTable s t := by
  cases c
  case align | roll | mark | evac | cue | waitTimerExpiry | query | restart | reply | duplicateFrame | interFrameGap =>
    cases single
  case hardReset | imageHeaderRead | imageReadTimeout | imageReadComplete | windowClose | secondTick | entryStale
    | entryLost | poolRelease | settleExpiry => exact other.elim
  all_goals
    cases answer
    try simp only [SameTable, event_frame, judgeRequest]
    try ((repeat' split) <;> simp)

theorem exec_tableLaw {c : Instr} {s t : State} (single : isSingle c = true) (answer : exec c s = .next t)
    (h : TableLaw s) : TableLaw t := by
  have eventLaw {f : State → State} (kept : TableLaw (f s)) : TableLaw (event f s) :=
    SameTable.keeps (by simp [SameTable]) kept
  cases c
  case hardReset straps => cases answer; exact hardReset_tableLaw straps s
  case imageHeaderRead header =>
    cases answer
    split
    · split
      · exact h
      · dsimp only
        split
        · exact h
        · exact enterConfigFault_tableLaw _ h.2.2.1
    · exact h
  case imageReadTimeout =>
    cases answer
    split
    · exact enterConfigFault_tableLaw _ h.2.2.1
    · exact enterConfigFault_tableLaw _ h.2.2.1
    · exact h
  case imageReadComplete rest =>
    cases answer
    split
    · dsimp only
      split
      · exact h
      · split
        · exact enterConfigFault_tableLaw _ h.2.2.1
        · next checked => exact enterAnnounce_tableLaw (checkImage_checked checked) h
    · exact h
  case windowClose i =>
    cases answer
    refine eventLaw ?_
    dsimp only
    split
    · split
      · exact SameTable.keeps (by simp [SameTable]) h
      · exact deliverResult_tableLaw _ _ (SameTable.keeps (by simp [SameTable]) h)
    · exact h
  case secondTick =>
    cases answer
    exact SameTable.keeps (by simp [SameTable]) (ageEntries_tableLaw h)
  case entryStale i =>
    cases answer
    refine eventLaw ?_
    split
    · next fresh => exact becomeStale_tableLaw h fresh
    · exact h
  case entryLost i =>
    cases answer
    refine eventLaw ?_
    split
    · exact becomeLost_tableLaw h i
    · exact h
  case poolRelease i =>
    cases answer
    refine eventLaw ?_
    split
    · next pool => exact releasePool_tableLaw h pool.2
    · exact h
  case settleExpiry =>
    cases answer
    refine eventLaw ?_
    split
    · exact solvePass_tableLaw (SameTable.keeps (by simp [SameTable]) h)
    · exact h
  all_goals exact (exec_table single answer trivial).keeps h

theorem turn_keeps_tableLaw {s t : State} (turn : Turn s t) (h : TableLaw s) : TableLaw t := by
  cases turn with
  | handed stamp straps burst station other noCue => exact dispatch_tableLaw stamp straps burst station noCue h
  | command single answer => exact exec_tableLaw single answer h
  | _ => exact SameTable.keeps (by simp [SameTable, gapTaken]) h

/-- Settles O53: the laws of the table are kept by each turn of a step. -/
theorem stepKeepsTableLaw : Obligations.StepKeepsTableLaw :=
  fun _ _ lawful answer => (step_turns answer).keeps (fun _ _ turn h => turn_keeps_tableLaw turn h) lawful.table

end Sys2Proof.Machine
end

section
/-! PROOFS. What each pass over the channels makes of each of them: a function of the channel and of what the other blocks
show it, for requests, gain targets, targets, releases, EMERGENCY, SLEEP and WAKE. -/

namespace Sys2Proof.Machine

/-! ### Requests, gain targets and targets -/

section View

variable (s₀ : State)

/-- The wanted setting of a channel, read from the channel (R94). -/
def Channel.wanted (c : Fin 4) (ch : Channel) : Setting :=
  if s₀.serving then
    if s₀.inEmergency then .eq (s₀.image.elim 0 (·.channels[c].evacPreset)) s₀.eq.shelf else .eq ch.preset s₀.eq.shelf
  else .flat

/-- The gain target of a channel, read from the channel (R101). -/
def Channel.gainWanted (c : Fin 4) (ch : Channel) : GainTarget :=
  if s₀.serving then
    if s₀.inEmergency then .gain (s₀.image.elim 160 (·.channels[c].evacGain))
    else if ch.storedMute then .silence
    else .gain ch.storedGain
  else if s₀.stc.mode = .configFault ∧ s₀.inEmergency then .gain 160
  else .silence

theorem serving_view {s : State} (v : SameView s₀ s) : s.serving = s₀.serving := by
  simp only [State.serving, v.1]

theorem inEmergency_view {s : State} (v : SameView s₀ s) : s.inEmergency = s₀.inEmergency := by
  obtain ⟨-, -, -, -, emc⟩ := v
  simp only [State.inEmergency, emc]

theorem autoStandby_view {s : State} (v : SameView s₀ s) (c : Fin 4) : s.autoStandby c = s₀.autoStandby c := by
  simp only [State.autoStandby, v.2.1]

theorem wantedSetting_view {s : State} (v : SameView s₀ s) (c : Fin 4) :
    wantedSetting s c = s.channels[c].wanted s₀ c := by
  simp only [wantedSetting, Channel.wanted, serving_view s₀ v, inEmergency_view s₀ v, v.2.1, v.2.2.2.1]

theorem wantedGain_view {s : State} (v : SameView s₀ s) (c : Fin 4) :
    wantedGain s c = s.channels[c].gainWanted s₀ c := by
  simp only [wantedGain, Channel.gainWanted, serving_view s₀ v, inEmergency_view s₀ v, v.1, v.2.1]

theorem requestChannel_acts : ActsAt s₀ requestChannel (fun c ch => ch.request (ch.wanted s₀ c)) := by
  intro c s v
  refine ⟨v, ?_⟩
  rw [requestChannel, wantedSetting_view s₀ v]
  rfl

theorem retargetChannel_acts : ActsAt s₀ retargetChannel (fun c ch => ch.retarget (ch.gainWanted s₀ c)) := by
  intro c s v
  refine ⟨v, ?_⟩
  rw [retargetChannel, wantedGain_view s₀ v]
  rfl

theorem retargetAndAct_acts :
    ActsAt s₀ retargetAndAct (fun c ch => (ch.retarget (ch.gainWanted s₀ c)).heeding s₀ c) :=
  (retargetChannel_acts s₀).comp (actOnSilence_acts s₀)

/-! ### Release, EMERGENCY, SLEEP and WAKE -/

/-- The channel released at RUN entry (R118). -/
def Channel.released (c : Fin 4) (ch : Channel) : Channel :=
  if s₀.inEmergency = true ∨ s₀.autoStandby c = false ∨ (!s₀.level.present || ch.muted) = false then ch.woken s₀ c else ch

theorem releaseChannel_acts : ActsAt s₀ releaseChannel (Channel.released s₀) := by
  intro c s v
  have woken := enterWaking_acts s₀ c s v
  have skipped := ActsAt.skip c s v
  unfold releaseChannel Channel.released
  rw [inEmergency_view s₀ v, autoStandby_view s₀ v, effectiveSilence_view s₀ v]
  cases s₀.inEmergency
  case true => simpa using woken
  case false =>
    cases s₀.autoStandby c
    case false => simpa using woken
    case true =>
      cases (!s₀.level.present || s.channels[c].muted)
      case false => simpa using woken
      case true => simpa using skipped

/-- The channel at EMERGENCY entry (R119). -/
def Channel.alarmed (c : Fin 4) (ch : Channel) : Channel :=
  match ch.power with
  | .standby | .forcedOff | .fault => ch.woken s₀ c
  | .watch => ch.moved s₀ .active none c
  | .active | .waking => ch

theorem emergencyChannel_acts : ActsAt s₀ emergencyChannel (Channel.alarmed s₀) := by
  intro c s v
  unfold emergencyChannel Channel.alarmed
  cases s.channels[c].power
  case standby | forcedOff | fault => exact enterWaking_acts s₀ c s v
  case watch => exact setPower_acts s₀ .active none c s v
  case active | waking => exact ActsAt.skip c s v

/-- The channel at EMERGENCY exit (R119). -/
def Channel.calmed (c : Fin 4) (ch : Channel) : Channel :=
  if ch.forcedOff && ch.power.sounding then ch.moved s₀ .forcedOff none c else ch.heeding s₀ c

theorem exitChannel_acts : ActsAt s₀ exitChannel (Channel.calmed s₀) :=
  ActsAt.ite (p := fun _ ch => (ch.forcedOff && ch.power.sounding) = true)
    (q := fun c s => (s.channels[c].forcedOff && s.channels[c].power.sounding) = true) (fun _ _ _ => Iff.rfl)
    (setPower_acts s₀ .forcedOff none) (actOnSilence_acts s₀)

/-- The channel put to sleep (R116). -/
def Channel.slept (c : Fin 4) (ch : Channel) : Channel :=
  let off := { ch with forcedOff := true }
  if off.power = .forcedOff ∨ off.power = .fault then off else off.moved s₀ .forcedOff none c

theorem sleepChannel_acts : ActsAt s₀ sleepChannel (Channel.slept s₀) := by
  have parts : sleepChannel = fun c s =>
      (fun (c : Fin 4) (s : State) => if s.channels[c].power = .forcedOff ∨ s.channels[c].power = .fault then s
        else setPower c .forcedOff none s) c (s.modChannel c fun ch => { ch with forcedOff := true }) := by
    funext c s
    unfold sleepChannel
    dsimp only
    generalize s.modChannel c (fun ch => { ch with forcedOff := true }) = u
    cases u.channels[c].power <;> simp
  rw [parts]
  exact (ActsAt.mod fun _ ch => { ch with forcedOff := true }).comp
    (ActsAt.ite (p := fun _ ch => ch.power = .forcedOff ∨ ch.power = .fault)
      (q := fun c s => s.channels[c].power = .forcedOff ∨ s.channels[c].power = .fault) (fun _ _ _ => Iff.rfl) ActsAt.skip
      (setPower_acts s₀ .forcedOff none))

/-- The channel woken by WAKE (R117). -/
def Channel.roused (c : Fin 4) (ch : Channel) : Channel :=
  let on := { ch with forcedOff := false }
  if on.power = .forcedOff then (if s₀.autoStandby c = true then on.rested s₀ c else on.woken s₀ c)
  else if on.power = .fault ∧ on.faultLine = false then on.woken s₀ c
  else on

theorem wakeChannel_acts : ActsAt s₀ wakeChannel (Channel.roused s₀) := by
  have parts : wakeChannel = fun c s =>
      (fun (c : Fin 4) (s : State) =>
        if s.channels[c].power = .forcedOff then (if s.autoStandby c = true then enterStandby c s else enterWaking c s)
        else if s.channels[c].power = .fault ∧ s.channels[c].faultLine = false then enterWaking c s
        else s) c (s.modChannel c fun ch => { ch with forcedOff := false }) := by
    funext c s
    unfold wakeChannel
    dsimp only
    generalize s.modChannel c (fun ch => { ch with forcedOff := false }) = u
    cases u.channels[c].power
    case fault => cases u.channels[c].faultLine <;> simp
    all_goals simp
  rw [parts]
  exact (ActsAt.mod fun _ ch => { ch with forcedOff := false }).comp
    (ActsAt.ite (p := fun _ ch => ch.power = .forcedOff) (q := fun c s => s.channels[c].power = .forcedOff) (fun _ _ _ => Iff.rfl)
      (ActsAt.ite (p := fun c _ => s₀.autoStandby c = true) (q := fun c s => s.autoStandby c = true)
        (fun c _ v => by rw [autoStandby_view s₀ v])
        (enterStandby_acts s₀) (enterWaking_acts s₀))
      (ActsAt.ite (p := fun _ ch => ch.power = .fault ∧ ch.faultLine = false)
        (q := fun c s => s.channels[c].power = .fault ∧ s.channels[c].faultLine = false) (fun _ _ _ => Iff.rfl)
        (enterWaking_acts s₀) ActsAt.skip))

end View

/-! ### What a pass leaves in each channel -/

variable (s : State) (c : Fin 4)

theorem modChannel_get_self (f : Channel → Channel) : (s.modChannel c f).channels[c] = f s.channels[c] :=
  get_set_self _ _ _

theorem modChannel_get_other {c d : Fin 4} (h : d ≠ c) (f : Channel → Channel) :
    (s.modChannel c f).channels[d] = s.channels[d] :=
  get_set_other h _

theorem requestAll_get : (requestAll s).channels[c] = s.channels[c].request (s.channels[c].wanted s c) :=
  ((requestChannel_acts s).all (SameView.refl s)).2 c

theorem retargetAll_get :
    (forChannels retargetChannel s).channels[c] = s.channels[c].retarget (s.channels[c].gainWanted s c) :=
  ((retargetChannel_acts s).all (SameView.refl s)).2 c

theorem wakeAll_get : (forChannels enterWaking s).channels[c] = s.channels[c].woken s c :=
  ((enterWaking_acts s).all (SameView.refl s)).2 c

theorem releaseAll_get : (forChannels releaseChannel s).channels[c] = s.channels[c].released s c :=
  ((releaseChannel_acts s).all (SameView.refl s)).2 c

theorem heedAll_get : (forChannels actOnSilence s).channels[c] = s.channels[c].heeding s c :=
  ((actOnSilence_acts s).all (SameView.refl s)).2 c

/-- Each channel takes the target formed for it (R75, R76). -/
theorem formTargets_get : (formTargets s).channels[c] = s.channels[c].takeTarget (formedTarget s c) := by
  have formed (d : Fin 4) (u : State) (hs : u.stc = s.stc) (hv : u.solver = s.solver) (hi : u.image = s.image) :
      formedTarget u d = formedTarget s d := by
    simp only [formedTarget, hs, hv, State.trim, hi]
  unfold formTargets forChannels
  dsimp only
  rw [formed 3, formed 2, formed 1]
  match c with
  | 0 => simp [State.modChannel]
  | 1 => simp [State.modChannel]
  | 2 => simp [State.modChannel]
  | 3 => simp [State.modChannel]
  all_goals rfl

/-- A pass that changes nothing at any channel. -/
theorem forChannels_id {f : Fin 4 → State → State} {s : State} (h : ∀ c, f c s = s) : forChannels f s = s := by
  simp only [forChannels, h]

theorem modChannel_id {f : Channel → Channel} {s : State} {c : Fin 4} (h : f s.channels[c] = s.channels[c]) :
    s.modChannel c f = s := by
  rw [State.modChannel, h, set_get_self]

/-- Channel vectors that agree channel by channel are equal. -/
theorem channels_ext {v w : Vector Channel 4} (h : ∀ c : Fin 4, v[c] = w[c]) : v = w :=
  Vector.ext fun i hi => h ⟨i, hi⟩

end Sys2Proof.Machine
end

section
/-! PROOFS. Laws of the single channels through the operations of Channel Power Control: what every change of a power state
keeps, every operation built from such changes keeps; and the solver's fields that an event and a trigger leave alone. -/

namespace Sys2Proof.Machine

/-! ### What every change of a power state keeps -/

/-- A property of states that every change of a power state keeps; a FAULT comes with its cause (R115). -/
def PowerStable (P : State → Prop) : Prop :=
  ∀ {s : State} (c : Fin 4) (p : Power) (cause : Option FaultCause), (p = .fault → cause.isSome = true) → P s →
    P (setPower c p cause s)

namespace PowerStable

variable {P : State → Prop} (stable : PowerStable P) {s : State}

include stable

theorem enterActive (c : Fin 4) (h : P s) : P (enterActive c s) := by
  unfold Machine.enterActive
  dsimp only
  split
  · exact stable c _ _ (by simp) (stable c _ _ (by simp) h)
  · exact stable c _ _ (by simp) h

theorem enterWaking (c : Fin 4) (h : P s) : P (enterWaking c s) := by
  unfold Machine.enterWaking
  dsimp only
  split
  · exact stable.enterActive c (stable c _ _ (by simp) h)
  · exact stable c _ _ (by simp) h

theorem enterStandby (c : Fin 4) (h : P s) : P (enterStandby c s) := by
  unfold Machine.enterStandby
  dsimp only
  split
  · exact stable.enterWaking c (stable c _ _ (by simp) h)
  · exact stable c _ _ (by simp) h

theorem actOnSilence (c : Fin 4) (h : P s) : P (actOnSilence c s) := by
  unfold Machine.actOnSilence
  split
  · exact h
  · split
    · split
      · exact h
      · exact stable c _ _ (by simp) h
    · split
      · exact h
      · exact stable.enterWaking c h
    · split
      · exact stable c _ _ (by simp) h
      · exact h
    all_goals exact h

theorem releaseChannel (c : Fin 4) (h : P s) : P (releaseChannel c s) := by
  unfold Machine.releaseChannel
  split
  · exact stable.enterWaking c h
  · split
    · exact stable.enterWaking c h
    · split
      · exact stable.enterWaking c h
      · exact h

theorem emergencyChannel (c : Fin 4) (h : P s) : P (emergencyChannel c s) := by
  unfold Machine.emergencyChannel
  split
  · exact stable.enterWaking c h
  · exact stable.enterWaking c h
  · exact stable.enterWaking c h
  · exact stable c _ _ (by simp) h
  · exact h
  · exact h

theorem exitChannel (c : Fin 4) (h : P s) : P (exitChannel c s) := by
  unfold Machine.exitChannel
  split
  · exact stable c _ _ (by simp) h
  · exact stable.actOnSilence c h

omit stable in
/-- A pass over the channels keeps what each of its parts keeps. -/
theorem pass {f : Fin 4 → State → State} (each : ∀ c {u}, P u → P (f c u)) (h : P s) : P (forChannels f s) :=
  each 3 (each 2 (each 1 (each 0 h)))

omit stable in
theorem marked {f : Fin 4 → State → State} (each : ∀ c {u}, P u → P (f c u)) (m : BitVec 4) (h : P s) :
    P (forMarked m f s) :=
  pass (fun c u hu => by
    split
    · exact each c hu
    · exact hu) h

theorem powerEmergencyEntry (h : P s) : P (powerEmergencyEntry s) := by
  unfold Machine.powerEmergencyEntry
  split
  · exact pass (fun c _ => stable.emergencyChannel c) h
  · split
    · exact pass (fun c _ => stable.enterWaking c) h
    · exact h

theorem powerEmergencyExit (h : P s) : P (powerEmergencyExit s) := by
  unfold Machine.powerEmergencyExit
  split
  · exact pass (fun c _ => stable.exitChannel c) h
  · split
    · exact pass (fun c _ => stable c _ _ (by simp)) h
    · exact h

end PowerStable

/-! ### A property of each channel -/

/-- Every channel has the property. -/
def EachChannel (Q : Channel → Prop) (s : State) : Prop := ∀ c : Fin 4, Q s.channels[c]

section EachChannel

variable {Q : Channel → Prop} {s : State}

theorem EachChannel.mod (h : EachChannel Q s) (c : Fin 4) {f : Channel → Channel} (kept : Q s.channels[c] → Q (f s.channels[c])) :
    EachChannel Q (s.modChannel c f) := by
  intro d
  by_cases here : d = c
  · subst here
    rw [modChannel_get_self]
    exact kept (h d)
  · rw [modChannel_get_other _ here]
    exact h d

theorem EachChannel.congr {t : State} (same : t.channels = s.channels) (h : EachChannel Q s) : EachChannel Q t := by
  intro c
  rw [same]
  exact h c

/-- A change of power state keeps what the channel's own part of it keeps. -/
theorem EachChannel.powerStable
    (kept : ∀ {ch : Channel} {p : Power} {cause : Option FaultCause} (standbyDelay wakeLimit : Nat), ch.power ≠ p →
      (p = .fault → cause.isSome = true) → Q ch → Q (ch.toPower p cause standbyDelay wakeLimit)) :
    PowerStable (EachChannel Q) := by
  intro s c p cause hasCause h d
  obtain ⟨self, other⟩ := (setPower_acts s p cause).one (SameView.refl s) c
  by_cases here : d = c
  · subst here
    rw [self, Channel.moved]
    split
    · exact h d
    · next differ => exact kept _ _ differ hasCause (h d)
  · rw [other d here]
    exact h d

theorem EachChannel.requestAll (kept : ∀ c : Fin 4, Q s.channels[c] → Q (s.channels[c].request (s.channels[c].wanted s c)))
    (h : EachChannel Q s) : EachChannel Q (requestAll s) := by
  intro c
  rw [requestAll_get]
  exact kept c (h c)

theorem EachChannel.retargetAll
    (kept : ∀ c : Fin 4, Q s.channels[c] → Q (s.channels[c].retarget (s.channels[c].gainWanted s c)))
    (h : EachChannel Q s) : EachChannel Q (forChannels retargetChannel s) := by
  intro c
  rw [retargetAll_get]
  exact kept c (h c)

theorem EachChannel.formTargets (kept : ∀ c : Fin 4, Q s.channels[c] → Q (s.channels[c].takeTarget (formedTarget s c)))
    (h : EachChannel Q s) : EachChannel Q (formTargets s) := by
  intro c
  rw [formTargets_get]
  exact kept c (h c)

end EachChannel

/-! ### The fields of the solver that the ends of events leave alone -/

section Solver

variable (s : State)

@[simp] theorem handAlign_solver :
    (handAlign s).solver.state = s.solver.state ∧ (handAlign s).solver.delay = s.solver.delay ∧
    (handAlign s).solver.rank = s.solver.rank ∧ (handAlign s).solver.path = s.solver.path ∧
    (handAlign s).solver.winner = s.solver.winner ∧ (handAlign s).solver.offset = s.solver.offset ∧
    (handAlign s).solver.cueFreeze = s.solver.cueFreeze ∧
    (handAlign s).solver.emergencyFreeze = s.solver.emergencyFreeze ∧
    (handAlign s).solver.settle = s.solver.settle ∧ (handAlign s).solver.hold = s.solver.hold ∧
    (handAlign s).solver.lastTemperature = s.solver.lastTemperature ∧
    (handAlign s).solver.computed = s.solver.computed ∧ (handAlign s).solver.range = s.solver.range ∧
    (handAlign s).solver.lowClamps = s.solver.lowClamps := by
  simp [handAlign]

@[simp] theorem finishEvent_solver_frame (old : State) :
    (finishEvent old s).solver.state = s.solver.state ∧ (finishEvent old s).solver.delay = s.solver.delay ∧
    (finishEvent old s).solver.rank = s.solver.rank ∧ (finishEvent old s).solver.path = s.solver.path ∧
    (finishEvent old s).solver.winner = s.solver.winner ∧ (finishEvent old s).solver.offset = s.solver.offset ∧
    (finishEvent old s).solver.cueFreeze = s.solver.cueFreeze ∧
    (finishEvent old s).solver.emergencyFreeze = s.solver.emergencyFreeze ∧
    (finishEvent old s).solver.settle = s.solver.settle ∧ (finishEvent old s).solver.hold = s.solver.hold ∧
    (finishEvent old s).solver.lastTemperature = s.solver.lastTemperature ∧
    (finishEvent old s).solver.computed = s.solver.computed ∧ (finishEvent old s).solver.range = s.solver.range ∧
    (finishEvent old s).solver.lowClamps = s.solver.lowClamps := by
  obtain ⟨seq, handed, refresh, solver⟩ := finishEvent_solver old s
  simp [solver]

@[simp] theorem event_solver_frame (f : State → State) :
    (event f s).solver.state = (f s).solver.state ∧ (event f s).solver.delay = (f s).solver.delay ∧
    (event f s).solver.rank = (f s).solver.rank ∧ (event f s).solver.path = (f s).solver.path ∧
    (event f s).solver.winner = (f s).solver.winner ∧ (event f s).solver.offset = (f s).solver.offset ∧
    (event f s).solver.cueFreeze = (f s).solver.cueFreeze ∧
    (event f s).solver.emergencyFreeze = (f s).solver.emergencyFreeze ∧
    (event f s).solver.settle = (f s).solver.settle ∧ (event f s).solver.hold = (f s).solver.hold ∧
    (event f s).solver.lastTemperature = (f s).solver.lastTemperature ∧
    (event f s).solver.computed = (f s).solver.computed ∧ (event f s).solver.range = (f s).solver.range ∧
    (event f s).solver.lowClamps = (f s).solver.lowClamps :=
  finishEvent_solver_frame (f s) s

@[simp] theorem trigger_solver :
    (trigger s).solver.state = s.solver.state ∧ (trigger s).solver.delay = s.solver.delay ∧
    (trigger s).solver.rank = s.solver.rank ∧ (trigger s).solver.path = s.solver.path ∧
    (trigger s).solver.winner = s.solver.winner ∧ (trigger s).solver.offset = s.solver.offset ∧
    (trigger s).solver.cueFreeze = s.solver.cueFreeze ∧
    (trigger s).solver.emergencyFreeze = s.solver.emergencyFreeze ∧ (trigger s).solver.hold = s.solver.hold ∧
    (trigger s).solver.computed = s.solver.computed ∧ (trigger s).solver.range = s.solver.range ∧
    (trigger s).solver.lastTemperature = s.solver.lastTemperature := by
  unfold trigger
  split <;> simp

/-- Out of RUN and CONFLICT a trigger is not taken (R55). -/
theorem trigger_of_not_serving {s : State} (idle : s.serving = false) : trigger s = s := by
  simp [trigger, idle]

end Solver

end Sys2Proof.Machine
end

section
/-! PROOFS. What each station mode holds (R176, R180, R186), and what holds until the station serves its zone (R82, R83,
R106, R118, R120): out of RUN and CONFLICT no pass over the channels finds anything to change, but for the resets, the
entries into CONFIG_FAULT and ANNOUNCE, and an EMERGENCY in CONFIG_FAULT. -/

namespace Sys2Proof.Machine

/-! ### The station mode's own block -/

@[simp] theorem enterConfigFault_stc (reason : FaultReason) (s : State) :
    (enterConfigFault reason s).stc = (faultStartup reason s).stc ∧ (enterConfigFault reason s).image = none := by
  unfold enterConfigFault
  dsimp only
  split <;> simp [forChannels, faultStartup]

@[simp] theorem enterAnnounce_stc (img : Image) (s : State) :
    (enterAnnounce img s).stc =
        { s.stc with
          mode := .announce
          identity := some (img.id, img.length)
          kind := some img.kind
          claim := some 500000
          reading := .none
          kept := Vector.replicate 16 none } ∧
      (enterAnnounce img s).image = some img := by
  simp [enterAnnounce, installImage, forChannels]

theorem loading_image {s : State} (h : StartLaw s) (mode : s.stc.mode = .loading) :
    s.image = none ∧ s.stc.kind = none ∧ s.stc.identity = none ∧ s.stc.claim = none ∧ s.stc.reason = .none ∧
      isStation s.number = true := by
  obtain ⟨image, -, kind, identity, claim, -, reason, number⟩ := h
  have none : s.image = none := by simpa [mode] using image
  refine ⟨none, by simpa [none] using kind, by simpa [none] using identity, by simpa [mode] using claim,
    by simpa [mode] using reason, by simpa [mode] using number⟩

theorem SameStart.keeps {s t : State} (stc : t.stc = s.stc) (image : t.image = s.image) (h : StartLaw s) : StartLaw t := by
  simpa only [StartLaw, State.number, stc, image] using h

theorem enterConfigFault_startLaw {reason : FaultReason} (named : reason ≠ .none) (s : State) :
    StartLaw (enterConfigFault reason s) := by
  simp [StartLaw, faultStartup, named]

theorem beginLoading_startLaw (straps : Straps) {r : State} (stc : ∃ unit restarts kept, r.stc =
    { State.reset.stc with strapPins := straps, straps := straps, unit := unit, restarts := restarts, kept := kept })
    (image : r.image = none) : StartLaw (beginLoading r) := by
  obtain ⟨unit, restarts, kept, stc⟩ := stc
  unfold beginLoading
  split
  · next number =>
    have station : isStation straps.number.toNat = true := by simpa only [State.number, stc] using number
    simp [StartLaw, stc, image, State.number, station]
  · exact enterConfigFault_startLaw (by decide) r

theorem enterAnnounce_startLaw {b : List Byte} {img : Image} {s : State} (checked : Checked s.number b img)
    (h : StartLaw s) (mode : s.stc.mode = .loading) : StartLaw (enterAnnounce img s) := by
  obtain ⟨-, -, -, -, reason, number⟩ := loading_image h mode
  simp only [State.number] at number
  simp [StartLaw, reason, State.number, number, checked.read.ranges]

theorem enterRun_startLaw {s : State} (h : StartLaw s) (mode : s.stc.mode = .announce) : StartLaw (enterRun s) := by
  obtain ⟨image, ranges, kind, identity, claim, reading, reason, number⟩ := h
  have number' : isStation s.number = true := number.resolve_right (by simp [mode])
  have stc := enterRun_stc s
  have imageSame : (enterRun s).image = s.image := by simp
  simp only [mode] at image claim reading reason
  simp only [State.number] at number'
  simp_all [StartLaw, State.number]

theorem enterConflict_startLaw {s : State} (h : StartLaw s) (mode : s.stc.mode = .run) : StartLaw (enterConflict s) := by
  obtain ⟨image, ranges, kind, identity, claim, reading, reason, number⟩ := h
  have stc := enterConflict_stc s
  have imageSame : (enterConflict s).image = s.image := by simp
  simp only [mode] at image claim reading reason
  have number' : isStation s.number = true := number.resolve_right (by simp [mode])
  simp only [State.number] at number'
  simp_all [StartLaw, State.number]

/-- The duplicate count and the last duplicate ROLL are no part of the law. -/
theorem StartLaw.noted {s : State} (h : StartLaw s) (duplicates : BitVec 16) (last : Option (BitVec 32 × Bool)) :
    StartLaw (s.modStc fun c => { c with duplicates := duplicates, lastDuplicate := last }) := h

theorem contest_startLaw (b : RollBody) {s : State} (h : StartLaw s) (mode : s.stc.mode = .announce ∨ s.stc.mode = .run) :
    StartLaw (contest b s) := by
  unfold contest recordDuplicate
  dsimp only
  split
  · exact SameStart.keeps (by simp) (by simp) (h.noted s.stc.duplicates (some (b.unit, true)))
  · split
    · exact h
    · split
      · have noted := h.noted s.stc.duplicates (some (b.unit, false))
        split
        · next announce => exact enterConflict_startLaw (enterRun_startLaw noted announce) (by simp)
        · next notAnnounce => exact enterConflict_startLaw noted (mode.resolve_left notAnnounce)
      · exact SameStart.keeps (by simp) (by simp) (h.noted s.stc.duplicates (some (b.unit, true)))

theorem takeDuplicate_startLaw (roll : Option RollBody) {s : State} (h : StartLaw s) : StartLaw (takeDuplicate roll s) := by
  unfold takeDuplicate
  split
  · next mode =>
    have noted := h.noted (satInc s.stc.duplicates) s.stc.lastDuplicate
    dsimp only
    split
    · exact SameStart.keeps (by simp) (by simp) noted
    · exact contest_startLaw _ noted mode
  · exact h

theorem takeRestart_startLaw (unit : BitVec 32) (straps : Straps) {s : State} (h : StartLaw s) :
    StartLaw (takeRestart unit straps s) := by
  unfold takeRestart
  split
  · exact h
  · split
    · exact SameStart.keeps (by simp) (by simp) h
    · exact beginLoading_startLaw straps ⟨s.stc.unit, satInc s.stc.restarts, keptLists s, rfl⟩ rfl

theorem tick_startLaw {s : State} (h : StartLaw s) : StartLaw (tick s) := by
  obtain ⟨image, ranges, kind, identity, claim, reading, reason, number⟩ := h
  refine ⟨image, ranges, kind, identity, ?_, ?_, reason, number⟩
  · simpa [tick, tickTimer] using claim
  · rw [← show (tick s).stc.mode = s.stc.mode from rfl] at reading
    refine Iff.trans ?_ reading
    cases e : s.stc.reading <;> simp [tick, ImageRead.tick, e]

theorem checkHeader_named {header : List Byte} (h : ¬checkHeader header = .none) : checkHeader header ≠ .none := h

theorem checkImage_named {own : Nat} {b : List Byte} {reason : FaultReason} (h : checkImage own b = .error reason) :
    reason ≠ .none := by
  unfold checkImage at h
  dsimp only at h
  repeat' split at h
  all_goals first | (cases h; decide) | (cases h; assumption) | cases h

theorem exec_stc {c : Instr} {s t : State} (single : isSingle c = true) (answer : exec c s = .next t)
    (other : match c with
      | .hardReset _ | .imageHeaderRead _ | .imageReadTimeout | .imageReadComplete _ | .claimTimerExpiry => False
      | _ => True) : t.stc = s.stc ∧ t.image = s.image := by
  cases c
  case align | roll | mark | evac | cue | waitTimerExpiry | query | restart | reply | duplicateFrame | interFrameGap =>
    cases single
  case hardReset | imageHeaderRead | imageReadTimeout | imageReadComplete | claimTimerExpiry => exact other.elim
  all_goals
    cases answer
    try simp only [event_frame, judgeRequest]
    try ((repeat' split) <;> simp)

theorem exec_startLaw {c : Instr} {s t : State} (single : isSingle c = true) (answer : exec c s = .next t)
    (h : StartLaw s) : StartLaw t := by
  cases c
  case hardReset straps =>
    cases answer
    exact beginLoading_startLaw straps ⟨s.stc.unit, State.reset.stc.restarts, State.reset.stc.kept, rfl⟩ rfl
  case imageHeaderRead header =>
    cases answer
    split
    · next mode _ =>
      split
      · exact h
      · dsimp only
        split
        · obtain ⟨image, ranges, kind, identity, claim, reading, reason, number⟩ := h
          exact ⟨image, ranges, kind, identity, claim, by simp [mode], reason, number⟩
        · next named => exact enterConfigFault_startLaw named s
    · exact h
  case imageReadTimeout =>
    cases answer
    split
    · exact enterConfigFault_startLaw (by decide) s
    · exact enterConfigFault_startLaw (by decide) s
    · exact h
  case imageReadComplete rest =>
    cases answer
    split
    · next mode _ =>
      dsimp only
      split
      · exact h
      · split
        · next refused => exact enterConfigFault_startLaw (checkImage_named refused) s
        · next checked => exact enterAnnounce_startLaw (checkImage_checked checked) h mode
    · exact h
  case claimTimerExpiry =>
    cases answer
    split
    · next announce => exact enterRun_startLaw h announce.1
    · exact h
  all_goals
    obtain ⟨stc, image⟩ := exec_stc single answer trivial
    exact SameStart.keeps stc image h

theorem turn_keeps_startLaw {s t : State} (turn : Turn s t) (h : StartLaw s) : StartLaw t := by
  cases turn with
  | pass => exact tick_startLaw h
  | pins straps => exact h
  | duplicate roll => exact SameStart.keeps (by simp) (by simp) (takeDuplicate_startLaw roll h)
  | @handed f _ stamp straps burst station other noCue =>
    obtain ⟨src, dst, body⟩ := f
    cases body
    case cue => exact absurd noCue Bool.false_ne_true
    case restart unit => exact SameStart.keeps (by simp [dispatch]) (by simp [dispatch]) (takeRestart_startLaw unit straps h)
    all_goals exact SameStart.keeps (by simp [dispatch]) (by simp [dispatch]) h
  | command single answer => exact exec_startLaw single answer h
  | _ => exact SameStart.keeps (by simp [gapTaken]) (by simp [gapTaken]) h

end Sys2Proof.Machine
end

section
/-! PROOFS. What holds until the station serves its zone (R82, R83, R106, R118, R120): the channels are FLAT and, but for an
EMERGENCY in CONFIG_FAULT, asleep, so that no pass over them finds anything to change. -/

namespace Sys2Proof.Machine

/-! ### One channel -/

section Channel

variable {ch : Channel}

/-- A request for the setting in force does nothing (R95). -/
theorem request_active {w : Setting} (active : ch.active = w) (idle : ch.crossfade = .idle) : ch.request w = ch := by
  simp [Channel.request, idle, active]

/-- A gain target set to its value does nothing (R101). -/
theorem retarget_same {g : GainTarget} (same : ch.gainTarget = g) : ch.retarget g = ch := if_pos same.symm

/-- A target set to its value is not new (R76). -/
theorem takeTarget_same {t : Nat} (same : ch.target = t) : ch.takeTarget t = ch := if_pos same.symm

@[simp] theorem takeTarget_target (t : Nat) (ch : Channel) : (ch.takeTarget t).target = t := by
  unfold Channel.takeTarget
  split
  · next same => exact same.symm
  · split <;> rfl

/-- What taking a target leaves alone. -/
@[simp] theorem takeTarget_frame (t : Nat) (ch : Channel) :
    (ch.takeTarget t).power = ch.power ∧ (ch.takeTarget t).active = ch.active ∧
    (ch.takeTarget t).crossfade = ch.crossfade ∧ (ch.takeTarget t).gainTarget = ch.gainTarget := by
  unfold Channel.takeTarget
  repeat' split
  all_goals exact ⟨rfl, rfl, rfl, rfl⟩

@[simp] theorem retarget_gainTarget (g : GainTarget) (ch : Channel) : (ch.retarget g).gainTarget = g := by
  unfold Channel.retarget
  split
  · next same => exact same.symm
  · split <;> rfl

/-- What a gain target set anew leaves alone. -/
@[simp] theorem retarget_frame (g : GainTarget) (ch : Channel) :
    (ch.retarget g).power = ch.power ∧ (ch.retarget g).active = ch.active ∧ (ch.retarget g).crossfade = ch.crossfade ∧
    (ch.retarget g).target = ch.target ∧ (ch.retarget g).output = ch.output := by
  unfold Channel.retarget
  repeat' split
  all_goals exact ⟨rfl, rfl, rfl, rfl, rfl⟩

@[simp] theorem completeSlew_frame (ch : Channel) :
    ch.completeSlew.target = ch.target ∧ ch.completeSlew.active = ch.active ∧
    ch.completeSlew.crossfade = ch.crossfade ∧ ch.completeSlew.gainTarget = ch.gainTarget ∧
    ch.completeSlew.power = ch.power ∧ ch.completeSlew.waiting = ch.waiting ∧ ch.completeSlew.ramp = ch.ramp ∧
    ch.completeSlew.output = ch.output := by
  unfold Channel.completeSlew
  split <;> exact ⟨rfl, rfl, rfl, rfl, rfl, rfl, rfl, rfl⟩

@[simp] theorem completeCrossfade_frame (ch : Channel) :
    ch.completeCrossfade.target = ch.target ∧ ch.completeCrossfade.gainTarget = ch.gainTarget ∧
    ch.completeCrossfade.power = ch.power ∧ ch.completeCrossfade.crossfade = .idle ∧
    ch.completeCrossfade.ramp = ch.ramp ∧ ch.completeCrossfade.output = ch.output := by
  unfold Channel.completeCrossfade
  split
  · next idle => exact ⟨rfl, rfl, rfl, idle, rfl, rfl⟩
  · exact ⟨rfl, rfl, rfl, rfl, rfl, rfl⟩

@[simp] theorem completeRamp_frame (ch : Channel) :
    ch.completeRamp.target = ch.target ∧ ch.completeRamp.active = ch.active ∧
    ch.completeRamp.crossfade = ch.crossfade ∧ ch.completeRamp.gainTarget = ch.gainTarget ∧
    ch.completeRamp.power = ch.power ∧ ch.completeRamp.output = ch.output := by
  unfold Channel.completeRamp
  split <;> exact ⟨rfl, rfl, rfl, rfl, rfl, rfl⟩

@[simp] theorem silenced_frame (ch : Channel) :
    ch.silenced.target = ch.target ∧ ch.silenced.gainTarget = ch.gainTarget ∧ ch.silenced.power = ch.power ∧
    ch.silenced.crossfade = .idle ∧ ch.silenced.output = ch.output := by
  simp [Channel.silenced]

theorem silenced_active (idle : ch.crossfade = .idle) : ch.silenced.active = ch.active := by
  have same : ch.completeSlew.completeCrossfade = ch.completeSlew := by
    simp [Channel.completeCrossfade, idle]
  simp [Channel.silenced, same]

@[simp] theorem toPower_frame (p : Power) (cause : Option FaultCause) (a b : Nat) (ch : Channel) :
    (ch.toPower p cause a b).power = p ∧ (ch.toPower p cause a b).target = ch.target ∧
    (ch.toPower p cause a b).gainTarget = ch.gainTarget ∧ (ch.toPower p cause a b).output = ch.output := by
  unfold Channel.toPower
  dsimp only
  split <;> simp

/-- FLAT with no crossfade running. -/
def Channel.Flat (ch : Channel) : Prop := ch.active = .flat ∧ ch.crossfade = .idle

/-- In STANDBY and muted. -/
def Channel.Asleep (ch : Channel) : Prop := ch.power = .standby ∧ ch.gainTarget = .silence

theorem Channel.Flat.toPower (h : ch.Flat) (p : Power) (cause : Option FaultCause) (a b : Nat) :
    (ch.toPower p cause a b).Flat := by
  obtain ⟨active, idle⟩ := h
  unfold Channel.toPower
  dsimp only
  split
  · exact ⟨(silenced_active idle).trans active, by simp⟩
  · exact ⟨active, idle⟩

theorem Channel.Flat.request (h : ch.Flat) : ch.request .flat = ch := request_active h.1 h.2

@[simp] theorem slewOnce_frame (step : Nat) (ch : Channel) :
    (ch.slewOnce step).power = ch.power ∧ (ch.slewOnce step).active = ch.active ∧
    (ch.slewOnce step).crossfade = ch.crossfade ∧ (ch.slewOnce step).gainTarget = ch.gainTarget ∧
    (ch.slewOnce step).target = ch.target ∧ (ch.slewOnce step).output = ch.output := by
  unfold Channel.slewOnce
  split <;> exact ⟨rfl, rfl, rfl, rfl, rfl, rfl⟩

@[simp] theorem stepRamp_frame (ch : Channel) :
    ch.stepRamp.power = ch.power ∧ ch.stepRamp.active = ch.active ∧ ch.stepRamp.crossfade = ch.crossfade ∧
    ch.stepRamp.gainTarget = ch.gainTarget ∧ ch.stepRamp.target = ch.target := by
  unfold Channel.stepRamp
  repeat' split
  all_goals simp

theorem endCrossfade_idle (idle : ch.crossfade = .idle) : ch.endCrossfade = ch := by
  simp [Channel.endCrossfade, idle]

theorem stepCrossfade_idle (idle : ch.crossfade = .idle) : ch.stepCrossfade = ch := by
  simp [Channel.stepCrossfade, idle]

/-- The fields of a channel that the law speaks of are the same. -/
def Channel.HeldSame (ch ch' : Channel) : Prop :=
  ch'.power = ch.power ∧ ch'.active = ch.active ∧ ch'.crossfade = ch.crossfade ∧ ch'.gainTarget = ch.gainTarget ∧
  ch'.target = ch.target

theorem heldSame_refl (ch : Channel) : ch.HeldSame ch := ⟨rfl, rfl, rfl, rfl, rfl⟩

theorem heldSame_trans {a b c : Channel} (h : a.HeldSame b) (h' : b.HeldSame c) : a.HeldSame c := by
  obtain ⟨h1, h2, h3, h4, h5⟩ := h
  obtain ⟨k1, k2, k3, k4, k5⟩ := h'
  exact ⟨k1.trans h1, k2.trans h2, k3.trans h3, k4.trans h4, k5.trans h5⟩

/-- A programme sample leaves a channel whose crossfade is IDLE as it was, in those fields. -/
theorem sampleChannel_heldSame (c d : Fin 4) {s : State} (idle : s.channels[d].crossfade = .idle) :
    s.channels[d].HeldSame (sampleChannel c s).channels[d] := by
  by_cases here : d = c
  · subst here
    unfold sampleChannel
    dsimp only
    rw [modChannel_get_self]
    generalize hm : (s.channels[d].slewOnce s.slewStep).stepRamp = moved
    have same : s.channels[d].HeldSame moved := by simp [← hm, Channel.HeldSame]
    have crossfade : moved.crossfade = s.channels[d].crossfade := same.2.2.1
    generalize hf : equalise s d (channelRead s moved) moved = formed
    have formedSame : moved.HeldSame formed := by
      rw [← hf, equalise_frame]
      exact ⟨rfl, rfl, rfl, rfl, rfl⟩
    have idle' : formed.crossfade = .idle := by
      obtain ⟨-, -, crossfade', -, -⟩ := formedSame
      rw [crossfade', crossfade, idle]
    rw [stepCrossfade_idle idle']
    exact heldSame_trans same formedSame
  · unfold sampleChannel
    dsimp only
    rw [modChannel_get_other _ here]
    exact ⟨rfl, rfl, rfl, rfl, rfl⟩

end Channel

/-! ### What holds until the station serves its zone -/

/-- The law out of RUN and CONFLICT, with the crossfades that EqLaw keeps IDLE there. -/
structure Held (s : State) : Prop where
  idle : s.serving = false
  delay : s.solver.delay = 0
  path : s.solver.path = 0
  flat : EachChannel Channel.Flat s
  target : s.stc.mode ≠ .announce → EachChannel (·.target = 0) s
  asleep : (s.stc.mode = .configFault → s.emc.emergency = false) → EachChannel Channel.Asleep s

theorem not_serving_iff {s : State} : s.serving = false ↔ s.stc.mode ≠ .run ∧ s.stc.mode ≠ .conflict := by
  simp [State.serving]

theorem Held.law {s : State} (h : Held s) : HeldLaw s := by
  obtain ⟨idle, delay, path, flat, target, asleep⟩ := h
  refine ⟨fun _ => ⟨delay, path⟩, fun mode c => ?_, fun mode c => target ?_ c, fun _ c => flat c, fun _ calm c => ?_⟩
  · have asleep' := asleep (fun fault => by rcases mode with mode | mode <;> simp [mode] at fault) c
    exact ⟨asleep'.1, (flat c).1, asleep'.2⟩
  · rcases mode with mode | mode <;> simp [mode]
  · exact asleep (fun _ => calm) c

theorem Lawful.isHeld {s : State} (h : Lawful s) (idle : s.serving = false) : Held s := by
  obtain ⟨zero, asleep, target, flat, calm⟩ := h.held
  obtain ⟨notRun, notConflict⟩ := not_serving_iff.1 idle
  have crossfades : s.stc.mode = .loading ∨ s.stc.mode = .announce → ∀ c : Fin 4, s.channels[c].crossfade = .idle := by
    intro mode c
    obtain ⟨-, -, -, -, silent, -⟩ := h.eqs c
    exact (silent (by rw [(asleep mode c).1]; rfl)).1
  refine ⟨idle, (zero idle).1, (zero idle).2, fun c => ?_, fun notAnnounce c => target ?_ c, fun quiet c => ?_⟩
  · cases mode : s.stc.mode
    case loading => exact ⟨(asleep (.inl mode) c).2.1, crossfades (.inl mode) c⟩
    case announce => exact ⟨(asleep (.inr mode) c).2.1, crossfades (.inr mode) c⟩
    case configFault => exact flat mode c
    case run => exact absurd mode notRun
    case conflict => exact absurd mode notConflict
  · cases mode : s.stc.mode <;> simp_all
  · cases mode : s.stc.mode
    case loading => exact ⟨(asleep (.inl mode) c).1, (asleep (.inl mode) c).2.2⟩
    case announce => exact ⟨(asleep (.inr mode) c).1, (asleep (.inr mode) c).2.2⟩
    case configFault => exact calm mode (quiet mode) c
    case run => exact absurd mode notRun
    case conflict => exact absurd mode notConflict

theorem heldLaw_of_serving {s : State} (serving : s.serving = true) : HeldLaw s := by
  rw [serving_iff] at serving
  refine ⟨fun idle => ?_, fun mode => ?_, fun mode => ?_, fun mode => ?_, fun mode => ?_⟩
  · obtain ⟨notRun, notConflict⟩ := not_serving_iff.1 idle
    exact absurd serving (by simp [notRun, notConflict])
  all_goals rcases serving with serving | serving <;> simp [serving] at mode

section Held

variable {s t : State}

/-- The state holds the same for the law, channel by channel. -/
theorem Held.congr (h : Held s) (mode : t.stc.mode = s.stc.mode) (emergency : t.emc.emergency = s.emc.emergency)
    (delay : t.solver.delay = s.solver.delay) (path : t.solver.path = s.solver.path)
    (channels : ∀ c : Fin 4, s.channels[c].HeldSame t.channels[c]) : Held t := by
  obtain ⟨idle, d, p, flat, target, asleep⟩ := h
  refine ⟨by simpa only [State.serving, mode] using idle, delay.trans d, path.trans p, fun c => ?_, fun m c => ?_,
    fun m c => ?_⟩
  · obtain ⟨-, active, crossfade, -, -⟩ := channels c
    exact ⟨active.trans (flat c).1, crossfade.trans (flat c).2⟩
  · obtain ⟨-, -, -, -, same⟩ := channels c
    exact same.trans (target (mode ▸ m) c)
  · obtain ⟨power, -, -, gain, -⟩ := channels c
    have a := asleep (by rwa [mode, emergency] at m) c
    exact ⟨power.trans a.1, gain.trans a.2⟩

/-- The state holds the same for the law, with its channels as they were. -/
theorem Held.same (h : Held s) (mode : t.stc.mode = s.stc.mode) (emergency : t.emc.emergency = s.emc.emergency)
    (delay : t.solver.delay = s.solver.delay) (path : t.solver.path = s.solver.path)
    (channels : t.channels = s.channels) : Held t :=
  h.congr mode emergency delay path fun c => by rw [channels]; exact heldSame_refl _

/-- A change of one channel in other fields. -/
theorem Held.mod (h : Held s) (c : Fin 4) {f : Channel → Channel} (same : s.channels[c].HeldSame (f s.channels[c])) :
    Held (s.modChannel c f) := by
  refine h.congr rfl rfl rfl rfl fun d => ?_
  by_cases here : d = c
  · subst here
    rw [modChannel_get_self]
    exact same
  · rw [modChannel_get_other _ here]
    exact heldSame_refl _

theorem wanted_of_not_serving (idle : s.serving = false) (c : Fin 4) (ch : Channel) : ch.wanted s c = .flat := by
  simp [Channel.wanted, idle]

theorem gainWanted_of_quiet (idle : s.serving = false) (quiet : s.stc.mode = .configFault → s.emc.emergency = false)
    (c : Fin 4) (ch : Channel) : ch.gainWanted s c = .silence := by
  have notLoud : ¬(s.stc.mode = .configFault ∧ s.inEmergency = true) := by
    rintro ⟨mode, emergency⟩
    simp [State.inEmergency, quiet mode] at emergency
  simp [Channel.gainWanted, idle, notLoud]

theorem Held.requestAll (h : Held s) : Held (requestAll s) := by
  refine h.congr (by simp) (by simp) (by simp) (by simp) fun c => ?_
  rw [requestAll_get, wanted_of_not_serving h.idle, (h.flat c).request]
  exact heldSame_refl _

theorem Held.refreshShelf (h : Held s) : Held (refreshShelf s) := by
  unfold Machine.refreshShelf
  dsimp only
  split
  · exact h
  · exact (h.same rfl rfl rfl rfl rfl : Held (s.modEq _)).requestAll

theorem Held.setHumidityBand (b : Nat) (h : Held s) : Held (setHumidityBand b s) := by
  unfold Machine.setHumidityBand
  split
  · exact h
  · exact (h.same rfl rfl rfl rfl rfl : Held (s.modEq _)).refreshShelf

/-- An EMERGENCY in CONFIG_FAULT, where the channels are awake. -/
def Loud (s : State) : Prop := s.stc.mode = .configFault ∧ s.emc.emergency = true

/-- In a loud state every change of power states keeps the law. -/
theorem loud_powerStable : PowerStable fun s => Held s ∧ Loud s := by
  intro s c p cause hasCause ⟨h, mode, emergency⟩
  have flats := EachChannel.powerStable (Q := Channel.Flat) (fun _ _ _ _ flat => flat.toPower _ _ _ _) c p cause hasCause h.flat
  have targets := EachChannel.powerStable (Q := (·.target = 0)) (fun _ _ _ _ zero => by simpa using zero) c p cause hasCause
    (h.target (by simp [mode]))
  refine ⟨⟨by simpa [State.serving] using h.idle, by simpa using h.delay, by simpa using h.path, flats,
    fun _ => targets, fun quiet => ?_⟩, by simpa [Loud] using And.intro mode emergency⟩
  have := quiet (by simpa using mode)
  simp [emergency] at this

/-- Out of such a state every channel is asleep. -/
theorem Held.power (h : Held s) (quiet : ¬Loud s) (c : Fin 4) : s.channels[c].power = .standby :=
  (h.asleep (fun mode => Bool.eq_false_iff.2 fun emergency => quiet ⟨mode, emergency⟩) c).1

theorem Held.mode (h : Held s) : s.stc.mode ≠ .run ∧ s.stc.mode ≠ .conflict := not_serving_iff.1 h.idle

/-! ### EMERGENCY (R105, R106, R120) -/

theorem probeEmergency_channels (s : State) : (probeEmergency s).channels = s.channels := by simp

/-- Gain targets set anew keep the law, but for the muting in a loud state. -/
theorem retargetAll_flat (h : EachChannel Channel.Flat s) : EachChannel Channel.Flat (forChannels retargetChannel s) :=
  EachChannel.retargetAll (fun c flat => by simpa [Channel.Flat] using flat) h

theorem retargetAll_target (h : EachChannel (·.target = 0) s) : EachChannel (·.target = 0) (forChannels retargetChannel s) :=
  EachChannel.retargetAll (fun c zero => by simpa using zero) h

theorem Held.retargetAll (h : Held s) : Held (forChannels retargetChannel s) := by
  refine ⟨by simpa [State.serving, forChannels] using h.idle, by simpa [forChannels] using h.delay,
    by simpa [forChannels] using h.path, retargetAll_flat h.flat,
    fun mode => retargetAll_target (h.target (by simpa [forChannels] using mode)), fun quiet c => ?_⟩
  have quiet' : s.stc.mode = .configFault → s.emc.emergency = false := by simpa [forChannels] using quiet
  rw [retargetAll_get, gainWanted_of_quiet h.idle quiet', retarget_same (h.asleep quiet' c).2]
  exact h.asleep quiet' c

theorem Held.equaliserEmergency (h : Held s) : Held (equaliserEmergency s) := by
  simp only [Machine.equaliserEmergency, h.idle]
  exact h.retargetAll

theorem Held.powerEmergencyEntry (h : Held s) (emergency : s.emc.emergency = true) : Held (powerEmergencyEntry s) := by
  by_cases mode : s.stc.mode = .configFault
  · exact (loud_powerStable.powerEmergencyEntry ⟨h, mode, emergency⟩).1
  · simp only [Machine.powerEmergencyEntry, h.idle, mode, if_false]
    exact h

theorem Held.enterEmergency (h : Held s) : Held (enterEmergency s) := by
  unfold Machine.enterEmergency
  dsimp only
  refine Held.powerEmergencyEntry (Held.equaliserEmergency ?_) (by simp)
  refine ⟨by simpa [State.serving] using h.idle, by simpa [setFreeze] using h.delay, by simpa [setFreeze] using h.path,
    EachChannel.congr (by simp) h.flat, fun mode => EachChannel.congr (by simp) (h.target (by simpa using mode)),
    fun quiet => EachChannel.congr (by simp) (h.asleep fun mode => ?_)⟩
  have := quiet (by simpa using mode)
  simp at this

/-- The channels after the gain targets and the power states of EMERGENCY exit in CONFIG_FAULT are asleep. -/
theorem exitConfigFault_asleep (mode : s.stc.mode = .configFault) (emergency : s.emc.emergency = false) :
    EachChannel Channel.Asleep (forChannels (fun c s => setPower c .standby none s) (forChannels retargetChannel s)) := by
  intro c
  rw [((setPower_acts _ .standby none).all (SameView.refl _)).2 c, retargetAll_get,
    gainWanted_of_quiet (by simp [State.serving, mode]) (fun _ => emergency)]
  unfold Channel.moved
  split
  · next power => exact ⟨power, by simp⟩
  · exact ⟨by simp, by simp⟩

theorem Held.leaveEmergency (h : Held s) : Held (leaveEmergency s) := by
  unfold Machine.leaveEmergency
  dsimp only
  rw [trigger_of_not_serving (by simpa [State.serving, setFreeze] using h.idle)]
  generalize hu : setFreeze (s.modEmc fun e => { e with emergency := false }).solver.cueFreeze false
    (s.modEmc fun e => { e with emergency := false }) = u
  have mode : u.stc.mode = s.stc.mode := by simp [← hu]
  have idle : u.serving = false := by simpa only [State.serving, mode] using h.idle
  have channels : u.channels = s.channels := by simp [← hu]
  have emergency : u.emc.emergency = false := by simp [← hu]
  by_cases fault : u.stc.mode = .configFault
  · have flat : EachChannel Channel.Flat (forChannels retargetChannel u) :=
      retargetAll_flat (EachChannel.congr channels h.flat)
    have target : EachChannel (·.target = 0) (forChannels retargetChannel u) :=
      retargetAll_target (EachChannel.congr channels (h.target (by simp [← mode, fault])))
    have exit : powerEmergencyExit (Machine.equaliserEmergency u) =
        forChannels (fun c s => setPower c .standby none s) (forChannels retargetChannel u) := by
      simp [Machine.powerEmergencyExit, Machine.equaliserEmergency, State.serving, fault, forChannels]
    rw [exit]
    refine ⟨by simpa [State.serving, forChannels] using idle, ?_, ?_,
      PowerStable.pass (fun c _ k => EachChannel.powerStable (fun _ _ _ _ f => f.toPower _ _ _ _) c _ _ (by simp) k) flat,
      fun _ => PowerStable.pass
        (fun c _ k => EachChannel.powerStable (fun _ _ _ _ zero => by simpa using zero) c _ _ (by simp) k) target,
      fun _ => exitConfigFault_asleep fault emergency⟩
    · simpa [forChannels, ← hu, setFreeze] using h.delay
    · simpa [forChannels, ← hu, setFreeze] using h.path
  · have held : Held u := by
      refine ⟨idle, by simpa [← hu, setFreeze] using h.delay, by simpa [← hu, setFreeze] using h.path,
        EachChannel.congr channels h.flat, fun m => EachChannel.congr channels (h.target (mode ▸ m)), fun _ =>
          EachChannel.congr channels (h.asleep fun m => absurd (mode.trans m) fault)⟩
    have after := held.equaliserEmergency
    have stays : powerEmergencyExit (Machine.equaliserEmergency u) = Machine.equaliserEmergency u := by
      simp [Machine.powerEmergencyExit, State.serving, not_serving_iff.1 idle, fault]
    rw [stays]
    exact after

theorem Held.followInputs (h : Held s) : Held (followInputs s) := by
  unfold Machine.followInputs
  dsimp only
  split
  · exact h.enterEmergency
  · split
    · exact h.leaveEmergency
    · exact h

theorem Held.takeEvac (station : Nat) (set : Bool) (h : Held s) : Held (takeEvac station set s) :=
  (h.same rfl rfl rfl rfl rfl : Held (s.modEmc _)).followInputs

theorem Held.takeContactFlag (station : Nat) (contact : Bool) (h : Held s) : Held (takeContactFlag station contact s) := by
  unfold Machine.takeContactFlag
  split
  · exact h
  · exact h.takeEvac station false

/-- What the parts of a change of the contacts keep, the whole keeps. -/
theorem changeContacts_keeps {P : State → Prop} {f : EmergencyControl → EmergencyControl} (changed : P (s.modEmc f))
    (counted : ∀ {u : State} (n : Nat), P u → P (u.setFreeCount n))
    (timed : ∀ {u : State} (refresh : Option Nat), P u → P (u.modEmc fun e => { e with refresh := refresh }))
    (sent : ∀ {u : State} (set : Bool), P u → P (handEvac set u)) (renewed : ∀ {u : State}, P u → P (renewRoll u))
    (followed : ∀ {u : State}, P u → P (followInputs u)) : P (changeContacts f s) := by
  unfold changeContacts alarmAsserted alarmReleased sendSet
  dsimp only
  split
  · exact changed
  · split
    · have numbered : P (if markWaits (s.modEmc f) = true then (s.modEmc f).setFreeCount ((s.modEmc f).freeCount + 1)
          else s.modEmc f) := by
        split
        · exact counted _ changed
        · exact changed
      refine renewed ?_
      generalize (if markWaits (s.modEmc f) = true then (s.modEmc f).setFreeCount ((s.modEmc f).freeCount + 1)
          else s.modEmc f) = u at numbered
      split
      · exact followed (sent _ (timed _ numbered))
      · exact sent _ (timed _ (followed numbered))
    · exact renewed (followed (sent _ (timed _ changed)))

theorem Held.changeContacts {f : EmergencyControl → EmergencyControl} (kept : ∀ e, (f e).emergency = e.emergency)
    (h : Held s) : Held (changeContacts f s) :=
  changeContacts_keeps (h.same rfl (kept _) rfl rfl rfl) (fun _ hu => hu.same rfl rfl rfl rfl rfl)
    (fun _ hu => hu.same rfl rfl rfl rfl rfl)
    (fun _ hu => hu.same (by simp) (by simp) (by simp) (by simp) (by simp))
    (fun hu => hu.same (by simp) (by simp) (by simp) (by simp) (by simp)) (fun hu => hu.followInputs)

end Held

end Sys2Proof.Machine
end

section
/-! PROOFS. What a solve trigger changes (R55, R57), and the laws of the station mode through every turn. -/

namespace Sys2Proof.Machine

/-! ### Solve triggers -/

/-- The solver is as it was, or has taken a solve trigger, which a delay station in RUN or CONFLICT does (R55, R57). -/
def Triggered (s t : State) : Prop :=
  t.solver = s.solver ∨
    s.serving = true ∧ s.stc.kind = some .delay ∧ ∃ left, t.solver = { s.solver with settle := some left }

section Triggered

variable {s t u : State}

theorem Triggered.of_eq (h : t.solver = s.solver) : Triggered s t := .inl h

theorem Triggered.trans (h : Triggered s t) (stc : t.stc = s.stc) (h' : Triggered t u) : Triggered s u := by
  have serving : t.serving = s.serving := by simp only [State.serving, stc]
  rcases h with h | ⟨serves, kind, left, h⟩ <;> rcases h' with h' | ⟨serves', kind', left', h'⟩
  · exact .inl (h'.trans h)
  · exact .inr ⟨serving ▸ serves', stc ▸ kind', left', by rw [h', h]⟩
  · exact .inr ⟨serves, kind, left, h'.trans h⟩
  · exact .inr ⟨serves, kind, left', by rw [h', h]⟩

theorem trigger_triggered (s : State) : Triggered s (trigger s) := by
  unfold trigger
  split
  · next taken => exact .inr ⟨taken.1, taken.2, _, rfl⟩
  · exact .inl rfl

/-- A trigger after a change of other blocks. -/
theorem Triggered.then_trigger (stc : t.stc = s.stc) (solver : t.solver = s.solver) : Triggered s (trigger t) :=
  (Triggered.of_eq solver).trans stc (trigger_triggered t)

theorem afterDetection_triggered (c : FlightChange) (stc : t.stc = s.stc) (solver : t.solver = s.solver) :
    Triggered s (afterDetection c t) := by
  unfold afterDetection
  dsimp only
  split
  · split
    · exact Triggered.then_trigger (by simpa using stc) (by simpa using solver)
    · exact Triggered.then_trigger stc solver
  · split
    · exact .inl (by simpa using solver)
    · exact .inl solver

theorem takePeerResult_triggered (station : Nat) (r : FlightResult) (s : State) :
    Triggered s (takePeerResult station r s) := by
  unfold takePeerResult
  split
  · exact .inl rfl
  · cases r with
    | miss => exact .inl rfl
    | detection flight => exact afterDetection_triggered _ rfl rfl

theorem takeSelfResult_triggered (r : FlightResult) (s : State) : Triggered s (takeSelfResult r s) := by
  cases r with
  | miss => exact .inl rfl
  | detection flight => exact afterDetection_triggered _ rfl rfl

theorem deliverResult_triggered (owner : Nat) (r : FlightResult) (s : State) :
    Triggered s (deliverResult owner r s) := by
  have counted : Triggered s (if r = .miss then bump .captureMisses s else s) ∧
      (if r = .miss then bump .captureMisses s else s).stc = s.stc := by
    split
    · exact ⟨.inl (by simp), by simp⟩
    · exact ⟨.inl rfl, rfl⟩
  unfold deliverResult
  generalize (if r = .miss then bump .captureMisses s else s) = u at counted
  dsimp only
  split
  · exact counted.1.trans counted.2 (takeSelfResult_triggered r u)
  · exact counted.1.trans counted.2 (takePeerResult_triggered owner r u)

theorem tableTakesAlign_triggered (station : Nat) (r : AlignRecord) (s : State) :
    Triggered s (tableTakesAlign station r s) := by
  unfold tableTakesAlign
  split
  · exact .inl rfl
  · split
    · unfold takeRecord
      dsimp only
      split
      · exact .inl rfl
      · refine Triggered.then_trigger ?_ ?_ <;> (repeat' split) <;> simp
    · exact .inl (by simp)

theorem becomeStale_triggered (i : Fin 16) (s : State) : Triggered s (becomeStale i s) := Triggered.then_trigger rfl rfl

theorem becomeLost_triggered (i : Fin 16) (s : State) : Triggered s (becomeLost i s) := Triggered.then_trigger rfl rfl

theorem releasePool_triggered (i : Fin 16) (s : State) : Triggered s (releasePool i s) := by
  unfold releasePool
  dsimp only
  split <;> exact Triggered.then_trigger rfl rfl

theorem ageEntry_triggered (i : Fin 16) (s : State) : Triggered s (ageEntry i s) := by
  have lost (u : State) : Triggered u (loseEntry i u) := by
    unfold loseEntry
    split
    · exact becomeLost_triggered i u
    · exact releasePool_triggered i u
    · exact .inl rfl
  unfold ageEntry
  dsimp only
  split
  · split
    · exact (becomeStale_triggered i _).imp id id
    · exact .inl rfl
  · split
    · exact (lost _).imp id id
    · exact .inl rfl
  · exact .inl rfl

theorem ageEntries_triggered (s : State) : Triggered s (ageEntries s) := by
  have all : ∀ (l : List (Fin 16)) (u : State),
      Triggered u (l.foldl (fun s i => ageEntry i s) u) := by
    intro l
    induction l with
    | nil => exact fun u => .inl rfl
    | cons i l ih => exact fun u => (ageEntry_triggered i u).trans (by simp) (ih _)
  exact all _ s

theorem setTemperature_triggered (temperature : Int) (s : State) : Triggered s (setTemperature temperature s) := by
  unfold setTemperature temperatureTrigger
  split
  · exact .inl rfl
  · split
    · split
      · exact Triggered.then_trigger rfl rfl
      · exact .inl rfl
    · exact .inl rfl

theorem Triggered.held (h : Triggered s t) (held : Held s) (stc : t.stc = s.stc) (emc : t.emc = s.emc)
    (channels : t.channels = s.channels) : Held t := by
  rcases h with solver | ⟨serving, -⟩
  · exact held.same (by rw [stc]) (by rw [emc]) (by rw [solver]) (by rw [solver]) channels
  · rw [held.idle] at serving
    cases serving

end Triggered

/-! ### Air data out of RUN and CONFLICT -/

section Held

variable {s t : State}

theorem Held.event {f : State → State} (h : Held (f s)) : Held (event f s) :=
  h.same (by simp) (by simp) (by simp) (by simp) (by simp)

theorem Held.setTemperature (temperature : Int) (h : Held s) : Held (setTemperature temperature s) :=
  (setTemperature_triggered temperature s).held h (by simp) (by simp) (by simp)

theorem Held.takeGoodReply (temperature : Int) (humidity : Nat) (h : Held s) :
    Held (takeGoodReply temperature humidity s) := by
  have warmed : Held (Machine.setTemperature temperature
      (s.modAir fun a => { a with state := .valid, humidity := some humidity, misses := 0 })) :=
    Held.setTemperature _ (h.same rfl rfl rfl rfl rfl)
  unfold Machine.takeGoodReply
  dsimp only
  split
  · exact warmed.setHumidityBand _
  · split
    · exact warmed
    · unfold testHumidityBand
      split
      · exact warmed
      · split
        · exact warmed
        · exact warmed.setHumidityBand _

theorem Held.takeAirMiss (h : Held s) : Held (takeAirMiss s) := by
  unfold Machine.takeAirMiss
  dsimp only
  split
  · exact Held.setHumidityBand _ (Held.setTemperature _ (h.same rfl rfl rfl rfl rfl))
  · exact h.same rfl rfl rfl rfl rfl

theorem Held.judgeRequest {f : State → State} (kept : ∀ {u}, Held u → Held (f u)) (h : Held s) :
    Held (judgeRequest f s) := by
  unfold Machine.judgeRequest
  split
  · exact kept (h.same rfl rfl rfl rfl rfl)
  · exact h

/-! ### The amplifier lines and timers out of RUN and CONFLICT -/

/-- An operation of Channel Power Control that a sleeping channel does not meet keeps the law. -/
theorem Held.guarded {f : State → State} (h : Held s) (loud : ∀ {u}, Held u → Loud u → Held (f u))
    (asleep : (∀ c : Fin 4, s.channels[c].power = .standby) → Held (f s)) : Held (f s) := by
  by_cases isLoud : Loud s
  · exact loud h isLoud
  · exact asleep (h.power isLoud)

theorem Held.setLine (h : Held s) (c : Fin 4) (ready faultLine : Bool) :
    Held (s.modChannel c fun ch => { ch with ready := ready, faultLine := faultLine }) :=
  h.mod c ⟨rfl, rfl, rfl, rfl, rfl⟩

/-- The amplifier commands: in a loud state by the changes of power states, else because every channel is asleep. -/
theorem exec_amplifier_held {c : Instr} (answer : exec c s = .next t) (h : Held s)
    (amplifier : match c with
      | .silenceTimerExpiry _ | .readyAsserted _ | .readyLost _ | .faultLineAsserted _ | .faultLineReleased _
      | .wakeTimerExpiry _ | .lostSample _ => True
      | _ => False) : Held t := by
  have lines {u : State} (hu : Held u) (loud : Loud u) (c : Fin 4) (ready faultLine : Bool) :
      Held (u.modChannel c fun ch => { ch with ready := ready, faultLine := faultLine }) ∧
        Loud (u.modChannel c fun ch => { ch with ready := ready, faultLine := faultLine }) :=
    ⟨hu.setLine c ready faultLine, loud⟩
  cases c
  case silenceTimerExpiry c =>
    cases answer
    refine (h.guarded (fun hu loud => ?_) fun asleep => ?_ :).event
    · split
      · exact (loud_powerStable.enterStandby c ⟨hu, loud⟩).1
      · exact hu
    · rw [asleep c]
      exact h
  case readyAsserted c =>
    cases answer
    refine (h.guarded (fun {u} hu loud => ?_) fun asleep => ?_ :).event
    · dsimp only
      split
      · exact (loud_powerStable.enterActive c (lines hu loud c true u.channels[c].faultLine)).1
      · exact hu.setLine c true u.channels[c].faultLine
    · dsimp only
      rw [modChannel_get_self, asleep c]
      exact h.setLine c true s.channels[c].faultLine
  case readyLost c =>
    cases answer
    refine (h.guarded (fun {u} hu loud => ?_) fun asleep => ?_ :).event
    · split
      · dsimp only
        split
        · exact (loud_powerStable c _ _ (by simp) (lines hu loud c false u.channels[c].faultLine)).1
        · exact hu.setLine c false u.channels[c].faultLine
      · exact hu
    · split
      · dsimp only
        rw [modChannel_get_self, asleep c]
        exact h.setLine c false s.channels[c].faultLine
      · exact h
  case faultLineAsserted c =>
    cases answer
    refine (h.guarded (fun {u} hu loud => ?_) fun asleep => ?_ :).event
    · split
      · exact hu
      · dsimp only
        split
        · exact (loud_powerStable c _ _ (by simp) (lines hu loud c u.channels[c].ready true)).1
        · exact hu.setLine c u.channels[c].ready true
    · split
      · exact h
      · dsimp only
        rw [modChannel_get_self, asleep c]
        exact h.setLine c s.channels[c].ready true
  case faultLineReleased c =>
    cases answer
    refine (h.guarded (fun {u} hu loud => ?_) fun asleep => ?_ :).event
    · split
      · dsimp only
        split
        · split
          · exact (loud_powerStable c _ _ (by simp) (lines hu loud c u.channels[c].ready false)).1
          · exact (loud_powerStable.enterWaking c (lines hu loud c u.channels[c].ready false)).1
        · exact hu.setLine c u.channels[c].ready false
      · exact hu
    · split
      · dsimp only
        rw [modChannel_get_self, asleep c]
        exact h.setLine c s.channels[c].ready false
      · exact h
  case wakeTimerExpiry c =>
    cases answer
    refine (h.guarded (fun hu loud => ?_) fun asleep => ?_ :).event
    · split
      · exact (loud_powerStable c _ _ (by simp) ⟨hu, loud⟩).1
      · exact hu
    · rw [asleep c]
      exact h
  case lostSample c =>
    cases answer
    refine Held.event ?_
    split
    · exact h.mod c ⟨rfl, rfl, rfl, rfl, rfl⟩
    · exact h
  all_goals exact amplifier.elim

/-! ### Programme samples out of RUN and CONFLICT -/

theorem Held.setJudgement (present : Bool) (h : Held s) : Held (setJudgement present s) := by
  unfold Machine.setJudgement
  split
  · exact h
  · have judged : Held (s.modLevel fun l => { l with present := present }) := h.same rfl rfl rfl rfl rfl
    rw [forChannels_id]
    · exact judged
    · intro c
      simp only [actOnSilence, judged.idle, Bool.not_false, if_true]

theorem Held.sampleChannel (c : Fin 4) (h : Held s) : Held (sampleChannel c s) :=
  h.congr (by simp) (by simp) (by simp) (by simp) fun d => sampleChannel_heldSame c d (h.flat d).2

theorem Held.takeSample (x microphone : Int) (h : Held s) : Held (takeSample x microphone s) := by
  have written : Held (writeSample x (judgeSample s x) (Machine.setJudgement (judgeSample s x) s)) :=
    (h.setJudgement (judgeSample s x)).same (by simp) (by simp) (by simp) (by simp) (by simp)
  have placed : Held (placeEmission (hearSample microphone
      (writeSample x (judgeSample s x) (Machine.setJudgement (judgeSample s x) s)))) :=
    written.same (by simp) (by simp) (by simp) (by simp) (by simp)
  have sampled := PowerStable.pass (fun c _ hu => Held.sampleChannel c hu) placed
  exact sampled.same (by simp [Machine.takeSample]) (by simp [Machine.takeSample]) (by simp [Machine.takeSample])
    (by simp [Machine.takeSample]) (by simp [Machine.takeSample])

/-! ### The other commands out of RUN and CONFLICT -/

/-- Every command that does not begin, load or fill the station keeps the law. -/
theorem exec_held {c : Instr} (single : isSingle c = true) (answer : exec c s = .next t) (h : Held s)
    (settle : s.solver.settle = none) (hold : s.solver.hold = .stopped)
    (other : match c with
      | .hardReset _ | .imageHeaderRead _ | .imageReadTimeout | .imageReadComplete _ | .claimTimerExpiry => False
      | _ => True) : Held t := by
  obtain ⟨notRun, -⟩ := h.mode
  cases c
  case align | roll | mark | evac | cue | waitTimerExpiry | query | restart | reply | duplicateFrame | interFrameGap =>
    cases single
  case hardReset | imageHeaderRead | imageReadTimeout | imageReadComplete | claimTimerExpiry => exact other.elim
  case silenceTimerExpiry | readyAsserted | readyLost | faultLineAsserted | faultLineReleased | wakeTimerExpiry
    | lostSample => exact exec_amplifier_held answer h trivial
  case probeTimerExpiry =>
    cases answer
    refine Held.event ?_
    split
    · rw [if_neg (by simp [startConditions, notRun])]
      exact h.same rfl rfl rfl rfl rfl
    · exact h
  case windowClose i =>
    cases answer
    refine Held.event ?_
    dsimp only
    split
    · split
      · exact h.same (by simp) (by simp) (by simp) (by simp) (by simp)
      · exact (deliverResult_triggered _ _ _).held (h.same (by simp) (by simp) (by simp) (by simp) (by simp)) (by simp)
          (by simp) (by simp)
    · exact h
  case secondTick =>
    cases answer
    exact ((ageEntries_triggered s).held h (by simp) (by simp) (by simp)).same (by simp) (by simp) (by simp) (by simp)
      (by simp)
  case entryStale i =>
    cases answer
    refine Held.event ?_
    split
    · exact (becomeStale_triggered i s).held h (by simp) (by simp) (by simp)
    · exact h
  case entryLost i =>
    cases answer
    refine Held.event ?_
    split
    · exact (becomeLost_triggered i s).held h (by simp) (by simp) (by simp)
    · exact h
  case poolRelease i =>
    cases answer
    refine Held.event ?_
    split
    · exact (releasePool_triggered i s).held h (by simp) (by simp) (by simp)
    · exact h
  case airReply r =>
    cases answer
    refine (h.judgeRequest fun hu => ?_).event
    split
    · exact hu.takeGoodReply _ _
    · exact hu.takeAirMiss
  case airReplyTimeout =>
    cases answer
    exact (h.judgeRequest fun hu => hu.takeAirMiss).event
  case settleExpiry =>
    cases answer
    refine Held.event ?_
    simp only [settle, Option.isSome_none, Bool.false_eq_true, if_false]
    exact h
  case holdTimerExpiry =>
    cases answer
    refine Held.event ?_
    simp only [hold, HoldTimer.isRunning, Bool.false_eq_true, if_false]
    exact h
  case slewComplete c =>
    cases answer
    refine Held.event ?_
    split
    · exact h.mod c (by simp [Channel.HeldSame])
    · exact h
  case crossfadeEnd c =>
    cases answer
    exact (h.mod c (by rw [endCrossfade_idle (h.flat c).2]; exact heldSame_refl _)).event
  case rampEnd c =>
    cases answer
    exact (h.mod c (by simp [Channel.HeldSame])).event
  case gateFadeEnd c =>
    cases answer
    exact (h.mod c ⟨rfl, rfl, rfl, rfl, rfl⟩).event
  case programmeJudgementChange present =>
    cases answer
    exact (h.setJudgement present).event
  case programmeSample x =>
    cases answer
    exact (h.takeSample _ _).event
  case debouncedContactAsserted =>
    cases answer
    refine Held.event ?_
    split
    · exact h.changeContacts fun _ => rfl
    · exact h
  case debouncedContactReleased =>
    cases answer
    refine Held.event ?_
    split
    · exact h.changeContacts fun _ => rfl
    · exact h
  case resetContactAsserted =>
    cases answer
    refine Held.event ?_
    split
    · exact h.changeContacts fun _ => rfl
    · exact h
  case resetContactReleased =>
    cases answer
    refine Held.event ?_
    split
    · exact h.changeContacts fun _ => rfl
    · exact h
  case evacRefreshExpiry =>
    cases answer
    refine Held.event ?_
    split
    · exact h.same (by simp) (by simp [sendSet]) (by simp) (by simp) (by simp)
    · exact h
  all_goals
    cases answer
    refine h.same ?_ ?_ ?_ ?_ ?_
    all_goals
      try simp only [event_frame, event_solver_frame]
      try ((repeat' split) <;> simp)

/-! ### Resets, CONFIG_FAULT and ANNOUNCE -/

theorem Held.formTargets (h : Held s) (mode : s.stc.mode = .announce ∨ s.stc.mode = .configFault) :
    Held (formTargets s) := by
  refine ⟨by simpa [State.serving] using h.idle, by simpa using h.delay, by simpa using h.path,
    EachChannel.formTargets (fun c flat => by simpa [Channel.Flat] using flat) h.flat, fun notAnnounce c => ?_, fun quiet =>
    EachChannel.formTargets (fun c asleep => by simpa [Channel.Asleep] using asleep) (h.asleep (by simpa using quiet))⟩
  have fault : s.stc.mode = .configFault := mode.resolve_left (by simpa using notAnnounce)
  show (Machine.formTargets s).channels[c].target = 0
  rw [formTargets_get, takeTarget_target, formedTarget, if_pos fault]

theorem Held.handRoll (h : Held s) : Held (handRoll s) :=
  h.same (by simp) (by simp) (by simp) (by simp) (by simp)

theorem enterConfigFault_held (reason : FaultReason) (flat : EachChannel Channel.Flat s)
    (asleep : EachChannel Channel.Asleep s) (zero : EachChannel (·.target = 0) s) : Held (enterConfigFault reason s) := by
  have entered : Held ((faultStartup reason s).modSolver fun _ => Solver.reset) :=
    ⟨rfl, rfl, rfl, flat, fun _ => zero, fun _ => asleep⟩
  have settled := (entered.formTargets (.inr rfl)).requestAll.retargetAll
  unfold enterConfigFault
  dsimp only
  refine Held.handRoll ?_
  split
  · next emergency =>
    refine (PowerStable.pass (P := fun s => Held s ∧ Loud s) (fun c _ => loud_powerStable.enterWaking c)
      ⟨settled, ?_, ?_⟩).1
    · simp [forChannels, faultStartup]
    · simpa only [State.inEmergency] using emergency
  · exact settled

theorem resetState_channel (straps : Straps) (s : State) (c : Fin 4) :
    (resetState straps s).channels[c] = Channel.reset s.channels[c].ready s.channels[c].faultLine :=
  mapVector_get _ _ c

theorem resetState_held (straps : Straps) (s : State) : Held (resetState straps s) := by
  have channel := resetState_channel straps s
  refine ⟨rfl, rfl, rfl, fun c => ?_, fun _ c => ?_, fun _ c => ?_⟩
  · rw [channel]
    exact ⟨rfl, rfl⟩
  · rw [channel]
    rfl
  · rw [channel]
    exact ⟨rfl, rfl⟩

theorem beginLoading_held (h : Held s) (mode : s.stc.mode = .loading) : Held (beginLoading s) := by
  unfold beginLoading
  split
  · exact h.same mode.symm rfl rfl rfl rfl
  · exact enterConfigFault_held _ h.flat (h.asleep (by simp [mode])) (h.target (by simp [mode]))

theorem warmRestart_held (straps : Straps) (s : State) : Held (warmRestart straps s) :=
  beginLoading_held ((resetState_held straps s).same rfl rfl rfl rfl rfl) rfl

theorem Held.enterAnnounce (img : Image) (h : Held s) (mode : s.stc.mode = .loading) : Held (enterAnnounce img s) := by
  have filled : Held ((((((s.setImage (some img)).setPeers
      (tabulate 16 fun i => installEntry img.bindings[i] s.stc.kept[i])).modAir
        fun a => { a with temperature := img.defaultTemp }).modSolver fun v => { v with offset := img.offset }).modCue
          fun e => { e with memory := Cells.ofList 0#8 0 img.cueBytes })) := h.same rfl rfl rfl rfl rfl
  have stored := PowerStable.pass (f := fun c s => s.modChannel c (installChannel img c))
    (fun c _ hu => Held.mod hu c ⟨rfl, rfl, rfl, rfl, rfl⟩) filled
  have installed : Held (installImage img s) :=
    Held.refreshShelf (stored.same (t := State.modEq _ _) rfl rfl rfl rfl rfl)
  have loading : (installImage img s).stc.mode = .loading := by simp [mode]
  refine (Held.formTargets (s := (installImage img s).modStc _) ?_ (.inl rfl)).handRoll
  exact ⟨rfl, installed.delay, installed.path, installed.flat, fun notAnnounce => absurd rfl notAnnounce,
    fun _ => installed.asleep fun fault => by rw [loading] at fault; cases fault⟩

/-! ### Duplicate numbers out of RUN and CONFLICT -/

theorem contest_heldLaw (b : RollBody) (h : Held s) : HeldLaw (contest b s) := by
  unfold contest recordDuplicate
  dsimp only
  split
  · exact (h.same (by simp) (by simp) (by simp) (by simp) (by simp) : Held (handRollUnlessWaiting _)).law
  · split
    · exact h.law
    · split
      · exact heldLaw_of_serving (by simp [State.serving])
      · exact (h.same (by simp) (by simp) (by simp) (by simp) (by simp) : Held (handRoll _)).law

theorem takeDuplicate_heldLaw (roll : Option RollBody) (h : Held s) : HeldLaw (takeDuplicate roll s) := by
  have counted : Held (s.modStc fun c => { c with duplicates := satInc c.duplicates }) := h.same rfl rfl rfl rfl rfl
  unfold takeDuplicate
  split
  · dsimp only
    split
    · exact (counted.same (by simp) (by simp) (by simp) (by simp) (by simp) : Held (handRollUnlessWaiting _)).law
    · exact contest_heldLaw _ counted
  · exact h.law

end Held

/-! ### The law of the station mode through every turn -/

theorem HeldLaw.event {f : State → State} {s : State} (h : HeldLaw (f s)) : HeldLaw (event f s) := by
  simpa [HeldLaw, State.serving] using h

theorem exec_heldLaw {c : Instr} {s t : State} (single : isSingle c = true) (answer : exec c s = .next t) (h : Lawful s) :
    HeldLaw t := by
  have loading (mode : s.stc.mode = .loading) : Held s := h.isHeld (by simp [State.serving, mode])
  have fault (reason : FaultReason) (mode : s.stc.mode = .loading) : HeldLaw (enterConfigFault reason s) :=
    (enterConfigFault_held reason (loading mode).flat ((loading mode).asleep (by simp [mode]))
      ((loading mode).target (by simp [mode]))).law
  cases c
  case hardReset straps =>
    cases answer
    exact (beginLoading_held (resetState_held straps s) rfl).law
  case imageHeaderRead header =>
    cases answer
    split
    · next mode _ =>
      split
      · exact h.held
      · dsimp only
        split
        · exact ((loading mode).same rfl rfl rfl rfl rfl : Held (s.modStc _)).law
        · exact fault _ mode
    · exact h.held
  case imageReadTimeout =>
    cases answer
    split
    · next mode _ => exact fault _ mode
    · next mode _ => exact fault _ mode
    · exact h.held
  case imageReadComplete rest =>
    cases answer
    split
    · next mode _ =>
      dsimp only
      split
      · exact h.held
      · split
        · exact fault _ mode
        · exact ((loading mode).enterAnnounce _ mode).law
    · exact h.held
  case claimTimerExpiry =>
    cases answer
    split
    · exact heldLaw_of_serving (by simp [State.serving])
    · exact h.held
  all_goals
    obtain ⟨stc, -⟩ := exec_stc single answer trivial
    cases serves : s.serving
    case true => exact heldLaw_of_serving (by simpa only [State.serving, stc] using serves)
    case false =>
      obtain ⟨rank, -, -⟩ := h.rank
      rw [if_neg (by simp [serves])] at rank
      obtain ⟨-, -, settle, hold⟩ := rank
      exact (exec_held single answer (h.isHeld serves) settle hold trivial).law

theorem turn_keeps_heldLaw {s t : State} (turn : Turn s t) (h : Lawful s) : HeldLaw t := by
  cases serves : s.serving
  case true =>
    have kept {t : State} (stc : t.stc.mode = s.stc.mode) : HeldLaw t :=
      heldLaw_of_serving (by simpa only [State.serving, stc] using serves)
    cases turn with
    | duplicate roll =>
      refine HeldLaw.event (heldLaw_of_serving ?_)
      unfold takeDuplicate contest recordDuplicate
      dsimp only
      rw [serving_iff] at serves ⊢
      repeat' split
      all_goals simp_all
    | @handed f _ stamp straps burst station other noCue =>
      obtain ⟨src, dst, body⟩ := f
      cases body
      case cue => exact absurd noCue Bool.false_ne_true
      case restart unit =>
        refine HeldLaw.event ?_
        unfold takeRestart
        split
        · exact h.held
        · split
          · exact kept (by simp)
          · exact (warmRestart_held straps s).law
      all_goals exact kept (by simp [dispatch])
    | command single answer => exact exec_heldLaw single answer h
    | _ => exact kept (by simp [gapTaken])
  case false =>
    have held := h.isHeld serves
    cases turn with
    | pass =>
      exact (held.congr rfl rfl rfl rfl fun c => by
        rw [show (tick s).channels[c] = s.channels[c].tick from mapVector_get _ _ c]
        exact ⟨rfl, rfl, rfl, rfl, rfl⟩ : Held (tick s)).law
    | act =>
      obtain ⟨-, -, -, lists⟩ := h.calm
      have idle : s.cue.list = .idle := by
        by_contra running
        exact absurd (lists running) (by simp [serves])
      refine HeldLaw.event ?_
      simp only [takeAction, idle]
      exact h.held
    | duplicate roll => exact (takeDuplicate_heldLaw roll held).event
    | @handed f _ stamp straps burst station other noCue =>
      obtain ⟨src, dst, body⟩ := f
      cases body
      case cue => exact absurd noCue Bool.false_ne_true
      case align r =>
        have taken : Held (tableTakesAlign src r s) :=
          (tableTakesAlign_triggered src r s).held held (by simp) (by simp) (by simp)
        exact HeldLaw.event (f := fun s => takeContactFlag src r.flags.contact (tableTakesAlign src r s))
          (taken.takeContactFlag src r.flags.contact).law
      case roll b => exact (held.takeContactFlag src b.contact).law.event
      case evac set => exact (held.takeEvac src set).law.event
      case restart unit =>
        refine HeldLaw.event ?_
        unfold takeRestart
        split
        · exact h.held
        · split
          · exact (held.same (by simp) (by simp) (by simp) (by simp) (by simp) : Held (bump _ s)).law
          · exact (warmRestart_held straps s).law
      all_goals
        exact (held.same (by simp [dispatch]) (by simp [dispatch]) (by simp [dispatch]) (by simp [dispatch])
          (by simp [dispatch]) : Held _).law
    | command single answer => exact exec_heldLaw single answer h
    | _ =>
      exact (held.same (by simp [gapTaken]) (by simp [gapTaken]) (by simp [gapTaken]) (by simp [gapTaken])
        (by simp [gapTaken]) : Held _).law

end Sys2Proof.Machine
end

section
/-! PROOFS. The laws of one channel (R85, R89, R99, R102, R111) through everything that changes a channel. -/

namespace Sys2Proof.Machine

/-- The laws of one channel: its applied delay, its equaliser and gain, its power state. -/
structure ChannelLaws (ch : Channel) : Prop where
  delay : ChannelDelayLaw ch
  eqs : ChannelEqLaw ch
  power : ChannelPowerLaw ch

variable {ch : Channel}

theorem reset_channelLaws (ready faultLine : Bool) : ChannelLaws (Channel.reset ready faultLine) := by
  constructor
  · simp [ChannelDelayLaw, Channel.reset]
  · simp [ChannelEqLaw, Channel.reset]
  · simp [ChannelPowerLaw, Channel.reset, Power.enabled]

/-! ### The Delay Engine (R78 to R81) -/

theorem ChannelLaws.takeTarget (h : ChannelLaws ch) {t : Nat} (le : t ≤ 65280) : ChannelLaws (ch.takeTarget t) := by
  obtain ⟨⟨target, applied, settled, up, down, silent⟩, eqs, power⟩ := h
  unfold Channel.takeTarget
  split
  · exact ⟨⟨target, applied, settled, up, down, silent⟩, eqs, power⟩
  · split
    · next sounding =>
      refine ⟨⟨le, applied, ?_, ?_, ?_, ?_⟩, eqs, power⟩
      · dsimp only
        split
        · next same => exact fun _ => same
        · split <;> (intro h; cases h)
      · dsimp only
        split
        · intro h; cases h
        · split
          · next less => exact fun _ => less
          · intro h; cases h
      · dsimp only
        split
        · intro h; cases h
        · split
          · intro h; cases h
          · intro _; omega
      · intro asleep
        simp_all
    · exact ⟨⟨le, Nat.mul_le_mul_right _ le, fun _ => rfl, (by intro h; cases h), (by intro h; cases h), fun _ => rfl⟩, eqs, power⟩

theorem slewOnce_delayLaw (step : Nat) (h : ChannelDelayLaw ch) : ChannelDelayLaw (ch.slewOnce step) := by
  obtain ⟨target, applied, settled, up, down, silent⟩ := h
  unfold Channel.slewOnce
  split
  · exact ⟨target, applied, settled, up, down, silent⟩
  · next slewing =>
    have below := up slewing
    refine ⟨target, ?_, ?_, ?_, ?_, fun asleep => absurd (silent asleep) (by simp [slewing])⟩
    all_goals dsimp only
    · omega
    all_goals split <;> simp_all
  · next slewing =>
    have above := down slewing
    refine ⟨target, ?_, ?_, ?_, ?_, fun asleep => absurd (silent asleep) (by simp [slewing])⟩
    all_goals dsimp only
    · omega
    all_goals split <;> simp_all

/-- A slew step changes the applied delay and the slew state alone. -/
theorem slewOnce_same (step : Nat) (ch : Channel) :
    ch.slewOnce step = { ch with applied := (ch.slewOnce step).applied, slew := (ch.slewOnce step).slew } := by
  unfold Channel.slewOnce
  split <;> rfl

theorem ChannelLaws.slewOnce (h : ChannelLaws ch) (step : Nat) : ChannelLaws (ch.slewOnce step) := by
  refine ⟨slewOnce_delayLaw step h.delay, ?_, ?_⟩
  · rw [slewOnce_same]
    exact h.eqs
  · rw [slewOnce_same]
    exact h.power

/-! ### The equaliser and gain (R95 to R102) -/

theorem ChannelLaws.request (h : ChannelLaws ch) (w : Setting) : ChannelLaws (ch.request w) := by
  obtain ⟨delay, ⟨idle, position, ramp, factor, silent, preset, gain⟩, power⟩ := h
  unfold Channel.request
  split
  · next running =>
    exact ⟨delay, ⟨fun none => absurd none (by simp [running]), position, ramp, factor, silent, preset, gain⟩, power⟩
  · next none =>
    split
    · exact ⟨delay, ⟨idle, position, ramp, factor, silent, preset, gain⟩, power⟩
    · split
      · next sounding =>
        refine ⟨delay, ⟨(by intro h; cases h), ?_, ramp, factor, fun asleep => ?_, preset, gain⟩, power⟩
        · intro a b k running
          cases running
          omega
        · rw [sounding] at asleep
          cases asleep
      · exact ⟨delay, ⟨idle, position, ramp, factor, silent, preset, gain⟩, power⟩

/-- A channel whose crossfade has ended at a setting. -/
theorem ChannelLaws.crossfaded (h : ChannelLaws ch) (w : Setting) (stages : StageMemories) :
    ChannelLaws
      { ch with active := w, crossfade := .idle, waiting := none, stages := stages, nextStages := StageMemories.silent } := by
  obtain ⟨delay, ⟨-, -, ramp, factor, silent, preset, gain⟩, power⟩ := h
  exact ⟨delay, ⟨fun _ => ⟨rfl, rfl⟩, (by intro _ _ _ h; cases h), ramp, factor, fun asleep => ⟨rfl, (silent asleep).2⟩,
    preset, gain⟩, power⟩

theorem ChannelLaws.endCrossfade (h : ChannelLaws ch) : ChannelLaws ch.endCrossfade := by
  unfold Channel.endCrossfade
  split
  · exact h
  · dsimp only
    split
    · exact (h.crossfaded _ _).request _
    · exact h.crossfaded _ _

theorem ChannelLaws.retarget (h : ChannelLaws ch) (g : GainTarget) : ChannelLaws (ch.retarget g) := by
  obtain ⟨delay, ⟨idle, position, ramp, factor, silent, preset, gain⟩, power⟩ := h
  unfold Channel.retarget
  split
  · exact ⟨delay, ⟨idle, position, ramp, factor, silent, preset, gain⟩, power⟩
  · split
    · next sounding =>
      refine ⟨delay, ⟨idle, position, ?_, (by intro h; cases h), fun asleep => ?_, preset, gain⟩, power⟩
      · intro f k running
        cases running
        omega
      · rw [sounding] at asleep
        cases asleep
    · exact ⟨delay, ⟨idle, position, (by intro _ _ h; cases h), fun _ => rfl, fun asleep => ⟨(silent asleep).1, rfl⟩,
        preset, gain⟩, power⟩

theorem ChannelLaws.completeRamp (h : ChannelLaws ch) : ChannelLaws ch.completeRamp := by
  obtain ⟨delay, ⟨idle, position, ramp, factor, silent, preset, gain⟩, power⟩ := h
  unfold Channel.completeRamp
  split
  · exact ⟨delay, ⟨idle, position, ramp, factor, silent, preset, gain⟩, power⟩
  · exact ⟨delay, ⟨idle, position, (by intro _ _ h; cases h), fun _ => rfl, fun asleep => ⟨(silent asleep).1, rfl⟩,
      preset, gain⟩, power⟩

theorem ChannelLaws.stepRamp (h : ChannelLaws ch) : ChannelLaws ch.stepRamp := by
  unfold Channel.stepRamp
  split
  · exact h
  · next start k running =>
    split
    · exact h.completeRamp
    · obtain ⟨delay, ⟨idle, position, ramp, factor, silent, preset, gain⟩, power⟩ := h
      refine ⟨delay, ⟨idle, position, ?_, (by intro h; cases h), fun asleep => ?_, preset, gain⟩, power⟩
      · intro f j further
        cases further
        omega
      · rw [(silent asleep).2] at running
        cases running

/-- The chain's work on one sample changes what it puts out and the memories of the copies that run. -/
theorem ChannelLaws.equalise (h : ChannelLaws ch) (s : State) (c : Fin 4) (x : Int) : ChannelLaws (equalise s c x ch) := by
  obtain ⟨delay, ⟨idle, position, ramp, factor, silent, preset, gain⟩, power⟩ := h
  unfold Machine.equalise
  split
  · exact ⟨delay, ⟨idle, position, ramp, factor, silent, preset, gain⟩, power⟩
  · next running =>
    exact ⟨delay, ⟨fun none => absurd none (by simp [running]), position, ramp, factor, silent, preset, gain⟩, power⟩

theorem ChannelLaws.stepCrossfade (h : ChannelLaws ch) : ChannelLaws ch.stepCrossfade := by
  unfold Channel.stepCrossfade
  split
  · exact h
  · next src dst k running =>
    split
    · exact h.endCrossfade
    · obtain ⟨delay, ⟨idle, position, ramp, factor, silent, preset, gain⟩, power⟩ := h
      refine ⟨delay, ⟨(by intro h; cases h), ?_, ramp, factor, fun asleep => ?_, preset, gain⟩, power⟩
      · intro a b j further
        cases further
        omega
      · rw [(silent asleep).1] at running
        cases running

/-- The stored gain, the stored mute and the preset of a channel take values within their ranges (R100, R149, R150). -/
theorem ChannelLaws.store (h : ChannelLaws ch) {gain preset : Nat} (mute : Bool) (gainLe : gain ≤ 184) (presetLe : preset ≤ 3) :
    ChannelLaws { ch with storedGain := gain, storedMute := mute, preset := preset } := by
  obtain ⟨delay, ⟨idle, position, ramp, factor, silent, -, -⟩, power⟩ := h
  exact ⟨delay, ⟨idle, position, ramp, factor, silent, presetLe, gainLe⟩, power⟩

/-! ### Power (R111) -/

theorem completeSlew_delayLaw (h : ChannelDelayLaw ch) : ChannelDelayLaw ch.completeSlew ∧ ch.completeSlew.slew = .settled := by
  unfold Channel.completeSlew
  split
  · next settled => exact ⟨h, settled⟩
  · exact ⟨⟨h.1, Nat.mul_le_mul_right _ h.1, fun _ => rfl, (by intro h; cases h), (by intro h; cases h), fun _ => rfl⟩, rfl⟩

theorem ChannelLaws.completeSlew (h : ChannelLaws ch) : ChannelLaws ch.completeSlew := by
  refine ⟨(completeSlew_delayLaw h.delay).1, ?_, ?_⟩
  all_goals unfold Channel.completeSlew
  · split
    · exact h.eqs
    · exact h.eqs
  · split
    · exact h.power
    · exact h.power

theorem ChannelLaws.completeCrossfade (h : ChannelLaws ch) : ChannelLaws ch.completeCrossfade := by
  unfold Channel.completeCrossfade
  split
  · exact h
  · exact h.crossfaded _ _

theorem completeCrossfade_slew (ch : Channel) : ch.completeCrossfade.slew = ch.slew := by
  unfold Channel.completeCrossfade
  split <;> rfl

theorem completeRamp_slew (ch : Channel) : ch.completeRamp.slew = ch.slew := by
  unfold Channel.completeRamp
  split <;> rfl

theorem completeRamp_ramp (ch : Channel) : ch.completeRamp.ramp = .idle := by
  unfold Channel.completeRamp
  split
  · next idle => exact idle
  · rfl

/-- What a channel on its way into a silent state completes leaves nothing running. -/
theorem ChannelLaws.silenced (h : ChannelLaws ch) :
    ChannelLaws ch.silenced ∧ ch.silenced.slew = .settled ∧ ch.silenced.crossfade = .idle ∧ ch.silenced.ramp = .idle := by
  refine ⟨h.completeSlew.completeCrossfade.completeRamp, ?_, ?_, completeRamp_ramp _⟩
  · rw [Channel.silenced, completeRamp_slew, completeCrossfade_slew]
    exact (completeSlew_delayLaw h.delay).2
  · simp

/-- The laws stand over the power state alone where nothing runs. -/
theorem ChannelLaws.repower (h : ChannelLaws ch) {p : Power}
    (still : p.sounding = false → ch.slew = .settled ∧ ch.crossfade = .idle ∧ ch.ramp = .idle) {cause : Option FaultCause}
    {silence wake fade : Option Nat} {lost : Bool} (causeIff : cause.isSome = true ↔ p = .fault)
    (silenceIff : silence.isSome = true ↔ p = .watch) (wakeIff : wake.isSome = true ↔ p = .waking)
    (fadeLt : ∀ k, fade = some k → k < 48 ∧ p.gateOpen = true) (lostWaking : lost = true → p = .waking) :
    ChannelLaws
      { ch with
        power := p, cause := cause, enable := p.enabled, silence := silence, wake := wake, fade := fade, wakeLoss := lost } := by
  obtain ⟨⟨target, applied, settled, up, down, -⟩, ⟨idle, position, ramp, factor, -, preset, gain⟩, -⟩ := h
  exact ⟨⟨target, applied, settled, up, down, fun asleep => (still asleep).1⟩,
    ⟨idle, position, ramp, factor, fun asleep => (still asleep).2, preset, gain⟩,
    ⟨rfl, silenceIff, wakeIff, causeIff, fadeLt, lostWaking⟩⟩

theorem ChannelLaws.toPower (h : ChannelLaws ch) {p : Power} {cause : Option FaultCause}
    (hasCause : p = .fault → cause.isSome = true) (standbyDelay wakeLimit : Nat) :
    ChannelLaws (ch.toPower p cause standbyDelay wakeLimit) := by
  obtain ⟨-, -, -, -, fades, lost⟩ := h.power
  have causeIff : (if p = .fault then cause else none).isSome = true ↔ p = .fault := by
    split <;> simp_all
  have silenceIff : (if p = .watch then some standbyDelay else none).isSome = true ↔ p = .watch := by
    split <;> simp_all
  have wakeIff : (if p = .waking then some wakeLimit else none).isSome = true ↔ p = .waking := by
    split <;> simp_all
  have fadeLt : ∀ k, (if p.gateOpen then (if ch.power = .waking then some 0 else ch.fade) else none) = some k →
      k < 48 ∧ p.gateOpen = true := by
    intro k fading
    split at fading
    · next gate =>
      split at fading
      · cases fading
        exact ⟨by omega, gate⟩
      · exact ⟨(fades k fading).1, gate⟩
    · cases fading
  have lostWaking : (if ch.power = .waking then false else ch.wakeLoss) = true → p = .waking := by
    split
    · intro h; cases h
    · next awake => exact fun marked => absurd (lost marked) awake
  unfold Channel.toPower
  dsimp only
  split
  · obtain ⟨quiet, still⟩ := h.silenced
    exact quiet.repower (fun _ => still) causeIff silenceIff wakeIff fadeLt lostWaking
  · next kept =>
    refine h.repower (fun asleep => ?_) causeIff silenceIff wakeIff fadeLt lostWaking
    have silent : ch.power.sounding = false := by simpa [asleep] using kept
    exact ⟨h.delay.2.2.2.2.2 silent, h.eqs.2.2.2.2.1 silent⟩

/-- The laws do not speak of the lines and the FORCED_OFF flag. -/
theorem ChannelLaws.lines (h : ChannelLaws ch) (forcedOff ready faultLine : Bool) :
    ChannelLaws { ch with forcedOff := forcedOff, ready := ready, faultLine := faultLine } :=
  ⟨h.delay, h.eqs, h.power⟩

theorem ChannelLaws.faded (h : ChannelLaws ch) : ChannelLaws { ch with fade := none } := by
  obtain ⟨delay, eqs, enable, silence, wake, cause, -, lost⟩ := h
  exact ⟨delay, eqs, enable, silence, wake, cause, (by intro _ h; cases h), lost⟩

theorem ChannelLaws.stepFade (h : ChannelLaws ch) : ChannelLaws ch.stepFade := by
  obtain ⟨delay, eqs, enable, silence, wake, cause, fades, lost⟩ := h
  refine ⟨delay, eqs, enable, silence, wake, cause, ?_, lost⟩
  intro k fading
  obtain ⟨j, fade, next⟩ := Option.bind_eq_some_iff.1 fading
  split at next
  · cases next
  · cases next
    exact ⟨by omega, (fades j fade).2⟩

theorem ChannelLaws.loses (h : ChannelLaws ch) {lost : Bool} (waking : lost = true → ch.power = .waking) (out : Output) :
    ChannelLaws { ch with output := out, wakeLoss := lost } := by
  obtain ⟨delay, eqs, enable, silence, wake, cause, fades, -⟩ := h
  exact ⟨delay, eqs, enable, silence, wake, cause, fades, waking⟩

theorem ChannelLaws.tick (h : ChannelLaws ch) : ChannelLaws ch.tick := by
  obtain ⟨delay, eqs, enable, silence, wake, cause, fades, lost⟩ := h
  exact ⟨delay, eqs, enable, by simpa [Channel.tick, tickTimer] using silence, by simpa [Channel.tick, tickTimer] using wake,
    cause, fades, lost⟩

end Sys2Proof.Machine
end

section
/-! PROOFS. What keeps a property of states through the events: a property that the single changes of a station keep is
kept by the events made of them, so that each law is shown once for the single changes. -/

namespace Sys2Proof.Machine

/-! ### Cue actions as they are decoded (R146, R147) -/

/-- The value of an action lies in its range, as decoding has checked (R146). -/
def Action.inRange : Action → Prop
  | .offset v => v ≤ 60
  | .wait v => 1 ≤ v ∧ v ≤ 250
  | .gain _ v => v ≤ 184
  | .preset _ v => v ≤ 3
  | _ => True

theorem rangedValue_ok {params : List Byte} {field : Byte} {lo hi v : Nat} (h : rangedValue params field lo hi = .ok v) :
    lo ≤ v ∧ v ≤ hi := by
  unfold rangedValue at h
  split at h
  · cases h
  · split at h
    · next within =>
      cases h
      exact within
    · cases h

theorem setAction_ok {mk : BitVec 4 → Action} {b : Byte} {a : Action} (h : setAction mk b = .ok a) : ∃ set, a = mk set := by
  unfold setAction at h
  split at h <;> cases h
  exact ⟨_, rfl⟩

theorem valueAction_ok {mk : Nat → Action} {params : List Byte} {field : Byte} {lo hi : Nat} {a : Action}
    (h : valueAction mk params field lo hi = .ok a) : ∃ v, a = mk v ∧ lo ≤ v ∧ v ≤ hi := by
  unfold valueAction at h
  split at h <;> cases h
  next ranged => exact ⟨_, rfl, rangedValue_ok ranged⟩

theorem setValueAction_ok {mk : BitVec 4 → Nat → Action} {b : Byte} {params : List Byte} {field : Byte} {hi : Nat}
    {a : Action} (h : setValueAction mk b params field hi = .ok a) : ∃ set v, a = mk set v ∧ v ≤ hi := by
  unfold setValueAction at h
  split at h <;> cases h
  next ranged _ => exact ⟨_, _, rfl, (rangedValue_ok ranged).2⟩

theorem kindLength_of_ok {mem : Nat → Byte} {params : List Byte} {position : Nat} {a : Action}
    (h : decodeAction mem params position = .ok a) : ∃ len, kindLength (mem position) = some len ∧ position + len ≤ 512 := by
  unfold decodeAction at h
  split at h
  · cases h
  · split at h
    · cases h
    · next len known =>
      split at h
      · cases h
      · exact ⟨len, known, by omega⟩

/-- A decoded action lies within cue memory, and its value within its range. -/
theorem decodeAction_ok {mem : Nat → Byte} {params : List Byte} {position : Nat} {a : Action}
    (h : decodeAction mem params position = .ok a) : a.inRange ∧ position + a.length ≤ 512 := by
  obtain ⟨len, known, within⟩ := kindLength_of_ok h
  unfold decodeAction at h
  rw [if_neg (by unfold kindLength at known; split at known <;> cases known <;> omega), known] at h
  dsimp only at h
  rw [if_neg (by omega)] at h
  unfold kindLength at known
  split at h
  case h_13 => cases h
  all_goals
    rename_i kind
    simp only [kind, Option.some.injEq] at known
    subst known
  case h_1 | h_2 | h_3 | h_4 =>
    cases h
    exact ⟨trivial, within⟩
  case h_5 | h_6 | h_7 | h_8 =>
    obtain ⟨set, rfl⟩ := setAction_ok h
    exact ⟨trivial, within⟩
  case h_9 =>
    obtain ⟨v, rfl, -, le⟩ := valueAction_ok h
    exact ⟨le, within⟩
  case h_10 =>
    obtain ⟨v, rfl, bounds⟩ := valueAction_ok h
    exact ⟨bounds, within⟩
  case h_11 | h_12 =>
    obtain ⟨set, v, rfl, le⟩ := setValueAction_ok h
    exact ⟨le, within⟩

/-! ### Properties that the single changes keep -/

/-- What a request leaves alone. -/
@[simp] theorem request_frame (w : Setting) (ch : Channel) :
    (ch.request w).power = ch.power ∧ (ch.request w).target = ch.target ∧ (ch.request w).gainTarget = ch.gainTarget ∧
    (ch.request w).applied = ch.applied ∧ (ch.request w).output = ch.output := by
  unfold Channel.request
  repeat' split
  all_goals exact ⟨rfl, rfl, rfl, rfl, rfl⟩

@[simp] theorem endCrossfade_frame (ch : Channel) :
    ch.endCrossfade.power = ch.power ∧ ch.endCrossfade.target = ch.target ∧
    ch.endCrossfade.gainTarget = ch.gainTarget ∧ ch.endCrossfade.applied = ch.applied ∧
    ch.endCrossfade.output = ch.output := by
  unfold Channel.endCrossfade
  dsimp only
  repeat' split
  all_goals simp

/-- A property that every change of a power state keeps, every change of a channel that leaves its power state, its target
and its output,
every counter, frame, trigger, and every change of the table, the air data, the bands and the level detector. -/
structure Stable (P : State → Prop) : Prop where
  power : PowerStable P
  channel : ∀ {s : State} (c : Fin 4) {f : Channel → Channel}, (f s.channels[c]).power = s.channels[c].power →
    (f s.channels[c]).target = s.channels[c].target ∧ (f s.channels[c]).output = s.channels[c].output →
    (ChannelLaws s.channels[c] → ChannelLaws (f s.channels[c])) → P s → P (s.modChannel c f)
  bumped : ∀ {s : State} (n : Nat) (k : Counter), P s → P (bumpBy n k s)
  handed : ∀ {s : State} {f : Frame}, f.body.isMark = false → f.body.isAlign = false → P s → P (handFrame f s)
  aligned : ∀ {s : State}, s.stc.mode = .run → P s → P (handAlign s)
  triggered : ∀ {s : State}, P s → P (trigger s)
  tabled : ∀ {s : State} (peers : Vector PeerEntry 16) (self : FlightRecord) (air : Air), P s →
    P { s with peers := peers, selfRec := self, air := air }
  banded : ∀ {s : State} (eq : EqStation) (level : LevelDetector), P s → P { s with eq := eq, level := level }
  discarded : ∀ {s : State} (station : Nat), P s →
    P (s.modProbe fun p => { p with slots := mapVector (Slot.discardFor station) p.slots })

namespace Stable

variable {P : State → Prop} (stable : Stable P) {s : State}

include stable

theorem event {f : State → State} (h : P (f s)) : P (event f s) := by
  unfold Machine.event finishEvent
  split
  · next run => exact stable.aligned run.2.1 h
  · exact h

theorem bump (k : Counter) (h : P s) : P (bump k s) := stable.bumped 1 k h

theorem modPeer (i : Fin 16) (f : PeerEntry → PeerEntry) (h : P s) : P (s.modPeer i f) := stable.tabled _ _ _ h

theorem modSelf (f : FlightRecord → FlightRecord) (h : P s) : P (s.modSelf f) := stable.tabled _ _ _ h

theorem modAir (f : Air → Air) (h : P s) : P (s.modAir f) := stable.tabled _ _ _ h

theorem modEq (f : EqStation → EqStation) (h : P s) : P (s.modEq f) := stable.banded _ _ h

/-! The equaliser and the gain. -/

theorem requestChannel (c : Fin 4) (h : P s) : P (requestChannel c s) :=
  stable.channel c (by simp) (by simp) (fun laws => laws.request _) h

theorem retargetChannel (c : Fin 4) (h : P s) : P (retargetChannel c s) :=
  stable.channel c (by simp) (by simp) (fun laws => laws.retarget _) h

theorem requestAll (h : P s) : P (requestAll s) := PowerStable.pass (fun c _ => stable.requestChannel c) h

theorem retargetAll (h : P s) : P (forChannels Machine.retargetChannel s) :=
  PowerStable.pass (fun c _ => stable.retargetChannel c) h

theorem retargetAndAct (c : Fin 4) (h : P s) : P (retargetAndAct c s) :=
  PowerStable.actOnSilence stable.power c (stable.retargetChannel c h)

theorem refreshShelf (h : P s) : P (refreshShelf s) := by
  unfold Machine.refreshShelf
  dsimp only
  split
  · exact h
  · exact stable.requestAll (stable.modEq _ h)

theorem testPathBand (path : Nat) (h : P s) : P (testPathBand path s) := by
  unfold Machine.testPathBand
  split
  · exact h
  · split
    · exact h
    · exact stable.refreshShelf (stable.modEq _ h)

theorem setHumidityBand (b : Nat) (h : P s) : P (setHumidityBand b s) := by
  unfold Machine.setHumidityBand
  split
  · exact h
  · exact stable.refreshShelf (stable.modEq _ h)

theorem testHumidityBand (humidity : Nat) (h : P s) : P (testHumidityBand humidity s) := by
  unfold Machine.testHumidityBand
  split
  · exact h
  · split
    · exact h
    · exact stable.setHumidityBand _ h

theorem setJudgement (present : Bool) (h : P s) : P (setJudgement present s) := by
  unfold Machine.setJudgement
  split
  · exact h
  · exact PowerStable.pass (fun c _ => PowerStable.actOnSilence stable.power c) (stable.banded _ _ h)

/-! Lines and SLEEP and WAKE. -/

/-- The lines and the FORCED_OFF flag of a channel take values. -/
theorem lines (c : Fin 4) {f : Channel → Channel}
    (only : ∀ ch, f ch = { ch with forcedOff := (f ch).forcedOff, ready := (f ch).ready, faultLine := (f ch).faultLine })
    (h : P s) : P (s.modChannel c f) :=
  stable.channel c (by rw [only]) (by rw [only]; exact ⟨rfl, rfl⟩) (fun laws => by rw [only]; exact laws.lines _ _ _) h

theorem sleepChannel (c : Fin 4) (h : P s) : P (sleepChannel c s) := by
  have flagged := stable.lines c (f := fun ch => { ch with forcedOff := true }) (fun _ => rfl) h
  unfold Machine.sleepChannel
  dsimp only
  split
  case h_5 | h_6 => exact flagged
  all_goals exact stable.power c _ _ (by simp) flagged

theorem wakeChannel (c : Fin 4) (h : P s) : P (wakeChannel c s) := by
  have flagged := stable.lines c (f := fun ch => { ch with forcedOff := false }) (fun _ => rfl) h
  unfold Machine.wakeChannel
  dsimp only
  split
  · split
    · exact PowerStable.enterStandby stable.power c flagged
    · exact PowerStable.enterWaking stable.power c flagged
  · split
    · exact flagged
    · exact PowerStable.enterWaking stable.power c flagged
  all_goals exact flagged

/-! The table, the results and the air data. -/

theorem afterDetection (c : FlightChange) (h : P s) : P (afterDetection c s) := by
  unfold Machine.afterDetection
  dsimp only
  split
  · split
    · exact stable.triggered (stable.bump _ h)
    · exact stable.triggered h
  · split
    · exact stable.bump _ h
    · exact h

theorem takePeerResult (station : Nat) (r : FlightResult) (h : P s) : P (takePeerResult station r s) := by
  unfold Machine.takePeerResult
  split
  · exact h
  · cases r with
    | miss => exact stable.modPeer _ _ h
    | detection flight => exact stable.afterDetection _ (stable.modPeer _ _ h)

theorem takeSelfResult (r : FlightResult) (h : P s) : P (takeSelfResult r s) := by
  cases r with
  | miss => exact stable.modSelf _ h
  | detection flight => exact stable.afterDetection _ (stable.modSelf _ h)

theorem deliverResult (owner : Nat) (r : FlightResult) (h : P s) : P (deliverResult owner r s) := by
  have counted : P (if r = .miss then Machine.bump .captureMisses s else s) := by
    split
    · exact stable.bump _ h
    · exact h
  unfold Machine.deliverResult
  generalize (if r = .miss then Machine.bump .captureMisses s else s) = u at counted
  dsimp only
  split
  · exact stable.takeSelfResult r counted
  · exact stable.takePeerResult owner r counted

theorem tableTakesAlign (station : Nat) (r : AlignRecord) (h : P s) : P (tableTakesAlign station r s) := by
  unfold Machine.tableTakesAlign
  split
  · exact h
  · split
    · unfold takeRecord
      dsimp only
      split
      · exact stable.modPeer _ _ h
      · refine stable.triggered (stable.modPeer _ _ ?_)
        split <;> split
        · exact stable.bump _ (stable.bump _ h)
        · exact stable.bump _ h
        · exact stable.bump _ h
        · exact h
    · exact stable.bump _ h

theorem becomeStale (i : Fin 16) (h : P s) : P (becomeStale i s) := stable.triggered (stable.modPeer _ _ h)

theorem becomeLost (i : Fin 16) (h : P s) : P (becomeLost i s) := stable.triggered (stable.modPeer _ _ h)

theorem releasePool (i : Fin 16) (h : P s) : P (releasePool i s) := by
  unfold Machine.releasePool
  dsimp only
  split
  · exact stable.triggered (stable.modPeer _ _ (stable.discarded _ h))
  · exact stable.triggered (stable.modPeer _ _ h)

theorem ageEntry (i : Fin 16) (h : P s) : P (ageEntry i s) := by
  unfold Machine.ageEntry
  dsimp only
  split
  · split
    · exact stable.becomeStale i (stable.modPeer _ _ h)
    · exact stable.modPeer _ _ h
  · split
    · unfold loseEntry
      split
      · exact stable.becomeLost i (stable.modPeer _ _ h)
      · exact stable.releasePool i (stable.modPeer _ _ h)
      · exact stable.modPeer _ _ h
    · exact stable.modPeer _ _ h
  · exact h

theorem ageEntries (h : P s) : P (ageEntries s) := by
  have all : ∀ (l : List (Fin 16)) {u : State}, P u → P (l.foldl (fun s i => Machine.ageEntry i s) u) := by
    intro l
    induction l with
    | nil => exact fun hu => hu
    | cons i l ih => exact fun hu => ih (stable.ageEntry i hu)
  exact all _ h

theorem setTemperature (temperature : Int) (h : P s) : P (setTemperature temperature s) := by
  unfold Machine.setTemperature temperatureTrigger
  split
  · exact h
  · split
    · split
      · exact stable.triggered (stable.modAir _ h)
      · exact stable.modAir _ h
    · exact stable.modAir _ h

theorem takeGoodReply (temperature : Int) (humidity : Nat) (h : P s) : P (takeGoodReply temperature humidity s) := by
  have warmed := stable.setTemperature temperature
    (stable.modAir (fun a => { a with state := .valid, humidity := some humidity, misses := 0 }) h)
  unfold Machine.takeGoodReply
  dsimp only
  split
  · exact stable.setHumidityBand _ warmed
  · split
    · exact warmed
    · exact stable.testHumidityBand _ warmed

theorem takeAirMiss (h : P s) : P (takeAirMiss s) := by
  unfold Machine.takeAirMiss
  dsimp only
  split
  · exact stable.setHumidityBand _ (stable.setTemperature _ (stable.modAir _ (stable.modAir _ h)))
  · exact stable.modAir _ h

theorem judgeRequest {f : State → State} (kept : ∀ {u}, P u → P (f u)) (h : P s) : P (judgeRequest f s) := by
  unfold Machine.judgeRequest
  split
  · exact kept (stable.modAir _ h)
  · exact h

/-! The hand-overs of ROLL and EVAC. -/

theorem handRoll (h : P s) : P (handRoll s) := by
  unfold Machine.handRoll
  split
  · exact h
  · exact stable.handed rfl rfl h

theorem handRollUnlessWaiting (h : P s) : P (handRollUnlessWaiting s) := by
  unfold Machine.handRollUnlessWaiting
  split
  · exact h
  · exact stable.handRoll h

theorem renewRoll (h : P s) : P (renewRoll s) := by
  unfold Machine.renewRoll
  split
  · exact stable.handRoll h
  · exact h

theorem handEvac (set : Bool) (h : P s) : P (handEvac set s) := by
  unfold Machine.handEvac
  split
  · exact stable.handed rfl rfl h
  · exact h

/-- A QUERY is answered. -/
theorem answerQuery (source : Nat) (q : QueryBody) (counters : ∀ {u} v, P u → P { u with counters := v }) (h : P s) :
    P (answerQuery source q s) := by
  have reply : (replyBody s q).isMark = false ∧ (replyBody s q).isAlign = false := by
    unfold replyBody
    repeat' split
    all_goals exact ⟨rfl, rfl⟩
  unfold Machine.answerQuery
  split
  · dsimp only
    split
    · exact counters _ (stable.handed reply.1 reply.2 h)
    · exact stable.handed reply.1 reply.2 h
  · exact h

/-! The amplifier and the ends of what runs. -/

/-- The commands of the amplifier lines and timers, and those that end a slew, a crossfade, a ramp or a fade. -/
theorem exec_channel {c : Instr} {t : State} (answer : exec c s = .next t) (h : P s)
    (channel : match c with
      | .silenceTimerExpiry _ | .readyAsserted _ | .readyLost _ | .faultLineAsserted _ | .faultLineReleased _
      | .wakeTimerExpiry _ | .lostSample _ | .slewComplete _ | .crossfadeEnd _ | .rampEnd _ | .gateFadeEnd _ => True
      | _ => False) : P t := by
  cases c
  case silenceTimerExpiry c =>
    cases answer
    refine stable.event ?_
    split
    · exact PowerStable.enterStandby stable.power c h
    · exact h
  case readyAsserted c =>
    have lined := stable.lines c (f := fun ch => { ch with ready := true }) (fun _ => rfl) h
    cases answer
    refine stable.event ?_
    dsimp only
    split
    · exact PowerStable.enterActive stable.power c lined
    · exact lined
  case readyLost c =>
    have lined := stable.lines c (f := fun ch => { ch with ready := false }) (fun _ => rfl) h
    cases answer
    refine stable.event ?_
    dsimp only
    split
    · split
      · exact stable.power c _ _ (by simp) lined
      · exact lined
    · exact h
  case faultLineAsserted c =>
    have lined := stable.lines c (f := fun ch => { ch with faultLine := true }) (fun _ => rfl) h
    cases answer
    refine stable.event ?_
    dsimp only
    split
    · exact h
    · split
      · exact stable.power c _ _ (by simp) lined
      · exact lined
  case faultLineReleased c =>
    have lined := stable.lines c (f := fun ch => { ch with faultLine := false }) (fun _ => rfl) h
    cases answer
    refine stable.event ?_
    dsimp only
    split
    · split
      · split
        · exact stable.power c _ _ (by simp) lined
        · exact PowerStable.enterWaking stable.power c lined
      · exact lined
    · exact h
  case wakeTimerExpiry c =>
    cases answer
    refine stable.event ?_
    split
    · exact stable.power c _ _ (by simp) h
    · exact h
  case lostSample c =>
    cases answer
    refine stable.event ?_
    split
    · next waking => exact stable.channel c rfl ⟨rfl, rfl⟩ (fun laws => laws.loses (fun _ => waking.1) _) h
    · exact h
  case slewComplete c =>
    cases answer
    refine stable.event ?_
    split
    · exact stable.channel c (by simp) (by simp) (fun laws => laws.slewOnce _) h
    · exact h
  case crossfadeEnd c =>
    cases answer
    exact stable.event (stable.channel c (by simp) (by simp) ChannelLaws.endCrossfade h)
  case rampEnd c =>
    cases answer
    exact stable.event (stable.channel c (by simp) (by simp) ChannelLaws.completeRamp h)
  case gateFadeEnd c =>
    cases answer
    exact stable.event (stable.channel c rfl ⟨rfl, rfl⟩ ChannelLaws.faded h)
  all_goals exact channel.elim

/-- The commands of the table, the air data and the programme judgement. -/
theorem exec_table {c : Instr} {t : State} (answer : exec c s = .next t) (h : P s)
    (table : match c with
      | .secondTick | .entryStale _ | .entryLost _ | .poolRelease _ | .airReply _ | .airReplyTimeout
      | .programmeJudgementChange _ | .refreshTimerExpiry => True
      | _ => False) : P t := by
  cases c
  case secondTick =>
    have aged := stable.ageEntries h
    cases answer
    refine stable.event ?_
    unfold sendAirRequest
    split
    · exact stable.modAir _ aged
    · exact aged
  case entryStale i =>
    cases answer
    refine stable.event ?_
    split
    · exact stable.becomeStale i h
    · exact h
  case entryLost i =>
    cases answer
    refine stable.event ?_
    split
    · exact stable.becomeLost i h
    · exact h
  case poolRelease i =>
    cases answer
    refine stable.event ?_
    split
    · exact stable.releasePool i h
    · exact h
  case airReply r =>
    cases answer
    refine stable.event (stable.judgeRequest (fun hu => ?_) h)
    split
    · exact stable.takeGoodReply _ _ hu
    · exact stable.takeAirMiss hu
  case airReplyTimeout =>
    cases answer
    exact stable.event (stable.judgeRequest (fun hu => stable.takeAirMiss hu) h)
  case programmeJudgementChange present =>
    cases answer
    exact stable.event (stable.setJudgement present h)
  case refreshTimerExpiry =>
    cases answer
    split
    · next run => exact stable.aligned run.1 h
    · exact h
  all_goals exact table.elim

/-! The actions of a list that change channels alone. -/

/-- An action in its range keeps what its own block's part of it keeps. -/
theorem performAction {a : Action} (ranged : a.inRange) (h : P s) (probe : a = .probe → P (probeAction s))
    (freeze : a = .freeze → P (setFreeze true s.solver.emergencyFreeze s)) (thaw : a = .thaw → P (thawAction s))
    (offset : ∀ v, a = .offset v → P (offsetAction v s)) : P (performAction a s) := by
  have store {u : State} (c : Fin 4) {f : Channel → Channel}
      (only : ∀ ch, f ch = { ch with
        storedGain := (f ch).storedGain, storedMute := (f ch).storedMute, preset := (f ch).preset })
      (gain : ∀ ch, ChannelLaws ch → (f ch).storedGain ≤ 184) (preset : ∀ ch, ChannelLaws ch → (f ch).preset ≤ 3) (hu : P u) :
      P (u.modChannel c f) :=
    stable.channel c (by rw [only]) (by rw [only]; exact ⟨rfl, rfl⟩)
      (fun laws => by rw [only]; exact laws.store _ (gain _ laws) (preset _ laws)) hu
  have gainLe {ch : Channel} (laws : ChannelLaws ch) : ch.storedGain ≤ 184 := laws.eqs.2.2.2.2.2.2
  have presetLe {ch : Channel} (laws : ChannelLaws ch) : ch.preset ≤ 3 := laws.eqs.2.2.2.2.2.1
  cases a with
  | finish => exact h
  | wait v => exact h
  | probe => exact probe rfl
  | freeze => exact freeze rfl
  | thaw => exact thaw rfl
  | offset v => exact offset v rfl
  | mute m =>
    exact PowerStable.marked (fun c _ hu => stable.retargetAndAct c
      (store c (f := fun ch => { ch with storedMute := true }) (fun _ => rfl) (fun _ => gainLe) (fun _ => presetLe) hu)) m h
  | unmute m =>
    exact PowerStable.marked (fun c _ hu => stable.retargetAndAct c
      (store c (f := fun ch => { ch with storedMute := false }) (fun _ => rfl) (fun _ => gainLe) (fun _ => presetLe) hu)) m h
  | sleep m => exact PowerStable.marked (fun c _ => stable.sleepChannel c) m h
  | wake m => exact PowerStable.marked (fun c _ => stable.wakeChannel c) m h
  | gain m v =>
    exact PowerStable.marked (fun c _ hu => stable.retargetAndAct c
      (store c (f := fun ch => { ch with storedGain := v }) (fun _ => rfl) (fun _ _ => ranged) (fun _ => presetLe) hu)) m h
  | preset m v =>
    exact PowerStable.marked (fun c _ hu => stable.requestChannel c
      (store c (f := fun ch => { ch with preset := v }) (fun _ => rfl) (fun _ => gainLe) (fun _ _ => ranged) hu)) m h

end Stable

/-! ### Properties that an EMERGENCY keeps -/

/-- A stable property that the parts of EMERGENCY entry and exit keep too. -/
structure Closed (P : State → Prop) : Prop extends Stable P where
  emc : ∀ {s : State} (f : EmergencyControl → EmergencyControl), (∀ e, (f e).emergency = e.emergency) → P s →
    P (s.modEmc f)
  freed : ∀ {s : State} (n : Nat), P s → P (s.setFreeCount n)
  entered : ∀ {s : State}, s.emc.emergency = false → P s → P (enterEmergency s)
  left : ∀ {s : State}, s.emc.emergency = true → P s → P (leaveEmergency s)

namespace Stable

variable {P : State → Prop} (stable : Stable P) {s : State}

include stable

theorem equaliserEmergency (h : P s) : P (equaliserEmergency s) := by
  unfold Machine.equaliserEmergency
  split
  · exact stable.retargetAll (stable.requestAll h)
  · exact stable.retargetAll h

/-- EMERGENCY entry, once the Probe Unit, the list and the solver have taken it. -/
theorem emergencyValues (h : P s) : P (powerEmergencyEntry (Machine.equaliserEmergency s)) :=
  PowerStable.powerEmergencyEntry stable.power (stable.equaliserEmergency h)

/-- EMERGENCY exit, once the solver has taken it. -/
theorem ordinaryValues (h : P s) : P (powerEmergencyExit (Machine.equaliserEmergency s)) :=
  PowerStable.powerEmergencyExit stable.power (stable.equaliserEmergency h)

end Stable

namespace Closed

variable {P : State → Prop} (closed : Closed P) {s : State}

include closed

theorem followInputs (h : P s) : P (followInputs s) := by
  unfold Machine.followInputs
  dsimp only
  split
  · next enters =>
    simp only [Bool.and_eq_true, Bool.not_eq_true', State.inEmergency] at enters
    exact closed.entered enters.2 h
  · split
    · next leaves =>
      simp only [Bool.and_eq_true, State.inEmergency] at leaves
      exact closed.left leaves.2 h
    · exact h

theorem takeEvac (station : Nat) (set : Bool) (h : P s) : P (takeEvac station set s) :=
  closed.followInputs (closed.emc _ (fun _ => rfl) h)

theorem takeContactFlag (station : Nat) (contact : Bool) (h : P s) : P (takeContactFlag station contact s) := by
  unfold Machine.takeContactFlag
  split
  · exact h
  · exact closed.takeEvac station false h

theorem sendSet (h : P s) : P (sendSet s) :=
  closed.handEvac true (closed.emc (fun e => { e with refresh := some 1000000 }) (fun _ => rfl) h)

theorem changeContacts {f : EmergencyControl → EmergencyControl} (kept : ∀ e, (f e).emergency = e.emergency) (h : P s) :
    P (changeContacts f s) :=
  changeContacts_keeps (closed.emc f kept h) (fun _ hu => closed.freed _ hu)
    (fun _ hu => closed.emc _ (fun _ => rfl) hu) (fun _ hu => closed.handEvac _ hu) (fun hu => closed.renewRoll hu)
    (fun hu => closed.followInputs hu)

/-- The commands of Emergency Control. -/
theorem exec_emergency {c : Instr} {t : State} (answer : exec c s = .next t) (h : P s)
    (emergency : match c with
      | .contactPinChange .. | .debouncedContactAsserted | .debouncedContactReleased | .resetContactAsserted
      | .resetContactReleased | .evacRefreshExpiry => True
      | _ => False) : P t := by
  cases c
  case contactPinChange line level =>
    cases answer
    split
    · split
      · exact h
      · exact closed.emc _ (fun _ => rfl) h
    · split
      · exact h
      · exact closed.emc _ (fun _ => rfl) h
  case evacRefreshExpiry =>
    cases answer
    refine closed.event ?_
    split
    · exact closed.sendSet h
    · exact h
  case debouncedContactAsserted | debouncedContactReleased | resetContactAsserted | resetContactReleased =>
    cases answer
    refine closed.event ?_
    split
    · exact closed.changeContacts (fun _ => rfl) h
    · exact h
  all_goals exact emergency.elim

end Closed

end Sys2Proof.Machine
end

section
/-! PROOFS. The laws of the channels (R75, R85, R89, R99, R102, R111) and of the solver's target (R68) through every turn. -/

namespace Sys2Proof.Machine

/-! ### What these laws speak of -/

/-- The image, the mode, the target values and the channels stand as they did. -/
def SameFit (s t : State) : Prop :=
  t.image = s.image ∧ t.stc.mode = s.stc.mode ∧ t.solver.delay = s.solver.delay ∧ t.solver.path = s.solver.path ∧
  t.solver.offset = s.solver.offset ∧ t.solver.computed = s.solver.computed ∧ t.channels = s.channels

/-- The ranges of the installed image and of the target, and the laws of every channel. -/
structure Sound (s : State) : Prop where
  ranges : ∀ img, s.image = some img → ImageRanges img
  imaged : s.stc.mode = .configFault → s.image = none
  target : TargetLaw s
  channels : EachChannel ChannelLaws s

/-- The channels stand by their laws, at the targets formed from D and the trims. -/
structure Fit (s : State) : Prop where
  sound : Sound s
  formed : FormedLaw s

theorem Lawful.fit {s : State} (h : Lawful s) : Fit s := by
  obtain ⟨image, ranges, -⟩ := h.start
  refine ⟨⟨ranges, fun fault => ?_, h.target, fun c => ⟨h.delay c, h.eqs c, h.power c⟩⟩, h.formed⟩
  cases held : s.image with
  | none => rfl
  | some img => simp [held, fault] at image

section

variable {s t : State}

theorem Sound.congr (h : Sound s) (image : t.image = s.image) (mode : t.stc.mode = s.stc.mode)
    (delay : t.solver.delay = s.solver.delay) (path : t.solver.path = s.solver.path)
    (offset : t.solver.offset = s.solver.offset) (computed : t.solver.computed = s.solver.computed)
    (channels : EachChannel ChannelLaws t) : Sound t := by
  obtain ⟨ranges, imaged, target, -⟩ := h
  refine ⟨by rw [image]; exact ranges, by rw [mode, image]; exact imaged, ?_, channels⟩
  unfold TargetLaw
  rw [delay, path, offset, computed]
  exact target

theorem FormedLaw.congr (h : FormedLaw s) (image : t.image = s.image) (delay : t.solver.delay = s.solver.delay)
    (targets : ∀ c : Fin 4, t.channels[c].target = s.channels[c].target) : FormedLaw t := by
  intro img installed c
  rw [targets, delay]
  exact h img (image ▸ installed) c

theorem Fit.same (h : Fit s) (same : SameFit s t) : Fit t := by
  obtain ⟨image, mode, delay, path, offset, computed, channels⟩ := same
  exact ⟨h.sound.congr image mode delay path offset computed (h.sound.channels.congr channels),
    h.formed.congr image delay fun c => by rw [channels]⟩

theorem Sound.same (h : Sound s) (same : SameFit s t) : Sound t := by
  obtain ⟨image, mode, delay, path, offset, computed, channels⟩ := same
  exact h.congr image mode delay path offset computed (h.channels.congr channels)

end

/-! ### The single changes -/

theorem channelLaws_powerStable : PowerStable (EachChannel ChannelLaws) :=
  EachChannel.powerStable fun a b _ hasCause laws => laws.toPower hasCause a b

theorem setPower_target (c d : Fin 4) (p : Power) (cause : Option FaultCause) (s : State) :
    (setPower c p cause s).channels[d].target = s.channels[d].target := by
  obtain ⟨self, other⟩ := (setPower_acts s p cause).one (SameView.refl s) c
  by_cases here : d = c
  · subst here
    rw [self, Channel.moved]
    split <;> simp
  · rw [other d here]

theorem sound_stable : Stable Sound where
  power := fun c p cause hasCause h =>
    h.congr (by simp) (by simp) (by simp) (by simp) (by simp) (by simp) (channelLaws_powerStable c p cause hasCause h.channels)
  channel := fun c _ _ _ laws h => h.congr rfl rfl rfl rfl rfl rfl (h.channels.mod c laws)
  bumped := fun n k h => h.same (by simp [SameFit])
  handed := fun _ _ h => h.same (by simp [SameFit])
  aligned := fun _ h => h.same (by simp [SameFit])
  triggered := fun h => h.same (by simp [SameFit])
  tabled := fun _ _ _ h => h.same ⟨rfl, rfl, rfl, rfl, rfl, rfl, rfl⟩
  banded := fun _ _ h => h.same ⟨rfl, rfl, rfl, rfl, rfl, rfl, rfl⟩
  discarded := fun _ h => h.same ⟨rfl, rfl, rfl, rfl, rfl, rfl, rfl⟩

theorem modChannel_target {s : State} (c d : Fin 4) {f : Channel → Channel}
    (target : (f s.channels[c]).target = s.channels[c].target) :
    (s.modChannel c f).channels[d].target = s.channels[d].target := by
  by_cases here : d = c
  · subst here
    rw [modChannel_get_self, target]
  · rw [modChannel_get_other _ here]

theorem fit_stable : Stable Fit where
  power := fun c p cause hasCause h =>
    ⟨sound_stable.power c p cause hasCause h.sound, h.formed.congr (by simp) (by simp) fun d => setPower_target c d p cause _⟩
  channel := fun c _ power target laws h =>
    ⟨sound_stable.channel c power target laws h.sound, h.formed.congr rfl rfl fun d => modChannel_target c d target.1⟩
  bumped := fun n k h => h.same (by simp [SameFit])
  handed := fun _ _ h => h.same (by simp [SameFit])
  aligned := fun _ h => h.same (by simp [SameFit])
  triggered := fun h => h.same (by simp [SameFit])
  tabled := fun _ _ _ h => h.same ⟨rfl, rfl, rfl, rfl, rfl, rfl, rfl⟩
  banded := fun _ _ h => h.same ⟨rfl, rfl, rfl, rfl, rfl, rfl, rfl⟩
  discarded := fun _ h => h.same ⟨rfl, rfl, rfl, rfl, rfl, rfl, rfl⟩

theorem fit_closed : Closed Fit where
  toStable := fit_stable
  emc := fun _ _ h => h.same ⟨rfl, rfl, rfl, rfl, rfl, rfl, rfl⟩
  freed := fun _ h => h.same ⟨rfl, rfl, rfl, rfl, rfl, rfl, rfl⟩
  entered := fun _ h => fit_stable.emergencyValues (h.same (by simp [SameFit, setFreeze]))
  left := fun _ h => fit_stable.ordinaryValues (h.same (by simp [SameFit, setFreeze]))

/-! ### The hand-overs of the solver (R68) -/

section

variable {s : State}

theorem formedTarget_le (h : Sound s) (c : Fin 4) : formedTarget s c ≤ 65280 := by
  obtain ⟨delay, -⟩ := h.target
  have trim : s.trim c ≤ 960 := by
    unfold State.trim
    cases image : s.image with
    | none => exact Nat.zero_le _
    | some img =>
      obtain ⟨-, -, -, -, channels⟩ := h.ranges img image
      exact (channels c).1
  unfold formedTarget zoneSamples
  split
  · omega
  · omega

theorem Sound.formTargets (h : Sound s) : Fit (formTargets s) := by
  refine ⟨h.congr (by simp) (by simp) (by simp) (by simp) (by simp) (by simp)
    (h.channels.formTargets fun c laws => laws.takeTarget (formedTarget_le h c)), fun img installed c => ?_⟩
  have image : s.image = some img := by simpa using installed
  have mode : s.stc.mode ≠ .configFault := fun fault => by rw [h.imaged fault] at image; cases image
  rw [formTargets_get, takeTarget_target, formedTarget, if_neg mode, State.trim, image]
  simp [zoneSamples]

theorem Fit.setDelayTarget (h : Fit s) {d : Nat} (le : d ≤ 1340000) : Fit (setDelayTarget d s) := by
  unfold Machine.setDelayTarget
  split
  · exact h
  · obtain ⟨ranges, imaged, ⟨-, target⟩, channels⟩ := h.sound
    exact Sound.formTargets (s := s.modSolver fun v => { v with delay := d }) ⟨ranges, imaged, ⟨le, target⟩, channels⟩

theorem Fit.setPathTime (h : Fit s) {p : Nat} (le : p ≤ 16777215) : Fit (setPathTime p s) := by
  unfold Machine.setPathTime
  split
  · exact h
  · obtain ⟨ranges, imaged, ⟨delay, -, target⟩, channels⟩ := h.sound
    exact fit_stable.testPathBand p (s := s.modSolver fun v => { v with path := p })
      ⟨⟨ranges, imaged, ⟨delay, le, target⟩, channels⟩, h.formed⟩

/-- D and the path time take values while fields change that these laws do not speak of. -/
theorem Fit.handOver (h : Fit s) (f : Solver → Solver) {d p : Nat} (dLe : d ≤ 1340000) (pLe : p ≤ 16777215)
    (same : SameFit s (s.modSolver f)) : Fit (Machine.setPathTime p (Machine.setDelayTarget d (s.modSolver f))) :=
  ((h.same same).setDelayTarget dLe).setPathTime pLe

/-! ### The solver's events -/

theorem Candidate.newPath_le (c : Candidate) : c.newPath ≤ 16777215 := by
  unfold Candidate.newPath maxPath
  split <;> omega

theorem Candidate.target_le (c : Candidate) : c.target ≤ 1340000 := by
  unfold Candidate.target maxDelay
  omega

theorem passDelay_le (h : Fit s) {d : Nat} (le : d ≤ 1340000) : passDelay s d ≤ 1340000 := by
  unfold passDelay
  split
  · exact h.sound.target.1
  · exact le

theorem Fit.computePass (h : Fit s) : Fit (computePass s) := by
  obtain ⟨ranges, imaged, ⟨delay, path, offset, -⟩, channels⟩ := h.sound
  refine ⟨⟨ranges, imaged, ⟨delay, path, offset, fun d computed => ?_⟩, channels⟩, h.formed⟩
  obtain ⟨c, -, rfl⟩ := Option.map_eq_some_iff.1 computed
  exact c.target_le

theorem Fit.solvePass (h : Fit s) : Fit (solvePass s) := by
  unfold Machine.solvePass
  dsimp only
  split
  · exact h.computePass
  · split
    · next c _ =>
      exact h.computePass.handOver _ (passDelay_le h.computePass c.target_le) c.newPath_le
        ⟨rfl, rfl, rfl, rfl, rfl, rfl, rfl⟩
    · unfold applyNone
      split
      · exact h.computePass.same ⟨rfl, rfl, rfl, rfl, rfl, rfl, rfl⟩
      · exact h.computePass

theorem fallbackDelay_le (h : Fit s) : s.image.elim 0 (·.fallbackDelay) ≤ 1340000 := by
  cases image : s.image with
  | none => exact Nat.zero_le _
  | some img =>
    obtain ⟨-, le, -⟩ := h.sound.ranges img image
    exact le

theorem originDelay_le (h : Fit s) : s.image.elim 0 (·.originDelay) ≤ 1340000 := by
  cases image : s.image with
  | none => exact Nat.zero_le _
  | some img =>
    obtain ⟨le, -⟩ := h.sound.ranges img image
    exact le.trans (by omega)

theorem Fit.holdExpired (h : Fit s) : Fit (holdExpired s) := by
  have le := fallbackDelay_le h
  exact h.handOver _ le (le.trans (by omega)) ⟨rfl, rfl, rfl, rfl, rfl, rfl, rfl⟩

theorem Fit.solverSetup (h : Fit s) : Fit (solverSetup s) := by
  unfold Machine.solverSetup
  split
  · exact h.handOver _ (originDelay_le h) (Nat.zero_le _) ⟨rfl, rfl, rfl, rfl, rfl, rfl, rfl⟩
  · have le := fallbackDelay_le h
    exact fit_stable.triggered (h.handOver _ le (le.trans (by omega)) ⟨rfl, rfl, rfl, rfl, rfl, rfl, rfl⟩)

/-! ### Cue actions and programme samples -/

theorem Fit.startRound (h : Fit s) : Fit (startRound s) := by
  unfold Machine.startRound
  split
  · next c i _ _ =>
    dsimp only
    split
    · exact h.same (by simp [SameFit, setSlot])
    · exact h.same (by simp [SameFit, setSlot])
    · exact PowerStable.enterWaking fit_stable.power c (h.same (by simp [SameFit, setSlot]))
    all_goals exact h.same (by simp [SameFit, setSlot])
  · exact h

theorem Fit.takeAction (h : Fit s) : Fit (takeAction s) := by
  unfold Machine.takeAction
  split
  · split
    · exact h.same (by simp [SameFit])
    · next a decoded =>
      have ranged := (decodeAction_ok decoded).1
      have performed : Fit (performAction a s) := by
        refine fit_stable.performAction ranged h (fun _ => ?_) (fun _ => h.same (by simp [SameFit, setFreeze]))
          (fun _ => ?_) fun v eq => ?_
        · unfold probeAction
          split
          · exact h.startRound
          · exact fit_stable.bump _ h
        · exact fit_stable.triggered (h.same (by simp [SameFit, setFreeze]))
        · subst eq
          obtain ⟨ranges, imaged, ⟨delay, path, -, computed⟩, channels⟩ := h.sound
          exact fit_stable.triggered (s := s.modSolver fun e => { e with offset := v })
            ⟨⟨ranges, imaged, ⟨delay, path, ranged, computed⟩, channels⟩, h.formed⟩
      unfold advanceList
      split <;> exact performed.same (by simp [SameFit])
  · exact h

/-- A channel takes a programme sample by its laws. -/
theorem ChannelLaws.sample {ch : Channel} (h : ChannelLaws ch) (s : State) (c : Fin 4) (step : Nat) :
    let moved := (ch.slewOnce step).stepRamp
    let formed := Machine.equalise s c (channelRead s moved) moved
    ChannelLaws
      { formed.stepCrossfade.stepFade with
        output := ⟨formed.gateOut, probeOut s c⟩
        wakeLoss := moved.wakeLoss || losesSample s moved } := by
  intro moved formed
  have laws : ChannelLaws moved := (h.slewOnce step).stepRamp
  have power : formed.stepCrossfade.stepFade.power = moved.power := by
    have stepped : formed.stepCrossfade.power = formed.power := by
      unfold Channel.stepCrossfade
      repeat' split
      all_goals simp
    exact stepped.trans (by rw [show formed = _ from equalise_frame s c (channelRead s moved) moved])
  refine ((laws.equalise s c _).stepCrossfade.stepFade).loses (fun lost => ?_) _
  rw [power]
  rcases Bool.or_eq_true _ _ ▸ lost with marked | loses
  · exact laws.power.2.2.2.2.2 marked
  · simp only [losesSample, Bool.and_eq_true, beq_iff_eq] at loses
    exact loses.1.1

theorem stepCrossfade_target (ch : Channel) : ch.stepCrossfade.target = ch.target := by
  unfold Channel.stepCrossfade
  repeat' split
  all_goals simp

theorem Fit.sampleChannel (c : Fin 4) (h : Fit s) : Fit (sampleChannel c s) := by
  refine ⟨h.sound.congr rfl rfl rfl rfl rfl rfl ?_, h.formed.congr rfl rfl fun d => ?_⟩
  · exact h.sound.channels.mod c fun laws => laws.sample s c _
  · refine modChannel_target c d ?_
    show (equalise s c _ _).stepCrossfade.target = s.channels[c].target
    rw [stepCrossfade_target, equalise_frame]
    simp

theorem Fit.takeSample (x microphone : Int) (h : Fit s) : Fit (takeSample x microphone s) := by
  have written : Fit (writeSample x (judgeSample s x) (setJudgement (judgeSample s x) s)) :=
    (fit_stable.setJudgement (judgeSample s x) h).same (by simp [SameFit])
  have placed := written.same (t := placeEmission (hearSample microphone
    (writeSample x (judgeSample s x) (setJudgement (judgeSample s x) s)))) (by simp [SameFit])
  have sampled := PowerStable.pass (fun c _ hu => Fit.sampleChannel c hu) placed
  exact sampled.same (by simp [SameFit, Machine.takeSample])

/-! ### Changes of the station mode -/

theorem resetState_fit (straps : Straps) (s : State) : Fit (resetState straps s) := by
  refine ⟨⟨(by intro img h; cases h), fun _ => rfl, ?_, fun c => ?_⟩, by intro img h; cases h⟩
  · simp [TargetLaw, resetState, Solver.reset]
  · rw [resetState_channel]
    exact reset_channelLaws _ _

theorem enterConfigFault_fit (reason : FaultReason) (h : EachChannel ChannelLaws s) : Fit (enterConfigFault reason s) := by
  have entered : Sound ((faultStartup reason s).modSolver fun _ => Solver.reset) :=
    ⟨(by intro img h; cases h), fun _ => rfl,
      by simp [TargetLaw, Solver.reset], h⟩
  have settled := fit_stable.retargetAll (fit_stable.requestAll entered.formTargets)
  unfold enterConfigFault
  dsimp only
  refine fit_stable.handRoll ?_
  split
  · exact PowerStable.pass (fun c _ => PowerStable.enterWaking fit_stable.power c) settled
  · exact settled

theorem beginLoading_fit (h : Fit s) (bare : s.image = none) : Fit (beginLoading s) := by
  unfold beginLoading
  split
  · obtain ⟨ranges, -, target, channels⟩ := h.sound
    exact ⟨⟨ranges, fun _ => bare, target, channels⟩, h.formed⟩
  · exact enterConfigFault_fit _ h.sound.channels

theorem warmRestart_fit (straps : Straps) (s : State) : Fit (warmRestart straps s) :=
  beginLoading_fit ((resetState_fit straps s).same ⟨rfl, rfl, rfl, rfl, rfl, rfl, rfl⟩) rfl

theorem takeRestart_fit (unit : BitVec 32) (straps : Straps) (h : Fit s) : Fit (takeRestart unit straps s) := by
  unfold takeRestart
  split
  · exact h
  · split
    · exact fit_stable.bump _ h
    · exact warmRestart_fit straps s

theorem installImage_sound {img : Image} (ranges : ImageRanges img) (mode : s.stc.mode = .loading) (h : Fit s) :
    Sound (installImage img s) := by
  obtain ⟨-, -, ⟨delay, path, -, computed⟩, channels⟩ := h.sound
  have filled : Sound ((((((s.setImage (some img)).setPeers
      (tabulate 16 fun i => installEntry img.bindings[i] s.stc.kept[i])).modAir
        fun a => { a with temperature := img.defaultTemp }).modSolver fun v => { v with offset := img.offset }).modCue
          fun e => { e with memory := Cells.ofList 0#8 0 img.cueBytes })) :=
    ⟨(by intro i h; cases h; exact ranges), fun fault => absurd (mode.symm.trans fault) (by simp),
      ⟨delay, path, ranges.2.2.1, computed⟩, channels⟩
  have stored := PowerStable.pass (P := Sound) (f := fun c s => s.modChannel c (installChannel img c))
    (fun c u hu => sound_stable.channel c rfl ⟨rfl, rfl⟩
      (fun laws => ChannelLaws.store laws img.channels[c].startMute (ranges.2.2.2.2 c).2.1 (Nat.zero_le _)) hu) filled
  exact sound_stable.refreshShelf (sound_stable.modEq _ stored)

theorem enterAnnounce_fit {img : Image} (ranges : ImageRanges img) (mode : s.stc.mode = .loading) (h : Fit s) :
    Fit (enterAnnounce img s) := by
  obtain ⟨held, -, target, channels⟩ := installImage_sound ranges mode h
  exact fit_stable.handRoll (Sound.formTargets (s := (installImage img s).modStc _)
    ⟨held, fun fault => absurd fault (by simp), target, channels⟩)

theorem enterRun_fit (h : Fit s) : Fit (enterRun s) := by
  obtain ⟨ranges, -, target, channels⟩ := h.sound
  have running : Fit (s.modStc fun c => { c with mode := .run, claim := none }) :=
    ⟨⟨ranges, fun fault => absurd fault (by simp), target, channels⟩, h.formed⟩
  have released := PowerStable.pass (fun c _ => PowerStable.releaseChannel fit_stable.power c)
    (fit_stable.retargetAll (fit_stable.requestAll running.solverSetup))
  exact fit_stable.aligned (by simp [forChannels]) (released.same ⟨rfl, rfl, rfl, rfl, rfl, rfl, rfl⟩)

theorem enterConflict_fit (h : Fit s) : Fit (enterConflict s) := by
  obtain ⟨ranges, -, target, channels⟩ := h.sound
  have conflict : Fit (s.modStc fun c => { c with mode := .conflict, claim := none }) :=
    ⟨⟨ranges, fun fault => absurd fault (by simp), target, channels⟩, h.formed⟩
  exact conflict.same (by simp [SameFit, enterConflict]; repeat' split; all_goals simp)

theorem takeDuplicate_fit (roll : Option RollBody) (h : Fit s) : Fit (takeDuplicate roll s) := by
  have counted : Fit (s.modStc fun c => { c with duplicates := satInc c.duplicates }) :=
    h.same ⟨rfl, rfl, rfl, rfl, rfl, rfl, rfl⟩
  unfold takeDuplicate
  split
  · dsimp only
    split
    · exact fit_stable.handRollUnlessWaiting counted
    · next b =>
      have recorded (won : Bool) : Fit (recordDuplicate b.unit won
          (s.modStc fun c => { c with duplicates := satInc c.duplicates })) :=
        counted.same ⟨rfl, rfl, rfl, rfl, rfl, rfl, rfl⟩
      unfold contest
      split
      · exact fit_stable.handRollUnlessWaiting (recorded true)
      · split
        · exact counted
        · split
          · dsimp only
            split
            · exact enterConflict_fit (enterRun_fit (recorded false))
            · exact enterConflict_fit (recorded false)
          · exact fit_stable.handRoll (recorded true)
  · exact h

end

/-! ### Every turn -/

theorem exec_fit {c : Instr} {s t : State} (single : isSingle c = true) (answer : exec c s = .next t) (h : Fit s) :
    Fit t := by
  cases c
  case align | roll | mark | evac | cue | waitTimerExpiry | query | restart | reply | duplicateFrame | interFrameGap =>
    cases single
  case silenceTimerExpiry | readyAsserted | readyLost | faultLineAsserted | faultLineReleased | wakeTimerExpiry
    | lostSample | slewComplete | crossfadeEnd | rampEnd | gateFadeEnd => exact fit_stable.exec_channel answer h trivial
  case secondTick | entryStale | entryLost | poolRelease | airReply | airReplyTimeout | programmeJudgementChange
    | refreshTimerExpiry => exact fit_stable.exec_table answer h trivial
  case contactPinChange | debouncedContactAsserted | debouncedContactReleased | resetContactAsserted
    | resetContactReleased | evacRefreshExpiry => exact fit_closed.exec_emergency answer h trivial
  case hardReset straps =>
    cases answer
    exact beginLoading_fit (resetState_fit straps s) rfl
  case imageHeaderRead header =>
    cases answer
    split
    · split
      · exact h
      · dsimp only
        split
        · exact h.same ⟨rfl, rfl, rfl, rfl, rfl, rfl, rfl⟩
        · exact enterConfigFault_fit _ h.sound.channels
    · exact h
  case imageReadTimeout =>
    cases answer
    repeat' split
    · exact enterConfigFault_fit _ h.sound.channels
    · exact enterConfigFault_fit _ h.sound.channels
    · exact h
  case imageReadComplete rest =>
    cases answer
    split
    · next mode _ =>
      dsimp only
      split
      · exact h
      · split
        · exact enterConfigFault_fit _ h.sound.channels
        · next checked => exact enterAnnounce_fit (checkImage_checked checked).read.ranges mode h
    · exact h
  case claimTimerExpiry =>
    cases answer
    split
    · exact enterRun_fit h
    · exact h
  case probeTimerExpiry =>
    cases answer
    refine fit_stable.event ?_
    split
    · split
      · exact h.startRound
      · exact h.same ⟨rfl, rfl, rfl, rfl, rfl, rfl, rfl⟩
    · exact h
  case windowClose i =>
    have freed : Fit (setSlot i .free s) := h.same ⟨rfl, rfl, rfl, rfl, rfl, rfl, rfl⟩
    cases answer
    refine fit_stable.event ?_
    split
    · dsimp only
      split
      · exact freed
      · exact fit_stable.deliverResult _ _ freed
    · exact h
  case settleExpiry =>
    cases answer
    refine fit_stable.event ?_
    split
    · exact Fit.solvePass (h.same ⟨rfl, rfl, rfl, rfl, rfl, rfl, rfl⟩)
    · exact h
  case holdTimerExpiry =>
    cases answer
    refine fit_stable.event ?_
    split
    · exact h.holdExpired
    · exact h
  case programmeSample x =>
    cases answer
    exact fit_stable.event (h.takeSample _ _)
  all_goals
    cases answer
    refine h.same ?_
    try simp only [SameFit, event_frame, event_solver_frame]
    try ((repeat' split) <;> simp)

theorem turn_keeps_fit {s t : State} (turn : Turn s t) (lawful : Lawful s) : Fit t := by
  have h := lawful.fit
  cases turn with
  | pass =>
    refine ⟨h.sound.congr rfl rfl rfl rfl rfl rfl fun c => ?_, h.formed.congr rfl rfl fun c => ?_⟩
    all_goals rw [show (tick s).channels[c] = s.channels[c].tick from mapVector_get _ _ c]
    · exact (h.sound.channels c).tick
    · rfl
  | act => exact fit_stable.event h.takeAction
  | duplicate roll => exact fit_stable.event (takeDuplicate_fit roll h)
  | @handed f _ stamp straps burst station other noCue =>
    obtain ⟨src, dst, body⟩ := f
    cases body with
    | cue => exact absurd noCue Bool.false_ne_true
    | align r =>
      exact fit_stable.event (f := fun s => takeContactFlag src r.flags.contact (tableTakesAlign src r s))
        (fit_closed.takeContactFlag _ _ (fit_stable.tableTakesAlign _ _ h))
    | roll b => exact fit_stable.event (fit_closed.takeContactFlag _ _ h)
    | evac set => exact fit_stable.event (fit_closed.takeEvac _ _ h)
    | restart unit => exact fit_stable.event (takeRestart_fit unit straps h)
    | _ => exact h.same (by simp [SameFit, dispatch])
  | command single answer => exact exec_fit single answer h
  | _ => exact h.same (by simp [SameFit, gapTaken])

end Sys2Proof.Machine
end

section
/-! PROOFS. The transmit queue (R165 to R168, R171): hand-over, withdrawal, attempts, and the law of its order. -/

namespace Sys2Proof.Machine

/-! ### Frames of one kind (R166) -/

/-- The tests of the kinds of which the queue holds one frame at most (R166, R168). -/
def IsKind (p : FrameBody → Bool) : Prop :=
  p = FrameBody.isAlign ∨ p = FrameBody.isEvac ∨ p = FrameBody.isMark ∨ p = FrameBody.isRoll

/-- A frame replaces one of its own kind, with the class of that kind. -/
theorem replaces_same {new old : FrameBody} (h : new.replaces old = true) :
    new.cls = old.cls ∧ ∀ {p}, IsKind p → p new = p old := by
  constructor
  · cases new <;> cases old <;> first | rfl | cases h
  · rintro p (rfl | rfl | rfl | rfl) <;> cases new <;> cases old <;> first | rfl | cases h

/-- A frame of a kind replaces every other of that kind but for a MARK. -/
theorem replaces_of_kind {p : FrameBody → Bool} (kind : IsKind p) {new old : FrameBody} (hNew : p new = true)
    (hOld : p old = true) : new.isMark = true ∨ new.replaces old = true := by
  rcases kind with rfl | rfl | rfl | rfl
  · right; simp [FrameBody.replaces, hNew, hOld]
  · right; simp [FrameBody.replaces, hNew, hOld]
  · left; exact hNew
  · right; simp [FrameBody.replaces, hNew, hOld]

theorem mark_replaces (old : FrameBody) : FrameBody.replaces .mark old = false := by
  cases old <;> rfl

theorem replaces_mark {new old : FrameBody} (h : new.replaces old = true) : old.isMark = false := by
  cases old <;> cases new <;> first | rfl | cases h

/-! ### The order of the queue (R165) -/

/-- An entry stands before another: of a lower class, or of the same class and earlier. -/
def Before (a b : QueueEntry) : Prop := a.cls < b.cls ∨ a.cls = b.cls ∧ a.arrival < b.arrival

theorem insertByClass_perm (e : QueueEntry) (q : List QueueEntry) : (insertByClass e q).Perm (e :: q) := by
  induction q with
  | nil => exact List.Perm.refl _
  | cons x xs ih =>
    unfold insertByClass
    split
    · exact (ih.cons x).trans (List.Perm.swap e x xs)
    · exact List.Perm.refl _

theorem insertByClass_ordered {e : QueueEntry} {q : List QueueEntry} (h : q.Pairwise Before)
    (newest : ∀ x ∈ q, x.arrival < e.arrival) : (insertByClass e q).Pairwise Before := by
  induction q with
  | nil => exact List.pairwise_singleton _ _
  | cons x xs ih =>
    obtain ⟨first, rest⟩ := List.pairwise_cons.1 h
    unfold insertByClass
    split
    · next le =>
      refine List.pairwise_cons.2 ⟨fun y hy => ?_, ih rest fun y hy => newest y (List.mem_cons_of_mem _ hy)⟩
      rcases List.mem_cons.1 ((insertByClass_perm e xs).mem_iff.1 hy) with rfl | hy
      · have later := newest x List.mem_cons_self
        rcases Nat.lt_or_eq_of_le le with less | eq
        · exact .inl less
        · exact .inr ⟨eq, later⟩
      · exact first y hy
    · next greater =>
      have less : e.cls < x.cls := by omega
      refine List.pairwise_cons.2 ⟨fun y hy => ?_, h⟩
      rcases List.mem_cons.1 hy with rfl | hy
      · exact .inl less
      · rcases first y hy with lt | ⟨eq, -⟩
        · exact .inl (less.trans lt)
        · exact .inl (by omega)

/-! ### The law of the queue over the bus -/

/-- The law of the transmit queue, over the bus and the round (R165, R167, R168). -/
structure QueueFit (b : Bus) (round : Round) : Prop where
  short : b.queue.length ≤ 8
  single : ∀ {p}, IsKind p → (b.queue.filter (p ·.frame.body)).length ≤ 1
  order : b.queue.Pairwise Before
  nodup : (b.queue.map (·.arrival)).Nodup
  arrived : ∀ e ∈ b.queue, e.arrival < b.nextArrival
  marking : ∀ e ∈ b.queue, e.frame.body.isMark = true → round = .marking
  driven : ∀ a, b.attempt = some a → a.frame.body.isMark = true →
    round = .marking ∧ a.superseded = false ∧ ∃ e ∈ b.queue, e.frame.body.isMark = true ∧ e.arrival = a.arrival

theorem queueLaw_iff (s : State) : QueueLaw s ↔ QueueFit s.bus s.probe.round := by
  constructor
  · rintro ⟨short, align, evac, mark, roll, order, nodup, arrived, marking, driven⟩
    refine ⟨short, ?_, order, nodup, arrived, marking, driven⟩
    rintro p (rfl | rfl | rfl | rfl)
    · exact align
    · exact evac
    · exact mark
    · exact roll
  · rintro ⟨short, single, order, nodup, arrived, marking, driven⟩
    exact ⟨short, single (.inl rfl), single (.inr (.inl rfl)), single (.inr (.inr (.inl rfl))),
      single (.inr (.inr (.inr rfl))), order, nodup, arrived, marking, driven⟩

section

variable {b : Bus} {round : Round}

/-- The law speaks of the queue, the numbers of arrival and the attempt. -/
theorem QueueFit.congr (h : QueueFit b round) {b' : Bus} (queue : b'.queue = b.queue)
    (arrival : b'.nextArrival = b.nextArrival) (attempt : b'.attempt = b.attempt) : QueueFit b' round := by
  obtain ⟨short, single, order, nodup, arrived, marking, driven⟩ := h
  constructor
  · rw [queue]; exact short
  · rw [queue]; exact single
  · rw [queue]; exact order
  · rw [queue]; exact nodup
  · rw [queue, arrival]; exact arrived
  · rw [queue]; exact marking
  · rw [queue, attempt]; exact driven

/-- An entry is known by its place of arrival. -/
theorem QueueFit.unique (h : QueueFit b round) {e e' : QueueEntry} (he : e ∈ b.queue) (he' : e' ∈ b.queue)
    (same : e.arrival = e'.arrival) : e = e' :=
  List.inj_on_of_nodup_map h.nodup he he' same

theorem QueueFit.join (h : QueueFit b round) {f : Frame} (room : b.queue.length < 8)
    (first : b.queue.any (fun e => f.body.replaces e.frame.body) = false)
    (mark : f.body.isMark = true → round = .marking ∧ ∀ e ∈ b.queue, e.frame.body.isMark = false) :
    QueueFit (joinFrame f b) round := by
  obtain ⟨short, single, order, nodup, arrived, marking, driven⟩ := h
  have perm := insertByClass_perm ⟨f, b.nextArrival, false⟩ b.queue
  constructor
  · rw [joinFrame, perm.length_eq]
    exact room
  · intro p kind
    rw [joinFrame, (perm.filter _).length_eq, List.filter_cons]
    split
    · next isKind =>
      have none : b.queue.filter (p ·.frame.body) = [] := by
        refine List.filter_eq_nil_iff.2 fun e he same => ?_
        rcases replaces_of_kind kind isKind same with isMark | replaces
        · obtain ⟨-, noMark⟩ := mark isMark
          rcases kind with rfl | rfl | rfl | rfl
          · cases hf : f.body <;> rw [hf] at isKind isMark <;> simp [FrameBody.isAlign, FrameBody.isMark] at isKind isMark
          · cases hf : f.body <;> rw [hf] at isKind isMark <;> simp [FrameBody.isEvac, FrameBody.isMark] at isKind isMark
          · rw [noMark e he] at same
            cases same
          · cases hf : f.body <;> rw [hf] at isKind isMark <;> simp [FrameBody.isRoll, FrameBody.isMark] at isKind isMark
        · rw [List.any_eq_false] at first
          exact first e he replaces
      rw [none]
      exact Nat.le_refl _
    · exact single kind
  · exact insertByClass_ordered order arrived
  · rw [joinFrame, (perm.map _).nodup_iff]
    refine List.nodup_cons.2 ⟨fun mem => ?_, nodup⟩
    obtain ⟨e, he, eq⟩ := List.mem_map.1 mem
    have := arrived e he
    dsimp only at eq
    omega
  · intro e he
    rcases List.mem_cons.1 (perm.mem_iff.1 he) with rfl | he
    · exact Nat.lt_succ_self _
    · exact (arrived e he).trans (Nat.lt_succ_self _)
  · intro e he isMark
    rcases List.mem_cons.1 (perm.mem_iff.1 he) with rfl | he
    · exact (mark isMark).1
    · exact marking e he isMark
  · intro a under isMark
    obtain ⟨isMarking, kept, e, he, entry⟩ := driven a under isMark
    exact ⟨isMarking, kept, e, perm.mem_iff.2 (List.mem_cons_of_mem _ he), entry⟩

/-- What a hand-over that replaces makes of an entry (R166). -/
def QueueEntry.renewed (f : Frame) (e : QueueEntry) : QueueEntry :=
  if f.body.replaces e.frame.body then { e with frame := f, attempted := false } else e

theorem replaceFrame_queue (f : Frame) (b : Bus) : (replaceFrame f b).queue = b.queue.map (QueueEntry.renewed f) := rfl

/-- An entry keeps its place, its class and its kind. -/
theorem renewed_same (f : Frame) (e : QueueEntry) :
    (e.renewed f).arrival = e.arrival ∧ (e.renewed f).cls = e.cls ∧
    ∀ {p}, IsKind p → p (e.renewed f).frame.body = p e.frame.body := by
  unfold QueueEntry.renewed
  split
  · next replaces => exact ⟨rfl, (replaces_same replaces).1, (replaces_same replaces).2⟩
  · exact ⟨rfl, rfl, fun _ => rfl⟩

theorem QueueFit.replace (h : QueueFit b round) (f : Frame) : QueueFit (replaceFrame f b) round := by
  have unique {e e' : QueueEntry} := h.unique (e := e) (e' := e')
  obtain ⟨short, single, order, nodup, arrived, marking, driven⟩ := h
  have arrival := fun e => (renewed_same f e).1
  have cls := fun e => (renewed_same f e).2.1
  have isMark := fun e => (renewed_same f e).2.2 (.inr (.inr (.inl rfl)))
  have queue := replaceFrame_queue f b
  constructor
  · rw [queue, List.length_map]
    exact short
  · intro p isKind
    rw [queue, List.filter_map, List.length_map]
    have same : (fun e => p e.frame.body) ∘ QueueEntry.renewed f = fun e : QueueEntry => p e.frame.body :=
      funext fun e => (renewed_same f e).2.2 isKind
    rw [same]
    exact single isKind
  · rw [queue, List.pairwise_map]
    refine order.imp fun {a c} before => ?_
    unfold Before
    rw [cls, cls, arrival, arrival]
    exact before
  · rw [queue, List.map_map]
    have same : (fun e : QueueEntry => e.arrival) ∘ QueueEntry.renewed f = fun e : QueueEntry => e.arrival := funext arrival
    rw [same]
    exact nodup
  · intro e he
    rw [queue] at he
    obtain ⟨e', he', rfl⟩ := List.mem_map.1 he
    rw [arrival]
    exact arrived e' he'
  · intro e he mark
    rw [queue] at he
    obtain ⟨e', he', rfl⟩ := List.mem_map.1 he
    rw [isMark] at mark
    exact marking e' he' mark
  · intro a under mark
    obtain ⟨a', under', rfl⟩ := Option.map_eq_some_iff.1 under
    have frame : a'.frame.body.isMark = true := by
      revert mark
      split <;> exact id
    obtain ⟨isMarking, kept, e, he, eMark, entry⟩ := driven a' under' frame
    have notReplaced : ¬(b.queue.any fun e => f.body.replaces e.frame.body && e.arrival == a'.arrival) = true := by
      rw [List.any_eq_true]
      rintro ⟨x, hx, both⟩
      simp only [Bool.and_eq_true, beq_iff_eq] at both
      have := unique he hx (entry.trans both.2.symm)
      subst this
      rw [replaces_mark both.1] at eMark
      cases eMark
    rw [if_neg notReplaced]
    exact ⟨isMarking, kept, e.renewed f, List.mem_map.2 ⟨e, he, rfl⟩, (isMark e).trans eMark, (arrival e).trans entry⟩

/-- Entries leave the queue, and an attempt on a MARK keeps its entry. -/
theorem QueueFit.sublist (h : QueueFit b round) {b' : Bus} (queue : b'.queue.Sublist b.queue)
    (arrival : b'.nextArrival = b.nextArrival)
    (attempt : ∀ a, b'.attempt = some a → a.frame.body.isMark = true → b.attempt = some a ∧
      ∀ e ∈ b.queue, e.frame.body.isMark = true → e.arrival = a.arrival → e ∈ b'.queue) : QueueFit b' round := by
  obtain ⟨short, single, order, nodup, arrived, marking, driven⟩ := h
  constructor
  · exact queue.length_le.trans short
  · exact fun kind => (queue.filter _).length_le.trans (single kind)
  · exact order.sublist queue
  · exact nodup.sublist (queue.map _)
  · intro e he
    rw [arrival]
    exact arrived e (queue.subset he)
  · exact fun e he => marking e (queue.subset he)
  · intro a under isMark
    obtain ⟨was, kept⟩ := attempt a under isMark
    obtain ⟨isMarking, fresh, e, he, eMark, entry⟩ := driven a was isMark
    exact ⟨isMarking, fresh, e, kept e he eMark entry, eMark, entry⟩

theorem QueueFit.displace (h : QueueFit b round) {cls : Nat} (displaced : displaceable b cls = true) :
    QueueFit { b with queue := b.queue.dropLast } round := by
  refine h.sublist (List.dropLast_sublist _) rfl fun a under _ => ⟨under, fun e he _ entry => ?_⟩
  unfold displaceable at displaced
  split at displaced
  · next v last =>
    rw [Bool.and_eq_true, underAttempt, show b.attempt = some a from under] at displaced
    have other : ¬a.arrival = v.arrival := by simpa using displaced.2
    have split := List.dropLast_append_getLast? v last
    rw [← split] at he
    rcases List.mem_append.1 he with kept | isLast
    · exact kept
    · rw [List.mem_singleton.1 isLast] at entry
      exact absurd entry.symm other
  · cases displaced

/-- The queue after a hand-over keeps its law. -/
theorem handFrame_queueFit {s : State} {f : Frame} (h : QueueFit s.bus round)
    (mark : f.body.isMark = true → round = .marking ∧ ∀ e ∈ s.bus.queue, e.frame.body.isMark = false) :
    QueueFit (handFrame f s).bus round := by
  unfold handFrame admission
  split
  · exact h.replace f
  · next joins =>
    split at joins
    · cases joins
    · next first =>
      split at joins
      · cases joins
      · split at joins
        · next room => exact h.join room (by simpa using first) mark
        · split at joins <;> cases joins
  · next displaces =>
    split at displaces
    · cases displaces
    · next first =>
      split at displaces
      · cases displaces
      · split at displaces
        · cases displaces
        · split at displaces
          · next displaced =>
            have mem {e : QueueEntry} (he : e ∈ s.bus.queue.dropLast) : e ∈ s.bus.queue := List.dropLast_subset _ he
            refine (h.displace displaced).join ?_ ?_ fun isMark => ⟨(mark isMark).1, fun e he => (mark isMark).2 e (mem he)⟩
            · have short := h.short
              have nonempty : s.bus.queue ≠ [] := by
                intro empty
                simp [displaceable, empty] at displaced
              have := List.length_pos_of_ne_nil nonempty
              simp only [List.length_dropLast]
              omega
            · rw [Bool.not_eq_true, List.any_eq_false] at first
              exact List.any_eq_false.2 fun e he => first e (mem he)
          · cases displaces
  · exact h.congr (by simp) (by simp) (by simp)

/-- The withdrawal of the MARK leaves no MARK, in whatever round the station stands after it. -/
theorem withdrawMark_queueFit {s : State} (h : QueueFit s.bus round) (round' : Round) :
    QueueFit (withdrawMark s).bus round' := by
  have kept := h.sublist (b' := (withdrawMark s).bus) List.filter_sublist rfl fun a under isMark => by
    obtain ⟨-, other⟩ := Option.filter_eq_some_iff.1 under
    simp [isMark] at other
  obtain ⟨short, single, order, nodup, arrived, -, -⟩ := kept
  refine ⟨short, single, order, nodup, arrived, fun e he isMark => ?_, fun a under isMark => ?_⟩
  · obtain ⟨-, other⟩ := List.mem_filter.1 he
    simp [isMark] at other
  · obtain ⟨-, other⟩ := Option.filter_eq_some_iff.1 under
    simp [isMark] at other

theorem emptyQueue_queueFit (s : State) (round : Round) : QueueFit (emptyQueue s).bus round :=
  ⟨Nat.zero_le _, fun _ => Nat.zero_le _, List.Pairwise.nil, List.nodup_nil, fun _ he => absurd he List.not_mem_nil,
    fun _ he => absurd he List.not_mem_nil, by intro _ h; cases h⟩

end

/-! ### What holds of every frame that waits or is on the line -/

/-- Every frame waiting or on the line has the property. -/
def FramesOk (Q : Frame → Prop) (b : Bus) : Prop := (∀ e ∈ b.queue, Q e.frame) ∧ ∀ a, b.attempt = some a → Q a.frame

theorem FramesOk.congr {Q : Frame → Prop} {b b' : Bus} (h : FramesOk Q b) (queue : b'.queue = b.queue)
    (attempt : b'.attempt = b.attempt) : FramesOk Q b' := by
  unfold FramesOk
  rw [queue, attempt]
  exact h

theorem handFrame_framesOk {Q : Frame → Prop} {s : State} {f : Frame} (h : FramesOk Q s.bus) (hf : Q f) :
    FramesOk Q (handFrame f s).bus := by
  have joined {b : Bus} (h : FramesOk Q b) : FramesOk Q (joinFrame f b) := by
    refine ⟨fun e he => ?_, h.2⟩
    rcases List.mem_cons.1 ((insertByClass_perm _ _).mem_iff.1 he) with rfl | he
    · exact hf
    · exact h.1 e he
  unfold handFrame
  split
  · refine ⟨fun e he => ?_, fun a under => ?_⟩
    · obtain ⟨e', he', rfl⟩ := List.mem_map.1 he
      split
      · exact hf
      · exact h.1 e' he'
    · obtain ⟨a', under', rfl⟩ := Option.map_eq_some_iff.1 under
      split
      · exact h.2 a' under'
      · exact h.2 a' under'
  · exact joined h
  · exact joined ⟨fun e he => h.1 e (List.dropLast_subset _ he), h.2⟩
  · exact h.congr (by simp) (by simp)

theorem withdrawMark_framesOk {Q : Frame → Prop} {s : State} (h : FramesOk Q s.bus) : FramesOk Q (withdrawMark s).bus :=
  ⟨fun e he => h.1 e (List.mem_of_mem_filter he), fun a under => h.2 a (Option.filter_eq_some_iff.1 under).1⟩

/-! ### The law of fault confinement (R173, R174) -/

/-- An empty queue in TX_QUIET and in CONFLICT takes no frame. -/
theorem handFrame_silent {s : State} (f : Frame) (silent : s.bus.txQuiet = true ∨ s.stc.mode = .conflict)
    (empty : s.bus.queue = []) : (handFrame f s).bus = s.bus := by
  have refused : admission s f.body = .refused := by
    rcases silent with quiet | conflict
    · simp [admission, empty, quiet]
    · simp [admission, empty, conflict]
  simp [handFrame, refused]

theorem handFrame_lineLaw (f : Frame) {s : State} (h : LineLaw s) : LineLaw (handFrame f s) := by
  have frame : (handFrame f s).bus.tfc = s.bus.tfc ∧ (handFrame f s).bus.txQuiet = s.bus.txQuiet ∧
      (handFrame f s).bus.recovery = s.bus.recovery := by
    unfold handFrame
    split <;> exact ⟨rfl, rfl, rfl⟩
  obtain ⟨tfcSame, quietSame, recoverySame⟩ := frame
  obtain ⟨tfc, quiet, recovery, silent⟩ := h
  refine ⟨by rw [tfcSame]; exact tfc, by rw [quietSame, tfcSame]; exact quiet, by rw [recoverySame]; exact recovery, ?_⟩
  intro isSilent
  rw [quietSame, show (handFrame f s).stc = s.stc by simp] at isSilent
  rw [handFrame_silent f isSilent (silent isSilent).1]
  exact silent isSilent

end Sys2Proof.Machine
end

section
/-! PROOFS. The capture slots and the probe round (R22 to R44): the law of the slots under each change of a slot, and the law
of the round under its start, its MARK, its emission and its abort. -/

namespace Sys2Proof.Machine

/-! ### Windows (R37, R39) -/

section

variable {w : Window}

theorem newWindow_law (owner : Nat) (stamp : Instant) : WindowLaw (newWindow owner stamp) := by
  simp [WindowLaw, newWindow]

theorem WindowLaw.discarded (h : WindowLaw w) : WindowLaw { w with discard := true } := h

theorem WindowLaw.hear (h : WindowLaw w) (now : Instant) (x : Int) : WindowLaw (w.hear now x) := by
  obtain ⟨best, heard, lead, latest, peaks⟩ := h
  unfold Window.hear windowSamples
  split
  · next takes =>
    refine ⟨best, ?_, (by intro h; cases h), latest, peaks⟩
    have := takes.2.2
    simp only [List.length_cons]
    omega
  · exact ⟨best, heard, lead, latest, peaks⟩

/-- A peak that joins a list of fewer than 8 earlier ones. -/
theorem peaks_join {peaks : List Peak} {p : Peak} {best : Nat} (room : peaks.length < 8)
    (rising : peaks.Pairwise fun p q => p.offset < q.offset) (earlier : ∀ q ∈ peaks, q.offset < p.offset)
    (half : ∀ q ∈ peaks, best ≤ q.score * 2) (high : best ≤ p.score * 2) :
    (∀ q ∈ peaks ++ [p], q.offset ≤ p.offset) ∧ (peaks ++ [p]).length ≤ 8 ∧
    (peaks ++ [p]).Pairwise (fun p q => p.offset < q.offset) ∧ ∀ q ∈ peaks ++ [p], best ≤ q.score * 2 := by
  refine ⟨fun q hq => ?_, ?_, List.pairwise_append.2 ⟨rising, List.pairwise_singleton _ _, fun q hq r hr => ?_⟩, fun q hq => ?_⟩
  · rcases List.mem_append.1 hq with hq | hq
    · exact (earlier q hq).le
    · rw [List.mem_singleton.1 hq]
  · simpa using room
  · rw [List.mem_singleton.1 hr]
    exact earlier q hq
  · rcases List.mem_append.1 hq with hq | hq
    · exact half q hq
    · rw [List.mem_singleton.1 hq]
      exact high

/-- A peak beyond the latest keeps the law of the window (R39). -/
theorem WindowLaw.takePeak (h : WindowLaw w) {offset score : Nat} (le : score ≤ 255)
    (beyond : ∀ l, w.latest = some l → l < offset) : WindowLaw (w.takePeak offset score) := by
  obtain ⟨best, heard, lead, latest, short, rising, half, held⟩ := h
  have earlier : ∀ p ∈ w.peaks, p.offset < offset := by
    intro p hp
    obtain ⟨l, isLatest, le⟩ := latest p hp
    have := beyond l isLatest
    omega
  unfold Window.takePeak
  dsimp only
  split
  · next higher =>
    have sub : (w.peaks.filter fun p => !decide (p.score * 2 < score)).Sublist w.peaks := List.filter_sublist
    have prunedHalf : ∀ p ∈ w.peaks.filter fun p => !decide (p.score * 2 < score), score ≤ p.score * 2 := by
      intro p hp
      obtain ⟨-, kept⟩ := List.mem_filter.1 hp
      simpa using kept
    have prunedEarlier := fun p hp => earlier p (sub.subset hp)
    split
    · next joins =>
      obtain ⟨last, joined, ordered, halves⟩ := peaks_join (p := ⟨offset, score⟩) joins.2 (rising.sublist sub)
        prunedEarlier prunedHalf joins.1
      exact ⟨le, heard, lead, fun p hp => ⟨offset, rfl, last p hp⟩, joined, ordered, halves, fun _ => by simp⟩
    · next full =>
      refine ⟨le, heard, lead, fun p hp => ⟨offset, rfl, (prunedEarlier p hp).le⟩, sub.length_le.trans short,
        rising.sublist sub, prunedHalf, fun _ empty => full ⟨by dsimp only; omega, ?_⟩⟩
      dsimp only at empty ⊢
      simp [empty]
  · split
    · next joins =>
      obtain ⟨last, joined, ordered, halves⟩ := peaks_join (p := ⟨offset, score⟩) joins.2 rising earlier half joins.1
      exact ⟨best, heard, lead, fun p hp => ⟨offset, rfl, last p hp⟩, joined, ordered, halves, fun _ => by simp⟩
    · exact ⟨best, heard, lead, fun p hp => ⟨offset, rfl, (earlier p hp).le⟩, short, rising, half, held⟩

end

/-! ### The slots (R34) -/

/-- The law of the slots over the slots, the round, the position and this station's number. -/
structure SlotsFit (slots : Vector Slot 2) (round : Round) (number : Nat) : Prop where
  windows : ∀ (i : Fin 2) w, slots[i] = .opened w → WindowLaw w
  reserved : ∀ (i : Fin 2) o, slots[i] = .reserved o → o = number ∧ (round = .waking ∨ round = .marking)
  apart : ∀ i j : Fin 2, i ≠ j → slots[i].owner = slots[j].owner → slots[i].owner = none

theorem slotLaw_iff (s : State) :
    SlotLaw s ↔ SlotsFit s.probe.slots s.probe.round s.number ∧ s.probe.position ≤ 8191 := by
  constructor
  · rintro ⟨states, apart, position⟩
    refine ⟨⟨fun i w opened => ?_, fun i o reserved => ?_, fun i j differ same => ?_⟩, position⟩
    · have := states i
      rw [opened] at this
      exact this
    · have := states i
      rw [reserved] at this
      exact this
    · have cases : (i = 0 ∧ j = 1) ∨ (i = 1 ∧ j = 0) := by omega
      rcases cases with ⟨rfl, rfl⟩ | ⟨rfl, rfl⟩
      · exact apart same
      · exact same.trans (apart same.symm)
  · rintro ⟨⟨windows, reserved, apart⟩, position⟩
    refine ⟨fun i => ?_, apart 0 1 (by decide), position⟩
    cases slot : s.probe.slots[i] with
    | free => trivial
    | reserved o => exact reserved i o slot
    | opened w => exact windows i w slot

section

variable {slots slots' : Vector Slot 2} {round round' : Round} {number : Nat}

/-- A change of each slot that gives no slot a new owner. -/
theorem SlotsFit.map (h : SlotsFit slots round number) {g : Slot → Slot}
    (owner : ∀ slot, (g slot).owner = none ∨ (g slot).owner = slot.owner)
    (windows : ∀ slot w, (∀ v, slot = .opened v → WindowLaw v) → (slot = .reserved number ∨ ∀ o, slot ≠ .reserved o) →
      g slot = .opened w → WindowLaw w)
    (reserved : ∀ slot o, g slot = .reserved o → slot = .reserved o ∧ (round' = .waking ∨ round' = .marking)) :
    SlotsFit (mapVector g slots) round' number := by
  refine ⟨fun i w opened => ?_, fun i o isReserved => ?_, fun i j differ same => ?_⟩
  · rw [mapVector_get] at opened
    refine windows _ w (h.windows i) ?_ opened
    cases slot : slots[i] with
    | reserved o => exact .inl (by rw [(h.reserved i o slot).1])
    | free => exact .inr fun o => by simp
    | opened v => exact .inr fun o => by simp
  · rw [mapVector_get] at isReserved
    obtain ⟨was, runs⟩ := reserved _ o isReserved
    exact ⟨(h.reserved i o was).1, runs⟩
  · rw [mapVector_get, mapVector_get] at same
    rw [mapVector_get]
    rcases owner slots[i] with none | keeps
    · exact none
    · rcases owner slots[j] with none' | keeps'
      · exact same.trans none'
      · rw [keeps] at same ⊢
        rw [keeps'] at same
        exact h.apart i j differ same

/-- One slot takes a value whose owner the other slot does not have. -/
theorem SlotsFit.set (h : SlotsFit slots round number) {i : Fin 2} {slot : Slot}
    (windows : ∀ w, slot = .opened w → WindowLaw w)
    (reserved : ∀ o, slot = .reserved o → o = number ∧ (round' = .waking ∨ round' = .marking))
    (others : ∀ j o, j ≠ i → slots[j] = .reserved o → round' = .waking ∨ round' = .marking)
    (apart : ∀ j : Fin 2, j ≠ i → slots[j].owner = slot.owner → slot.owner = none) :
    SlotsFit (slots.set i slot) round' number := by
  have self : (slots.set i slot)[i] = slot := by simp
  have other {j : Fin 2} (differ : j ≠ i) : (slots.set i slot)[j] = slots[j] := by
    have : i.val ≠ j.val := fun eq => differ (Fin.ext eq.symm)
    simp [Vector.getElem_set_ne, this]
  refine ⟨fun j w opened => ?_, fun j o isReserved => ?_, fun j k differ same => ?_⟩
  · by_cases here : j = i
    · subst here
      rw [self] at opened
      exact windows w opened
    · rw [other here] at opened
      exact h.windows j w opened
  · by_cases here : j = i
    · subst here
      rw [self] at isReserved
      exact reserved o isReserved
    · rw [other here] at isReserved
      exact ⟨(h.reserved j o isReserved).1, others j o here isReserved⟩
  · by_cases here : j = i
    · subst here
      rw [self] at same ⊢
      rw [other (Ne.symm differ)] at same
      exact apart k (Ne.symm differ) same.symm
    · by_cases there : k = i
      · subst there
        rw [self] at same
        rw [other here] at same ⊢
        exact same.trans (apart j here same)
      · rw [other here, other there] at same
        rw [other here]
        exact h.apart j k differ same

/-- Where no slot is reserved, the law does not speak of the round. -/
theorem SlotsFit.unreserved (h : SlotsFit slots round number) (none : round ≠ .waking ∧ round ≠ .marking) (round' : Round) :
    SlotsFit slots round' number :=
  ⟨h.windows, fun i o reserved => absurd (h.reserved i o reserved).2 (by simp [none]), h.apart⟩

theorem SlotsFit.freeReserved (h : SlotsFit slots round number) (round' : Round) :
    SlotsFit (mapVector Slot.freeReserved slots) round' number := by
  refine h.map (fun slot => ?_) (fun slot w windows _ opened => ?_) fun slot o reserved => ?_
  · cases slot <;> simp [Slot.freeReserved, Slot.owner]
  · cases slot with
    | opened v => cases opened; exact windows _ rfl
    | _ => cases opened
  · cases slot <;> cases reserved

theorem SlotsFit.cancel (h : SlotsFit slots round number) (p : Nat → Bool) :
    SlotsFit (mapVector (Slot.cancel p) slots) round number := by
  have runs {o : Nat} (slot : Slot) (reserved : Slot.cancel p slot = .reserved o) : slot = .reserved o := by
    cases slot with
    | opened v => simp only [Slot.cancel] at reserved; split at reserved <;> cases reserved
    | _ => exact reserved
  have kept := h.map (g := Slot.cancel p) (round' := if round = .waking ∨ round = .marking then round else .waking)
    (fun slot => ?_) (fun slot w windows _ opened => ?_) fun slot o reserved => ⟨runs slot reserved, ?_⟩
  · refine ⟨kept.windows, fun i o reserved => ?_, kept.apart⟩
    rw [mapVector_get] at reserved
    exact h.reserved i o (runs _ reserved)
  · cases slot with
    | opened v => simp only [Slot.cancel]; split <;> simp [Slot.owner]
    | _ => simp [Slot.cancel]
  · cases slot with
    | opened v =>
      simp only [Slot.cancel] at opened
      split at opened <;> cases opened
      exact windows _ rfl
    | _ => cases opened
  · split
    · next waits => exact waits
    · exact .inl rfl

theorem SlotsFit.openSelf (h : SlotsFit slots round number) (stamp : Instant) (round' : Round) :
    SlotsFit (mapVector (Slot.openSelf stamp) slots) round' number := by
  refine h.map (fun slot => ?_) (fun slot w windows _ opened => ?_) fun slot o reserved => ?_
  · cases slot <;> simp [Slot.openSelf, Slot.owner, newWindow]
  · cases slot with
    | opened v => cases opened; exact windows _ rfl
    | reserved o => cases opened; exact newWindow_law _ _
    | free => cases opened
  · cases slot <;> cases reserved

/-- A change of the windows alone. -/
theorem SlotsFit.mapWindows (h : SlotsFit slots round number) {g : Slot → Slot} {f : Window → Window}
    (opened : ∀ w, g (.opened w) = .opened (f w)) (free : g .free = .free) (reserved : ∀ o, g (.reserved o) = .reserved o)
    (owner : ∀ w, (f w).owner = w.owner) (law : ∀ w, WindowLaw w → WindowLaw (f w)) :
    SlotsFit (mapVector g slots) round number := by
  refine ⟨fun i w isOpened => ?_, fun i o isReserved => ?_, fun i j differ same => ?_⟩
  · rw [mapVector_get] at isOpened
    cases slot : slots[i] with
    | opened v =>
      rw [slot, opened] at isOpened
      cases isOpened
      exact law v (h.windows i v slot)
    | free => rw [slot, free] at isOpened; cases isOpened
    | reserved o => rw [slot, reserved] at isOpened; cases isOpened
  · rw [mapVector_get] at isReserved
    refine h.reserved i o ?_
    cases slot : slots[i] with
    | opened v => rw [slot, opened] at isReserved; cases isReserved
    | free => rw [slot, free] at isReserved; cases isReserved
    | reserved o' => rw [slot, reserved] at isReserved; exact isReserved
  · have same' (k : Fin 2) : (mapVector g slots)[k].owner = slots[k].owner := by
      rw [mapVector_get]
      cases slots[k] with
      | opened v => rw [opened]; exact congrArg some (owner v)
      | free => rw [free]
      | reserved o => rw [reserved]
    rw [same', same'] at same
    rw [same']
    exact h.apart i j differ same

end

theorem hear_owner (now : Instant) (x : Int) (w : Window) : (w.hear now x).owner = w.owner := by
  unfold Window.hear
  split <;> rfl

theorem takePeak_owner (offset score : Nat) (w : Window) : (w.takePeak offset score).owner = w.owner := by
  unfold Window.takePeak
  dsimp only
  repeat' split
  all_goals rfl

end Sys2Proof.Machine
end

section
/-! PROOFS. The laws of the probe round (R23 to R32), of the capture slots (R34), of the transmit queue (R165, R167) and of
fault confinement (R173, R174) together: what the single changes of the Probe Unit and of the line keep. -/

namespace Sys2Proof.Machine

/-! ### The laws together -/

/-- The law of the queue, of the slots and of the round, but for the power state of the probe channel. -/
structure Core (s : State) : Prop where
  queue : QueueFit s.bus s.probe.round
  slots : SlotsFit s.probe.slots s.probe.round s.number
  position : s.probe.position ≤ 8191
  idle : s.stc.mode ≠ .run → s.probe.round = .idle ∧ s.probe.timer = none
  timer : s.probe.round ≠ .idle → s.probe.timer = none
  deadline : s.probe.round ≠ .marking → s.probe.deadline = none
  quiet : s.probe.round ≠ .emitting →
    s.probe.started = false ∧ s.probe.position = 0 ∧ s.probe.startsAt = none ∧ s.probe.lag = 0
  due : s.probe.round = .emitting → s.probe.startsAt.isSome = true
  reserved : s.probe.round = .waking ∨ s.probe.round = .marking → ∃ i : Fin 2, s.probe.slots[i] = .reserved s.number
  dropped : ∀ a, s.bus.attempt = some a → a.dropOnFailure = true → a.frame.body.isMark = true

/-- In MARKING and EMITTING the probe channel's gate is open (R31). -/
def Gate (s : State) : Prop :=
  s.probe.round = .marking ∨ s.probe.round = .emitting → ∃ img, s.image = some img ∧
    (s.channels[img.probeChannel].power = .active ∨ s.channels[img.probeChannel].power = .watch)

/-- The laws of the Probe Unit and of the line. -/
structure Aired (s : State) : Prop where
  core : Core s
  gate : Gate s
  line : LineLaw s

theorem aired_iff (s : State) : Aired s ↔ QueueLaw s ∧ LineLaw s ∧ SlotLaw s ∧ RoundLaw s := by
  constructor
  · rintro ⟨⟨queue, slots, position, idle, timer, deadline, quiet, due, reserved, dropped⟩, gate, line⟩
    exact ⟨(queueLaw_iff s).2 queue, line, (slotLaw_iff s).2 ⟨slots, position⟩, idle, timer, deadline, quiet, due, gate,
      reserved, dropped⟩
  · rintro ⟨queue, line, slots, idle, timer, deadline, quiet, due, gate, reserved, dropped⟩
    obtain ⟨fit, position⟩ := (slotLaw_iff s).1 slots
    exact ⟨⟨(queueLaw_iff s).1 queue, fit, position, idle, timer, deadline, quiet, due, reserved, dropped⟩, gate, line⟩

theorem Lawful.aired {s : State} (h : Lawful s) : Aired s := (aired_iff s).2 ⟨h.queue, h.line, h.slots, h.round⟩

section

variable {s t : State}

/-! ### What the laws speak of -/

theorem Core.same (h : Core s) (queue : t.bus.queue = s.bus.queue) (arrival : t.bus.nextArrival = s.bus.nextArrival)
    (attempt : t.bus.attempt = s.bus.attempt) (probe : t.probe = s.probe) (mode : t.stc.mode = s.stc.mode)
    (number : t.number = s.number) : Core t := by
  obtain ⟨fit, slots, position, idle, timer, deadline, quiet, due, reserved, dropped⟩ := h
  constructor
  · rw [probe]; exact fit.congr queue arrival attempt
  · rw [probe, number]; exact slots
  · rw [probe]; exact position
  · rw [probe, mode]; exact idle
  · rw [probe]; exact timer
  · rw [probe]; exact deadline
  · rw [probe]; exact quiet
  · rw [probe]; exact due
  · rw [probe, number]; exact reserved
  · rw [attempt]; exact dropped

theorem Gate.same (h : Gate s) (round : t.probe.round = s.probe.round) (image : t.image = s.image)
    (power : ∀ c : Fin 4, t.channels[c].power = s.channels[c].power) : Gate t := by
  intro runs
  obtain ⟨img, installed, gate⟩ := h (round ▸ runs)
  exact ⟨img, image.trans installed, by rw [power]; exact gate⟩

theorem gate_of_idle (idle : s.probe.round ≠ .marking ∧ s.probe.round ≠ .emitting) : Gate s :=
  fun runs => absurd runs (by simp [idle])

/-- In TX_QUIET and CONFLICT nothing comes to wait or onto the line. -/
theorem LineLaw.shrink (h : LineLaw s) (tfc : t.bus.tfc = s.bus.tfc) (quiet : t.bus.txQuiet = s.bus.txQuiet)
    (recovery : t.bus.recovery = s.bus.recovery) (mode : t.stc.mode = s.stc.mode)
    (queue : s.bus.queue = [] → t.bus.queue = []) (attempt : s.bus.attempt = none → t.bus.attempt = none) : LineLaw t := by
  obtain ⟨le, iff, count, silent⟩ := h
  refine ⟨by rw [tfc]; exact le, by rw [quiet, tfc]; exact iff, by rw [recovery]; exact count, ?_⟩
  rw [quiet, mode]
  intro isSilent
  obtain ⟨empty, none⟩ := silent isSilent
  exact ⟨queue empty, attempt none⟩

/-- The line, the probe, the image and the power states stand as they did. -/
theorem Aired.same (h : Aired s) (bus : t.bus = s.bus) (probe : t.probe = s.probe) (stc : t.stc = s.stc)
    (image : t.image = s.image) (power : ∀ c : Fin 4, t.channels[c].power = s.channels[c].power) : Aired t :=
  ⟨h.core.same (by rw [bus]) (by rw [bus]) (by rw [bus]) probe (by rw [stc]) (by rw [State.number, State.number, stc]),
    h.gate.same (by rw [probe]) image power,
    h.line.shrink (by rw [bus]) (by rw [bus]) (by rw [bus]) (by rw [stc]) (by rw [bus]; exact id) (by rw [bus]; exact id)⟩

/-- A round runs in RUN alone. -/
theorem Core.run (h : Core s) (runs : s.probe.round ≠ .idle) : s.stc.mode = .run := by
  by_contra other
  exact runs (h.idle other).1

/-! ### Hand-overs -/

theorem handFrame_attempt {f : Frame} {a : Attempt} (under : (handFrame f s).bus.attempt = some a) :
    ∃ a', s.bus.attempt = some a' ∧ a.frame = a'.frame ∧ a.dropOnFailure = a'.dropOnFailure := by
  unfold handFrame at under
  split at under
  · obtain ⟨a', under', rfl⟩ := Option.map_eq_some_iff.1 under
    refine ⟨a', under', ?_⟩
    split <;> exact ⟨rfl, rfl⟩
  all_goals exact ⟨a, under, rfl, rfl⟩

theorem Core.hand (h : Core s) (f : Frame)
    (mark : f.body.isMark = true → s.probe.round = .marking ∧ ∀ e ∈ s.bus.queue, e.frame.body.isMark = false) :
    Core (handFrame f s) := by
  have probe : (handFrame f s).probe = s.probe := by simp
  have stc : (handFrame f s).stc = s.stc := by simp
  have number : (handFrame f s).number = s.number := by rw [State.number, stc, State.number]
  obtain ⟨fit, slots, position, idle, timer, deadline, quiet, due, reserved, dropped⟩ := h
  constructor
  · rw [probe]; exact handFrame_queueFit fit mark
  · rw [probe, number]; exact slots
  · rw [probe]; exact position
  · rw [probe, stc]; exact idle
  · rw [probe]; exact timer
  · rw [probe]; exact deadline
  · rw [probe]; exact quiet
  · rw [probe]; exact due
  · rw [probe, number]; exact reserved
  · intro a under drops
    obtain ⟨a', under', frame, drop⟩ := handFrame_attempt under
    rw [frame]
    exact dropped a' under' (drop ▸ drops)

theorem Aired.hand (h : Aired s) {f : Frame} (other : f.body.isMark = false) : Aired (handFrame f s) :=
  ⟨h.core.hand f (by simp [other]), h.gate.same (by simp) (by simp) (by simp), handFrame_lineLaw f h.line⟩

/-! ### Entering MARKING -/

theorem QueueFit.unmarked {b : Bus} {round : Round} (h : QueueFit b round) (other : round ≠ .marking) :
    ∀ e ∈ b.queue, e.frame.body.isMark = false := by
  intro e he
  by_contra isMark
  exact other (h.marking e he (by simpa using isMark))

/-- Without a MARK the law of the queue does not speak of the round. -/
theorem QueueFit.anyRound {b : Bus} {round : Round} (h : QueueFit b round) (other : round ≠ .marking) (round' : Round) :
    QueueFit b round' :=
  ⟨h.short, h.single, h.order, h.nodup, h.arrived, fun e he isMark => absurd (h.marking e he isMark) other,
    fun a under isMark => absurd (h.driven a under isMark).1 other⟩

theorem Core.mark (h : Core s) (waking : s.probe.round = .waking) : Core (enterMarking s) := by
  have notMarking : s.probe.round ≠ .marking := by simp [waking]
  have marked : Core (s.modProbe fun u => { u with round := .marking, deadline := some 50000 }) := by
    obtain ⟨fit, slots, position, idle, timer, deadline, quiet, due, reserved, dropped⟩ := h
    exact ⟨fit.anyRound notMarking _,
      ⟨slots.windows, fun i o held => ⟨(slots.reserved i o held).1, .inr rfl⟩, slots.apart⟩, position,
      fun other => absurd (idle other).1 (by simp [waking]), fun _ => timer (by simp [waking]), fun other => absurd rfl other,
      fun _ => quiet (by simp [waking]), (by intro h; cases h), fun _ => reserved (.inl waking), dropped⟩
  exact marked.hand _ fun _ => ⟨rfl, h.queue.unmarked notMarking⟩

theorem enterMarking_probe (s : State) :
    (enterMarking s).probe = { s.probe with round := .marking, deadline := some 50000 } := by
  simp [enterMarking]

/-! ### Aborting and cancelling (R30 to R32) -/

theorem Core.abort {round : Round} (queue : QueueFit s.bus round) (slots : SlotsFit s.probe.slots round s.number)
    (dropped : ∀ a, s.bus.attempt = some a → a.dropOnFailure = true → a.frame.body.isMark = true) {conflict : Bool}
    (mode : conflict = false → s.stc.mode = .run) : Core (abortRound conflict s) := by
  have withdrawn := withdrawMark_queueFit queue .idle
  constructor
  · exact withdrawn
  · exact slots.freeReserved _
  · exact Nat.zero_le _
  · intro other
    cases conflict with
    | false => exact absurd (mode rfl) other
    | true => exact ⟨rfl, rfl⟩
  · exact fun runs => absurd rfl runs
  · exact fun _ => rfl
  · exact fun _ => ⟨rfl, rfl, rfl, rfl⟩
  · intro runs; cases runs
  · rintro (runs | runs) <;> cases runs
  · exact fun a under => dropped a (Option.filter_eq_some_iff.1 under).1

theorem Core.aborted (h : Core s) (runs : s.probe.round ≠ .idle) : Core (abortRound false s) :=
  Core.abort h.queue h.slots h.dropped fun _ => h.run runs

theorem Core.cancel (h : Core s) (p : Nat → Bool) : Core (cancelWindows p s) := by
  obtain ⟨fit, slots, position, idle, timer, deadline, quiet, due, reserved, dropped⟩ := h
  refine ⟨fit, slots.cancel p, position, idle, timer, deadline, quiet, due, fun runs => ?_, dropped⟩
  obtain ⟨i, held⟩ := reserved runs
  refine ⟨i, ?_⟩
  show (mapVector (Slot.cancel p) s.probe.slots)[i] = _
  rw [mapVector_get, held]
  rfl

theorem LineLaw.abort (h : LineLaw s) (conflict : Bool) : LineLaw (abortRound conflict s) :=
  h.shrink rfl rfl rfl rfl (fun empty => by simp [abortRound, withdrawMark, empty])
    fun none => by simp [abortRound, withdrawMark, none]

theorem LineLaw.cancel (h : LineLaw s) (p : Nat → Bool) : LineLaw (cancelWindows p s) :=
  h.shrink rfl rfl rfl rfl id id

theorem abortRound_round (conflict : Bool) (s : State) : (abortRound conflict s).probe.round = .idle := rfl

theorem Aired.abort (h : Aired s) (runs : s.probe.round ≠ .idle) : Aired (abortRound false s) :=
  ⟨h.core.aborted runs, gate_of_idle ⟨Round.noConfusion, Round.noConfusion⟩, h.line.abort false⟩

/-! ### The round follows the probe channel (R25, R31) -/

theorem Core.follow (h : Core s) (line : LineLaw s) {p : Power} {img : Image} (image : s.image = some img)
    (power : s.channels[img.probeChannel].power = p) : Aired (probeFollows p s) := by
  have idle {u : State} (core : Core u) (line : LineLaw u) (round : u.probe.round = .idle) : Aired u :=
    ⟨core, gate_of_idle (by simp [round]), line⟩
  unfold probeFollows
  split
  · next round => exact idle h line round
  · next round =>
    have marked (gate : p = .active ∨ p = .watch) : Aired (enterMarking s) :=
      ⟨h.mark round, fun _ => ⟨img, by simpa [enterMarking] using image, by
          rw [show (enterMarking s).channels = s.channels by simp [enterMarking], power]
          exact gate⟩,
        handFrame_lineLaw _ (line.shrink rfl rfl rfl rfl id id)⟩
    have stays : Aired s := ⟨h, gate_of_idle (by simp [round]), line⟩
    have aborted := idle (h.aborted (by simp [round])) (line.abort false) rfl
    cases p with
    | active => exact marked (.inl rfl)
    | watch => exact marked (.inr rfl)
    | fault => exact aborted
    | forcedOff => exact aborted
    | standby => exact stays
    | waking => exact stays
  · next round =>
    split
    · next gate =>
      refine ⟨h, fun _ => ⟨img, image, ?_⟩, line⟩
      rw [power]
      cases p <;> simp_all [Power.gateOpen]
    · exact idle (h.aborted (by simp [round])) (line.abort false) rfl
  · next round =>
    split
    · next gate =>
      refine ⟨h, fun _ => ⟨img, image, ?_⟩, line⟩
      rw [power]
      cases p <;> simp_all [Power.gateOpen]
    · exact idle ((h.aborted (by simp [round])).cancel _) ((line.abort false).cancel _) rfl

theorem bumpBy_zero (k : Counter) (s : State) : bumpBy 0 k s = s := by
  unfold bumpBy State.modCounters
  simp [satIncBy]

/-- The channel's own part of a change of power state, with the wake loss that it counts (R111, R122). -/
def repowered (c : Fin 4) (p : Power) (cause : Option FaultCause) (s : State) : State :=
  bumpBy (if s.channels[c].power = .waking ∧ s.channels[c].wakeLoss = true then 1 else 0) .wakeLosses
    (s.modChannel c (·.toPower p cause (s.standbyDelay * 1000000) (s.wakeLimit c * 1000)))

/-- A change of power state is the channel's own part of it, followed by the round where it is the probe channel (R25, R31). -/
theorem setPower_eq {c : Fin 4} {p : Power} (cause : Option FaultCause) {s : State} (differ : s.channels[c].power ≠ p) :
    setPower c p cause s =
      if s.probeChannel = some c then probeFollows p (repowered c p cause s) else repowered c p cause s := by
  unfold setPower repowered
  rw [if_neg differ]
  by_cases lost : s.channels[c].power = .waking ∧ s.channels[c].wakeLoss = true
  · have marked : (s.channels[c].power == .waking && s.channels[c].wakeLoss) = true := by
      rw [Bool.and_eq_true, beq_iff_eq]
      exact lost
    rw [if_pos lost]
    dsimp only
    rw [marked]
    rfl
  · have unmarked : (s.channels[c].power == .waking && s.channels[c].wakeLoss) = false := by
      rw [← Bool.not_eq_true, Bool.and_eq_true, beq_iff_eq]
      exact lost
    rw [if_neg lost, bumpBy_zero]
    dsimp only
    rw [unmarked]
    rfl

theorem repowered_self (c : Fin 4) (p : Power) (cause : Option FaultCause) (s : State) :
    (repowered c p cause s).channels[c] =
      s.channels[c].toPower p cause (s.standbyDelay * 1000000) (s.wakeLimit c * 1000) :=
  modChannel_get_self s c _

theorem repowered_other {c d : Fin 4} (differ : d ≠ c) (p : Power) (cause : Option FaultCause) (s : State) :
    (repowered c p cause s).channels[d] = s.channels[d] :=
  modChannel_get_other s differ _

theorem aired_powerStable : PowerStable Aired := by
  intro s c p cause _ h
  by_cases same : s.channels[c].power = p
  · rw [setPower, if_pos same]
    exact h
  have core : Core (repowered c p cause s) := h.core.same rfl rfl rfl rfl rfl rfl
  have line : LineLaw (repowered c p cause s) := h.line.shrink rfl rfl rfl rfl id id
  rw [setPower_eq cause same]
  split
  · next followed =>
    obtain ⟨img, installed, rfl⟩ := Option.map_eq_some_iff.1 followed
    exact core.follow line installed (by rw [repowered_self]; simp)
  · next elsewhere =>
    refine ⟨core, fun runs => ?_, line⟩
    obtain ⟨img, installed, gate⟩ := h.gate runs
    have differ : img.probeChannel ≠ c := by
      rintro rfl
      exact elsewhere (by simp [State.probeChannel, installed])
    exact ⟨img, installed, by rw [repowered_other differ]; exact gate⟩

theorem modChannel_power {s : State} (c d : Fin 4) {f : Channel → Channel}
    (power : (f s.channels[c]).power = s.channels[c].power) :
    (s.modChannel c f).channels[d].power = s.channels[d].power := by
  by_cases here : d = c
  · subst here
    rw [modChannel_get_self, power]
  · rw [modChannel_get_other _ here]

theorem aired_stable : Stable Aired where
  power := aired_powerStable
  channel := fun c _ power _ _ h => h.same rfl rfl rfl rfl fun d => modChannel_power c d power
  bumped := fun n k h => h.same rfl rfl rfl rfl fun _ => rfl
  handed := fun other _ h => h.hand other
  aligned := fun {s} _ h =>
    Aired.same (h.hand (f := ⟨s.number, 63, .align (composeAlign s)⟩) rfl) rfl rfl rfl rfl fun _ => rfl
  triggered := fun h => h.same (by simp) (by simp) (by simp) (by simp) (by simp)
  tabled := fun _ _ _ h => h.same rfl rfl rfl rfl fun _ => rfl
  banded := fun _ _ h => h.same rfl rfl rfl rfl fun _ => rfl
  discarded := fun {s} station h => by
    obtain ⟨⟨fit, slots, position, idle, timer, deadline, quiet, due, reserved, dropped⟩, gate, line⟩ := h
    refine ⟨⟨fit, ?_, position, idle, timer, deadline, quiet, due, fun runs => ?_, dropped⟩, gate, line⟩
    · refine slots.mapWindows (g := Slot.discardFor station)
        (f := fun w => if w.owner = station then { w with discard := true } else w) (fun w => ?_) rfl (fun _ => rfl) (fun w => ?_)
        fun w law => ?_
      · exact (apply_ite Slot.opened (w.owner = station) _ _).symm
      · split <;> rfl
      · split <;> exact law
    · obtain ⟨i, held⟩ := reserved runs
      refine ⟨i, ?_⟩
      show (mapVector (Slot.discardFor station) s.probe.slots)[i] = _
      rw [mapVector_get, held]
      rfl

/-- EMERGENCY entry at the Probe Unit (R33, R44). -/
theorem Aired.probeEmergency (h : Aired s) : Aired (probeEmergency s) := by
  have calm : Aired (if s.probe.round = .idle then s else abortRound false s) := by
    split
    · exact h
    · next runs => exact h.abort runs
  exact ⟨calm.core.cancel _, calm.gate.same rfl rfl fun _ => rfl, calm.line.cancel _⟩

theorem aired_closed : Closed Aired where
  toStable := aired_stable
  emc := fun _ _ h => h.same rfl rfl rfl rfl fun _ => rfl
  freed := fun _ h => h.same rfl rfl rfl rfl fun _ => rfl
  entered := fun {s} _ h => by
    have probed := Aired.probeEmergency (s := s.modEmc fun e => { e with emergency := true })
      (h.same rfl rfl rfl rfl fun _ => rfl)
    exact aired_stable.emergencyValues (probed.same (by simp [setFreeze]) (by simp [setFreeze]) (by simp [setFreeze])
      (by simp [setFreeze]) (by simp [setFreeze]))
  left := fun h' h => aired_stable.ordinaryValues (h.same (by simp [setFreeze]) (by simp [setFreeze]) (by simp [setFreeze])
      (by simp [setFreeze]) (by simp [setFreeze]))

end

end Sys2Proof.Machine
end

section
/-! PROOFS. The laws of the Probe Unit and of the line (R22 to R44, R165 to R174) through every turn. -/

namespace Sys2Proof.Machine

/-! ### Power states and gain targets that stay -/

/-- The power state, the applied delay of a sounding channel and the output of the last sample stay. -/
structure Alike (a b : Channel) : Prop where
  power : b.power = a.power
  applied : a.power.sounding = true → b.applied = a.applied
  output : b.output = a.output

theorem Alike.refl (a : Channel) : Alike a a := ⟨rfl, fun _ => rfl, rfl⟩

theorem Alike.trans {a m b : Channel} (h : Alike a m) (h' : Alike m b) : Alike a b :=
  ⟨h'.power.trans h.power, fun sounds => (h'.applied (h.power ▸ sounds)).trans (h.applied sounds), h'.output.trans h.output⟩

theorem request_alike (w : Setting) (ch : Channel) : Alike ch (ch.request w) := by
  obtain ⟨power, -, -, applied, output⟩ := request_frame w ch
  exact ⟨power, fun _ => applied, output⟩

theorem takeTarget_alike (t : Nat) (ch : Channel) : Alike ch (ch.takeTarget t) := by
  unfold Channel.takeTarget
  split
  · exact .refl ch
  · split
    · exact ⟨rfl, fun _ => rfl, rfl⟩
    · next silent => exact ⟨rfl, fun sounds => absurd sounds silent, rfl⟩

/-- Every channel is as it was in these, and its gain target stands. -/
def KeepsPower (s t : State) : Prop :=
  ∀ c : Fin 4, Alike s.channels[c] t.channels[c] ∧ t.channels[c].gainTarget = s.channels[c].gainTarget

section

variable {s t u : State}

theorem KeepsPower.refl (s : State) : KeepsPower s s := fun _ => ⟨.refl _, rfl⟩

theorem KeepsPower.of_eq (h : t.channels = s.channels) : KeepsPower s t := fun c => by rw [h]; exact ⟨.refl _, rfl⟩

theorem KeepsPower.trans (h : KeepsPower s t) (h' : KeepsPower t u) : KeepsPower s u :=
  fun c => ⟨(h c).1.trans (h' c).1, (h' c).2.trans (h c).2⟩

theorem KeepsPower.after (h : KeepsPower u t) (same : u.channels = s.channels) : KeepsPower s t :=
  (KeepsPower.of_eq same).trans h

theorem KeepsPower.power (h : KeepsPower s t) (c : Fin 4) : t.channels[c].power = s.channels[c].power := (h c).1.power

theorem requestAll_keepsPower (s : State) : KeepsPower s (requestAll s) := fun c => by
  rw [requestAll_get]
  exact ⟨request_alike _ _, (request_frame _ _).2.2.1⟩

theorem formTargets_keepsPower (s : State) : KeepsPower s (formTargets s) := fun c => by
  rw [formTargets_get]
  refine ⟨takeTarget_alike _ _, ?_⟩
  unfold Channel.takeTarget
  repeat' split
  all_goals rfl

theorem refreshShelf_keepsPower (s : State) : KeepsPower s (refreshShelf s) := by
  unfold refreshShelf
  dsimp only
  split
  · exact .refl s
  · exact (requestAll_keepsPower _).after rfl

theorem setDelayTarget_keepsPower (d : Nat) (s : State) : KeepsPower s (setDelayTarget d s) := by
  unfold setDelayTarget
  split
  · exact .refl s
  · exact (formTargets_keepsPower _).after rfl

theorem setPathTime_keepsPower (p : Nat) (s : State) : KeepsPower s (setPathTime p s) := by
  unfold setPathTime testPathBand
  split
  · exact .refl s
  · split
    · exact .of_eq rfl
    · split
      · exact .of_eq rfl
      · exact (refreshShelf_keepsPower _).after rfl

theorem trigger_keepsPower (s : State) : KeepsPower s (trigger s) := .of_eq (by simp)

/-- D and the path time take values. -/
theorem handOver_keepsPower (p d : Nat) (f : Solver → Solver) (s : State) :
    KeepsPower s (setPathTime p (setDelayTarget d (s.modSolver f))) :=
  have moved : KeepsPower s (setDelayTarget d (s.modSolver f)) :=
    (setDelayTarget_keepsPower d _).after rfl
  moved.trans (setPathTime_keepsPower p _)

theorem solvePass_keepsPower (s : State) : KeepsPower s (solvePass s) := by
  have computed : KeepsPower s (computePass s) := .of_eq rfl
  unfold solvePass
  dsimp only
  split
  · exact computed
  · split
    · exact computed.trans (handOver_keepsPower _ _ _ _)
    · refine computed.trans (.of_eq ?_)
      unfold applyNone
      split <;> rfl

theorem holdExpired_keepsPower (s : State) : KeepsPower s (holdExpired s) := handOver_keepsPower _ _ _ _

theorem solverSetup_keepsPower (s : State) : KeepsPower s (solverSetup s) := by
  unfold solverSetup
  split
  · exact handOver_keepsPower _ _ _ _
  · exact (handOver_keepsPower _ _ _ s).trans (trigger_keepsPower _)

/-! ### Power states while no round runs -/

/-- The line and the Probe Unit stand as they did. -/
def SameAir (s t : State) : Prop := t.bus = s.bus ∧ t.probe = s.probe

/-- While no round runs, no change of a power state reaches the probe or the line (R25, R31). -/
theorem quiet_powerStable (idle : s.probe.round = .idle) : PowerStable (SameAir s) := by
  intro u c power cause _ h
  obtain ⟨bus, probe⟩ := h
  by_cases same : u.channels[c].power = power
  · rw [setPower, if_pos same]
    exact ⟨bus, probe⟩
  · have round : (repowered c power cause u).probe.round = .idle := by
      show u.probe.round = .idle
      rw [probe, idle]
    rw [setPower_eq cause same]
    unfold probeFollows
    rw [round]
    split <;> exact ⟨bus, probe⟩

/-! ### The start of a round (R24) -/

theorem slot_mem (v : Vector Slot 2) (i : Fin 2) : v[i] ∈ v.toList := by simp

theorem slots_all {p : Slot → Bool} {v : Vector Slot 2} : v.toList.all p = true ↔ ∀ i : Fin 2, p v[i] = true := by
  rw [List.all_eq_true]
  constructor
  · exact fun h i => h _ (by simp)
  · intro h slot mem
    obtain ⟨i, lt, rfl⟩ := List.mem_iff_getElem.1 mem
    exact h ⟨i, by simpa using lt⟩

theorem freeSlot_some {s : State} {i : Fin 2} (h : freeSlot s = some i) : s.probe.slots[i] = .free := by
  have free := List.find?_some h
  cases slot : s.probe.slots[i] with
  | free => rfl
  | reserved o => rw [slot] at free; cases free
  | opened w => rw [slot] at free; cases free

/-- The seven conditions, spelled out (R24). -/
theorem startConditions_iff (s : State) :
    startConditions s = true ↔
      s.stc.mode = .run ∧ s.emc.emergency = false ∧ s.bus.txQuiet = false ∧ s.probe.round = .idle ∧
      (∀ i : Fin 2, s.probe.slots[i].owner ≠ some s.number) ∧ (∃ i, freeSlot s = some i) ∧
      ∃ c, s.probeChannel = some c ∧ probePowerAllows s.channels[c].power = true := by
  unfold startConditions
  simp only [Bool.and_eq_true, slots_all, beq_iff_eq, Bool.not_eq_true', State.inEmergency, bne_iff_ne,
    Option.isSome_iff_exists, and_assoc]
  cases s.probeChannel with
  | none => simp
  | some c => simp

/-- The state of a round that waits for its channel (R24). -/
def roundWaits (i : Fin 2) (s : State) : State :=
  ((setSlot i (.reserved s.number) s).modProbe fun u => { u with timer := none }).modProbe fun u => { u with round := .waking }

theorem roundWaits_core (i : Fin 2) (h : Core s) (run : s.stc.mode = .run) (idle : s.probe.round = .idle)
    (other : ∀ i : Fin 2, s.probe.slots[i].owner ≠ some s.number) : Core (roundWaits i s) := by
  obtain ⟨fit, slots, position, -, timer, deadline, quiet, due, reserved, dropped⟩ := h
  have unmarked : s.probe.round ≠ .marking := by simp [idle]
  refine ⟨fit.anyRound unmarked _, ?_, position, fun out => absurd run out, fun _ => rfl, fun _ => deadline unmarked,
    fun _ => quiet (by simp [idle]), (by intro h; cases h), fun _ => ⟨i, ?_⟩, dropped⟩
  · refine slots.set (by intro w h; cases h) (fun o h => ?_) (fun _ _ _ _ => .inl rfl) fun j _ same => ?_
    · cases h
      exact ⟨rfl, .inl rfl⟩
    · exact absurd same (other j)
  · exact Vector.getElem_set_self i.isLt

theorem Aired.startRound (h : Aired s) (conditions : startConditions s = true) : Aired (startRound s) := by
  obtain ⟨run, -, -, idle, other, ⟨i, free⟩, c, probeChannel, allows⟩ := (startConditions_iff s).1 conditions
  obtain ⟨img, image, rfl⟩ := Option.map_eq_some_iff.1 probeChannel
  have core := roundWaits_core i h.core run idle other
  have waits : Aired (roundWaits i s) :=
    ⟨core, gate_of_idle ⟨Round.noConfusion, Round.noConfusion⟩, h.line.shrink rfl rfl rfl rfl id id⟩
  have marks (gate : s.channels[img.probeChannel].power = .active ∨ s.channels[img.probeChannel].power = .watch) :
      Aired (enterMarking (roundWaits i s)) :=
    ⟨core.mark rfl, fun _ => ⟨img, by simpa [enterMarking, roundWaits, setSlot] using image, by
      rw [show (enterMarking (roundWaits i s)).channels = s.channels by
        rw [enterMarking, handFrame_eq]
        rfl]
      exact gate⟩, handFrame_lineLaw _ (h.line.shrink rfl rfl rfl rfl id id)⟩
  unfold Machine.startRound
  rw [probeChannel, free]
  dsimp only
  split
  · next power => exact marks (.inl power)
  · next power => exact marks (.inr power)
  · exact PowerStable.enterWaking aired_powerStable _ waits
  · exact waits
  · next power => rw [show s.channels[img.probeChannel].power = .forcedOff from power] at allows; cases allows
  · next power => rw [show s.channels[img.probeChannel].power = .fault from power] at allows; cases allows

/-! ### Cue actions -/

/-- The solver and the cue engine are no part of these laws. -/
theorem Aired.unheard (h : Aired s) (bus : t.bus = s.bus) (probe : t.probe = s.probe) (stc : t.stc = s.stc)
    (image : t.image = s.image) (channels : t.channels = s.channels) : Aired t :=
  h.same bus probe stc image fun c => by rw [channels]

theorem Aired.takeAction (h : Aired s) : Aired (takeAction s) := by
  unfold Machine.takeAction
  split
  · split
    · exact aired_stable.bump _ (h.unheard rfl rfl rfl rfl rfl)
    · next a decoded =>
      have performed : Aired (performAction a s) := by
        refine aired_stable.performAction (decodeAction_ok decoded).1 h (fun _ => ?_)
          (fun _ => h.unheard rfl rfl rfl rfl rfl) (fun _ => aired_stable.triggered (h.unheard rfl rfl rfl rfl rfl))
          fun v _ => aired_stable.triggered (h.unheard rfl rfl rfl rfl rfl)
        unfold probeAction
        split
        · next conditions => exact h.startRound conditions
        · exact aired_stable.bump _ h
      unfold advanceList
      split <;> exact performed.unheard rfl rfl rfl rfl rfl
  · exact h

/-! ### Windows -/

theorem setSlot_core {i : Fin 2} {slot : Slot} (h : Core s) (slots : SlotsFit (s.probe.slots.set i slot) s.probe.round s.number)
    (kept : ∀ o, s.probe.slots[i] ≠ .reserved o) : Core (setSlot i slot s) := by
  obtain ⟨fit, -, position, idle, timer, deadline, quiet, due, reserved, dropped⟩ := h
  refine ⟨fit, slots, position, idle, timer, deadline, quiet, due, fun runs => ?_, dropped⟩
  obtain ⟨j, held⟩ := reserved runs
  refine ⟨j, ?_⟩
  have differ : i.val ≠ j.val := by
    intro same
    obtain rfl : i = j := Fin.ext same
    exact kept _ held
  exact (Vector.getElem_set_ne i.isLt j.isLt differ).trans held

theorem Aired.setSlot (h : Aired s) {i : Fin 2} {slot : Slot}
    (slots : SlotsFit (s.probe.slots.set i slot) s.probe.round s.number) (kept : ∀ o, s.probe.slots[i] ≠ .reserved o) :
    Aired (setSlot i slot s) :=
  ⟨setSlot_core h.core slots kept, h.gate.same rfl rfl fun _ => rfl, h.line.shrink rfl rfl rfl rfl id id⟩

theorem Aired.free (h : Aired s) {i : Fin 2} {w : Window} (opened : s.probe.slots[i] = .opened w) :
    Aired (Machine.setSlot i .free s) :=
  h.setSlot (h.core.slots.set (by intro _ h; cases h) (by intro _ h; cases h) (fun j o _ held => (h.core.slots.reserved j o held).2)
    fun _ _ _ => rfl) fun o => by simp [opened]

theorem Aired.takePeak (h : Aired s) {i : Fin 2} {w : Window} (opened : s.probe.slots[i] = .opened w) {offset score : Nat}
    (le : score ≤ 255) (beyond : ∀ l, w.latest = some l → l < offset) :
    Aired (Machine.setSlot i (.opened (w.takePeak offset score)) s) := by
  have law := h.core.slots.windows i w opened
  refine h.setSlot (h.core.slots.set (fun v eq => ?_) (by intro _ h; cases h)
    (fun j o _ held => (h.core.slots.reserved j o held).2) fun j differ same => ?_) fun o => by simp [opened]
  · cases eq
    exact law.takePeak le beyond
  · have owner : s.probe.slots[j].owner = s.probe.slots[i].owner := by
      rw [same, opened]
      exact congrArg some (takePeak_owner _ _ _)
    have none := h.core.slots.apart j i differ owner
    rw [owner, opened] at none
    cases none

theorem Aired.takeMark (station : Nat) (stamp : Instant) (other : station ≠ s.number) (h : Aired s) :
    Aired (takeMark station stamp s) := by
  unfold Machine.takeMark
  split
  · exact h
  · next i _ =>
    have stamped : Aired (s.modPeer i fun e => { e with lastMark := some stamp }) := aired_stable.modPeer _ _ h
    generalize hu : (s.modPeer i fun e => { e with lastMark := some stamp }) = u at stamped
    have number : u.number = s.number := by rw [← hu]; rfl
    dsimp only
    split
    · exact stamped
    · split
      · exact aired_stable.bump _ stamped
      · next open' =>
        split
        · next j free =>
          have isFree := freeSlot_some free
          refine stamped.setSlot (stamped.core.slots.set (fun w eq => ?_) (by intro _ h; cases h)
            (fun k o _ held => (stamped.core.slots.reserved k o held).2) fun k _ same => ?_) fun o => by simp [isFree]
          · cases eq
            exact newWindow_law _ _
          · exfalso
            cases slot : u.probe.slots[k] with
            | free => rw [slot] at same; cases same
            | reserved o =>
              rw [slot] at same
              cases same
              exact other ((stamped.core.slots.reserved k _ slot).1.trans number)
            | opened w =>
              have owner : w.owner = station := by
                rw [slot] at same
                exact Option.some.inj same
              have isOpen : Slot.openFor (· == station) u.probe.slots[k] = true := by simp [slot, Slot.openFor, owner]
              exact open' (List.any_eq_true.2 ⟨_, slot_mem _ k, isOpen⟩)
        · exact aired_stable.bump _ stamped

/-! ### The emission and the programme samples (R28, R37) -/

theorem Aired.endEmission (h : Aired s) (emitting : s.probe.round = .emitting) : Aired (endEmission s) := by
  have run := h.core.run (by simp [emitting])
  obtain ⟨fit, slots, position, -, timer, deadline, quiet, due, reserved, dropped⟩ := h.core
  refine ⟨⟨fit.anyRound (by simp [emitting]) _, slots.unreserved (by simp [emitting]) _, Nat.zero_le _,
    fun out => absurd run out, fun runs => absurd rfl runs, fun _ => deadline (by simp [emitting]),
    fun _ => ⟨rfl, rfl, rfl, rfl⟩, (by intro h; cases h), (by rintro (h | h) <;> cases h), dropped⟩,
    gate_of_idle ⟨Round.noConfusion, Round.noConfusion⟩, h.line.shrink rfl rfl rfl rfl id id⟩

/-- The emission's own fields change while it runs. -/
theorem Aired.emits (h : Aired s) (emitting : s.probe.round = .emitting) {f : ProbeUnit → ProbeUnit}
    (same : f s.probe = { s.probe with
      started := (f s.probe).started, lag := (f s.probe).lag, position := (f s.probe).position })
    (le : (f s.probe).position ≤ 8191) : Aired (s.modProbe f) := by
  obtain ⟨⟨fit, slots, position, idle, timer, deadline, quiet, due, reserved, dropped⟩, gate, line⟩ := h
  have probe : (s.modProbe f).probe = f s.probe := rfl
  constructor
  · constructor
    all_goals (try rw [probe, same])
    · exact fit
    · exact slots
    · exact le
    · exact idle
    · exact timer
    · exact deadline
    · exact fun other => absurd emitting other
    · exact due
    · exact reserved
    · exact dropped
  · exact gate.same (by rw [probe, same]) rfl fun _ => rfl
  · exact line.shrink rfl rfl rfl rfl id id

theorem Aired.hearSample (h : Aired s) (x : Int) : Aired (hearSample x s) := by
  obtain ⟨⟨fit, slots, position, idle, timer, deadline, quiet, due, reserved, dropped⟩, gate, line⟩ := h
  refine ⟨⟨fit, slots.mapWindows (f := Window.hear s.timeBase x) (fun _ => rfl) rfl (fun _ => rfl) (hear_owner _ _)
    fun w law => law.hear _ _, position, idle, timer, deadline, quiet, due, fun runs => ?_, dropped⟩,
    gate.same rfl rfl fun _ => rfl, line.shrink rfl rfl rfl rfl id id⟩
  obtain ⟨i, held⟩ := reserved runs
  refine ⟨i, ?_⟩
  show (mapVector (Slot.hear s.timeBase x) s.probe.slots)[i] = _
  rw [mapVector_get, held]
  rfl

theorem Aired.placeEmission (h : Aired s) : Aired (placeEmission s) := by
  unfold Machine.placeEmission
  split
  · next due startsAt =>
    split
    · have emitting : s.probe.round = .emitting := by
        by_contra other
        rw [(h.core.quiet other).2.2.1] at startsAt
        cases startsAt
      exact h.emits emitting rfl h.core.position
    · exact h
  · exact h

theorem Aired.advanceEmission (h : Aired s) : Aired (advanceEmission s) := by
  unfold Machine.advanceEmission
  split
  · next emits =>
    split
    · exact h.endEmission emits.1
    · next last => exact h.emits emits.1 rfl (Nat.lt_of_not_le last)
  · exact h

theorem sampleChannel_power (c d : Fin 4) (s : State) :
    (sampleChannel c s).channels[d].power = s.channels[d].power ∧
    (sampleChannel c s).channels[d].gainTarget = s.channels[d].gainTarget := by
  by_cases here : d = c
  · subst here
    have stepped (ch : Channel) : ch.stepCrossfade.power = ch.power ∧ ch.stepCrossfade.gainTarget = ch.gainTarget := by
      unfold Channel.stepCrossfade
      repeat' split
      all_goals simp
    unfold sampleChannel
    dsimp only
    rw [modChannel_get_self]
    show (equalise s d _ _).stepCrossfade.power = _ ∧ (equalise s d _ _).stepCrossfade.gainTarget = _
    rw [(stepped _).1, (stepped _).2, equalise_frame]
    simp
  · unfold sampleChannel
    dsimp only
    rw [modChannel_get_other _ here]
    exact ⟨rfl, rfl⟩

theorem Aired.takeSample (x microphone : Int) (h : Aired s) : Aired (takeSample x microphone s) := by
  have written : Aired (writeSample x (judgeSample s x) (setJudgement (judgeSample s x) s)) :=
    (aired_stable.setJudgement (judgeSample s x) h).unheard rfl rfl rfl rfl rfl
  have placed := (written.hearSample microphone).placeEmission
  have sampled := PowerStable.pass (P := Aired) (f := sampleChannel)
    (fun c u hu => hu.same rfl rfl rfl rfl fun d => (sampleChannel_power c d u).1) placed
  exact Aired.advanceEmission (sampled.unheard rfl rfl rfl rfl rfl)

/-! ### The line (R169 to R173) -/

/-- An attempt under way drives in a station that is neither in TX_QUIET nor in CONFLICT. -/
theorem LineLaw.driving (h : LineLaw s) {a : Attempt} (under : s.bus.attempt = some a) :
    s.bus.txQuiet = false ∧ s.stc.mode ≠ .conflict ∧ s.bus.tfc < 64 := by
  obtain ⟨-, iff, -, silent⟩ := h
  have drives : ¬(s.bus.txQuiet = true ∨ s.stc.mode = .conflict) := fun isSilent => by
    rw [(silent isSilent).2] at under
    cases under
  rw [not_or] at drives
  refine ⟨by simpa using drives.1, drives.2, ?_⟩
  by_contra high
  exact drives.1 (iff.2 (by omega))

theorem Aired.recover (h : Aired s) : Aired (recover s) := by
  refine ⟨h.core.same rfl rfl rfl rfl rfl rfl, h.gate.same rfl rfl fun _ => rfl, Nat.zero_le _, by simp [Machine.recover],
    by simp [Machine.recover], fun silent => h.line.2.2.2 (.inr ?_)⟩
  simpa [Machine.recover] using silent

theorem Aired.countValid (h : Aired s) : Aired (countValid s) := by
  have counted : Aired (bump .rxGood s) := aired_stable.bump _ h
  unfold Machine.countValid
  generalize bump .rxGood s = u at counted
  dsimp only
  split
  · split
    · exact counted.recover
    · next quiet more =>
      obtain ⟨core, gate, tfc, iff, recovery, silent⟩ := counted
      exact ⟨core.same rfl rfl rfl rfl rfl rfl, gate.same rfl rfl fun _ => rfl, tfc, iff,
        show u.bus.recovery + 1 < 128 by omega, silent⟩
  · exact counted

theorem Aired.beginAttempt (h : Aired s) {head : QueueEntry} {rest : List QueueEntry} (queue : s.bus.queue = head :: rest)
    (may : mayAttempt s = true) (idleMicros : Nat) :
    Aired (s.modBus fun b => { beginAttempt head rest b with idleMicros := idleMicros }) := by
  simp only [mayAttempt, Bool.and_eq_true, Bool.not_eq_true', bne_iff_ne] at may
  obtain ⟨⟨quiet, mode⟩, -⟩ := may
  obtain ⟨⟨fit, slots, position, idle, timer, deadline, probeQuiet, due, reserved, -⟩, gate, tfc, iff, recovery, -⟩ := h
  have renewed : QueueFit { s.bus with queue := { head with attempted := true } :: rest, attempt := none } s.probe.round := by
    obtain ⟨short, single, order, nodup, arrived, marking, -⟩ := fit
    rw [queue] at short order nodup arrived marking
    refine ⟨short, fun {p} kind => ?_, List.pairwise_cons.2 ⟨(List.pairwise_cons.1 order).1, (List.pairwise_cons.1 order).2⟩, nodup, fun e he => ?_,
      fun e he => ?_, by intro _ h; cases h⟩
    · have one := single kind
      rw [queue] at one
      simpa only [List.filter_cons, apply_ite List.length, List.length_cons] using one
    · rcases List.mem_cons.1 he with rfl | he
      · exact arrived head List.mem_cons_self
      · exact arrived e (List.mem_cons_of_mem _ he)
    · rcases List.mem_cons.1 he with rfl | he
      · exact marking head List.mem_cons_self
      · exact marking e (List.mem_cons_of_mem _ he)
  refine ⟨⟨?_, slots, position, idle, timer, deadline, probeQuiet, due, reserved, ?_⟩, gate.same rfl rfl fun _ => rfl,
    tfc, iff, recovery, fun silent => ?_⟩
  · obtain ⟨short, single, order, nodup, arrived, marking, -⟩ := renewed
    refine ⟨short, single, order, nodup, arrived, marking, fun a under isMark => ?_⟩
    cases under
    exact ⟨marking _ List.mem_cons_self isMark, rfl, _, List.mem_cons_self, isMark, rfl⟩
  · intro a under drops
    cases under
    cases drops
  · exact absurd silent (by simp [State.modBus, Machine.beginAttempt, quiet, mode])

/-- The entry of a MARK on the line is the only MARK that waits. -/
theorem QueueFit.onlyMark {b : Bus} {round : Round} (h : QueueFit b round) {a : Attempt} (under : b.attempt = some a)
    (isMark : a.frame.body.isMark = true) {e : QueueEntry} (he : e ∈ b.queue) (mark : e.frame.body.isMark = true) :
    e.arrival = a.arrival := by
  obtain ⟨-, -, e', he', mark', entry⟩ := h.driven a under isMark
  have one := h.single (.inr (.inr (.inl rfl)))
  have mem : e ∈ b.queue.filter (·.frame.body.isMark) := List.mem_filter.2 ⟨he, mark⟩
  have mem' : e' ∈ b.queue.filter (·.frame.body.isMark) := List.mem_filter.2 ⟨he', mark'⟩
  obtain ⟨x, only⟩ := List.length_eq_one_iff.1 (Nat.le_antisymm one (List.length_pos_of_mem mem))
  rw [only, List.mem_singleton] at mem mem'
  rw [mem, ← mem', entry]

/-- A driven frame leaves the line, and its entry may leave the queue (R171). -/
theorem Core.undriven (h : Core s) {f : Bus → Bus} (queue : (f s.bus).queue.Sublist s.bus.queue)
    (arrival : (f s.bus).nextArrival = s.bus.nextArrival) (attempt : (f s.bus).attempt = none) : Core (s.modBus f) := by
  obtain ⟨fit, slots, position, idle, timer, deadline, quiet, due, reserved, -⟩ := h
  have none {a : Attempt} (under : (s.modBus f).bus.attempt = some a) : False := by
    rw [show (s.modBus f).bus.attempt = none from attempt] at under
    cases under
  exact ⟨fit.sublist queue arrival fun a under => (none under).elim, slots, position, idle, timer, deadline, quiet, due,
    reserved, fun a under => (none under).elim⟩

theorem Aired.txSuccess (h : Aired s) {a : Attempt} (under : s.bus.attempt = some a) :
    Aired (bump .txGood (s.modBus (attemptSucceeded a))) := by
  obtain ⟨quiet, mode, low⟩ := h.line.driving under
  obtain ⟨core, gate, tfc, iff, recovery, silent⟩ := h
  have sub : (attemptSucceeded a s.bus).queue.Sublist s.bus.queue := by
    unfold attemptSucceeded
    dsimp only
    split
    · exact List.Sublist.refl _
    · exact List.filter_sublist
  refine aired_stable.bump _ ⟨core.undriven sub rfl rfl, gate.same rfl rfl fun _ => rfl, ?_, ?_, recovery, fun isSilent => ?_⟩
  · show s.bus.tfc - 1 ≤ 71
    omega
  · show s.bus.txQuiet = true ↔ 64 ≤ s.bus.tfc - 1
    rw [quiet]
    exact ⟨fun h => Bool.noConfusion h, fun high => absurd high (by omega)⟩
  · exact absurd isSilent (by simp [State.modBus, attemptSucceeded, quiet, mode])

/-- The own end-of-MARK takes the round from MARKING to EMITTING (R26, R36), once no MARK waits. -/
theorem Aired.ownEndOfMark (h : Aired s) (stamp : Instant) (noMark : ∀ e ∈ s.bus.queue, e.frame.body.isMark = false)
    (free : s.bus.attempt = none) : Aired (ownEndOfMark stamp s) := by
  unfold Machine.ownEndOfMark
  split
  · next marking =>
    have run := h.core.run (by simp [marking])
    obtain ⟨⟨fit, slots, position, idle, timer, deadline, quiet, due, reserved, dropped⟩, gate, line⟩ := h
    refine aired_stable.bump _ ⟨⟨?_, slots.openSelf stamp _, Nat.zero_le _, fun out => absurd run out,
      fun _ => timer (by simp [marking]), fun _ => rfl, fun other => absurd rfl other, fun _ => rfl,
      (by rintro (h | h) <;> cases h), dropped⟩, fun _ => gate (.inl marking), line.shrink rfl rfl rfl rfl id id⟩
    exact ⟨fit.short, fit.single, fit.order, fit.nodup, fit.arrived, fun e he isMark => by simp [noMark e he] at isMark,
      fun a under => by
        rw [show s.bus.attempt = some a from under] at free
        cases free⟩
  · exact h

theorem Aired.enterTxQuiet (core : Core s) (gate : Gate s) (tfc : s.bus.tfc ≤ 71) (high : 64 ≤ s.bus.tfc) :
    Aired (enterTxQuiet s) := by
  have line {u : State} (bus : u.bus = { (emptyQueue s).bus with txQuiet := true, recovery := 0 }) : LineLaw u := by
    refine ⟨by rw [bus]; exact tfc, by rw [bus]; exact ⟨fun _ => high, fun _ => rfl⟩, ?_, fun _ => ?_⟩
    · rw [bus]
      exact Nat.zero_lt_succ _
    · rw [bus]
      exact ⟨rfl, rfl⟩
  have emptied : Core ((bump .txQuietEntries (emptyQueue s)).modBus fun b => { b with txQuiet := true, recovery := 0 }) := by
    obtain ⟨-, slots, position, idle, timer, deadline, quiet, due, reserved, -⟩ := core
    exact ⟨(emptyQueue_queueFit s _).congr rfl rfl rfl, slots, position, idle, timer, deadline, quiet, due, reserved,
      by intro _ h; cases h⟩
  unfold Machine.enterTxQuiet
  dsimp only
  split
  · next round =>
    exact ⟨emptied.aborted (fun idle => absurd (round.symm.trans idle) Round.noConfusion), gate_of_idle ⟨Round.noConfusion, Round.noConfusion⟩, (line rfl).abort false⟩
  · next round =>
    exact ⟨emptied.aborted (fun idle => absurd (round.symm.trans idle) Round.noConfusion), gate_of_idle ⟨Round.noConfusion, Round.noConfusion⟩, (line rfl).abort false⟩
  · exact ⟨emptied, gate.same rfl rfl fun _ => rfl, line rfl⟩
  · exact ⟨emptied, gate.same rfl rfl fun _ => rfl, line rfl⟩

/-- What a collision does before fault confinement takes it (R171). -/
def collided (a : Attempt) (s : State) : State :=
  let s := bump .txCollision (s.modBus (attemptFailed a))
  if a.dropOnFailure then abortRound false s else s

theorem Aired.collided (h : Aired s) {a : Attempt} (under : s.bus.attempt = some a) :
    Core (collided a s) ∧ Gate (collided a s) ∧ (collided a s).bus.tfc = s.bus.tfc + 8 ∧
    (collided a s).bus.txQuiet = s.bus.txQuiet ∧ (collided a s).bus.recovery = s.bus.recovery ∧
    (collided a s).stc = s.stc := by
  obtain ⟨core, gate, -⟩ := h
  have sub : (attemptFailed a s.bus).queue.Sublist s.bus.queue := by
    unfold attemptFailed
    dsimp only
    split
    · exact List.filter_sublist
    · exact List.Sublist.refl _
  have failed : Core (bump .txCollision (s.modBus (attemptFailed a))) :=
    (core.undriven sub rfl rfl).same rfl rfl rfl rfl rfl rfl
  unfold Machine.collided
  dsimp only
  split
  · next drops =>
    have marking := (core.queue.driven a under (core.dropped a under drops)).1
    exact ⟨failed.aborted (show s.probe.round ≠ .idle by simp [marking]),
      gate_of_idle ⟨Round.noConfusion, Round.noConfusion⟩, rfl, rfl, rfl, rfl⟩
  · exact ⟨failed, gate.same rfl rfl fun _ => rfl, rfl, rfl, rfl, rfl⟩

/-! ### Changes of the station mode -/

/-- A change of mode while no round runs, into a mode that is not CONFLICT. -/
theorem Aired.moded (h : Aired s) (bus : t.bus = s.bus) (probe : t.probe = s.probe) (number : t.number = s.number)
    (idle : s.probe.round = .idle ∧ s.probe.timer = none) (mode : t.stc.mode ≠ .conflict) : Aired t := by
  obtain ⟨⟨fit, slots, position, -, timer, deadline, quiet, due, reserved, dropped⟩, -, tfc, iff, recovery, silent⟩ := h
  refine ⟨⟨by rw [bus, probe]; exact fit, by rw [probe, number]; exact slots, by rw [probe]; exact position,
    fun _ => by rw [probe]; exact idle, by rw [probe]; exact timer, by rw [probe]; exact deadline, by rw [probe]; exact quiet,
    by rw [probe]; exact due, by rw [probe, number]; exact reserved, by rw [bus]; exact dropped⟩,
    gate_of_idle (by rw [probe, idle.1]; exact ⟨Round.noConfusion, Round.noConfusion⟩), by rw [bus]; exact tfc,
    by rw [bus]; exact iff, by rw [bus]; exact recovery, fun isSilent => ?_⟩
  rw [bus] at isSilent ⊢
  exact silent (.inl (isSilent.resolve_right mode))

theorem reset_aired (bus : t.bus = State.reset.bus) (probe : t.probe = State.reset.probe) : Aired t := by
  have slots : SlotsFit (Vector.replicate 2 Slot.free) .idle t.number :=
    ⟨fun i w h => by simp at h, fun i o h => by simp at h, fun i j _ _ => by simp [Slot.owner]⟩
  constructor
  · constructor
    all_goals (try rw [probe])
    all_goals (try rw [bus])
    · exact ⟨Nat.zero_le _, fun _ => Nat.zero_le _, List.Pairwise.nil, List.nodup_nil, fun _ he => absurd he List.not_mem_nil,
        fun _ he => absurd he List.not_mem_nil, by intro _ h; cases h⟩
    · exact slots
    · exact Nat.zero_le _
    · exact fun _ => ⟨rfl, rfl⟩
    · exact fun _ => rfl
    · exact fun _ => rfl
    · exact fun _ => ⟨rfl, rfl, rfl, rfl⟩
    · intro h; cases h
    · rintro (h | h) <;> cases h
    · intro _ h; cases h
  · exact gate_of_idle (by rw [probe]; exact ⟨Round.noConfusion, Round.noConfusion⟩)
  · refine ⟨?_, ?_, ?_, fun _ => ?_⟩
    all_goals rw [bus]
    · exact Nat.zero_le _
    · exact ⟨fun h => Bool.noConfusion h, fun h => absurd h (by decide)⟩
    · exact Nat.zero_lt_succ _
    · exact ⟨rfl, rfl⟩

theorem enterConfigFault_aired (reason : FaultReason) (h : Aired s) (mode : s.stc.mode ≠ .run) :
    Aired (enterConfigFault reason s) := by
  have entered : Aired (formTargets ((faultStartup reason s).modSolver fun _ => Solver.reset)) :=
    h.moded (by simp [faultStartup]) (by simp [faultStartup]) (by simp [faultStartup, State.number]) (h.core.idle mode)
      (by simp [faultStartup])
  have settled := aired_stable.retargetAll (aired_stable.requestAll entered)
  unfold enterConfigFault
  dsimp only
  refine aired_stable.handRoll ?_
  split
  · exact PowerStable.pass (fun c _ => PowerStable.enterWaking aired_powerStable c) settled
  · exact settled

theorem beginLoading_aired (h : Aired s) (mode : s.stc.mode ≠ .run) : Aired (beginLoading s) := by
  unfold beginLoading
  split
  · exact h.moded rfl rfl rfl (h.core.idle mode) (by simp)
  · exact enterConfigFault_aired _ h mode

theorem hardReset_aired (straps : Straps) (s : State) : Aired (beginLoading (resetState straps s)) :=
  beginLoading_aired (reset_aired rfl rfl) Mode.noConfusion

theorem warmRestart_aired (straps : Straps) (s : State) : Aired (warmRestart straps s) :=
  beginLoading_aired (reset_aired rfl rfl) Mode.noConfusion

theorem takeRestart_aired (unit : BitVec 32) (straps : Straps) (h : Aired s) : Aired (takeRestart unit straps s) := by
  unfold takeRestart
  split
  · exact h
  · split
    · exact aired_stable.bump _ h
    · exact warmRestart_aired straps s

theorem enterAnnounce_aired (img : Image) (h : Aired s) (mode : s.stc.mode = .loading) : Aired (enterAnnounce img s) :=
  aired_stable.handRoll
    (h.moded (by simp) (by simp) (by simp [State.number]) (h.core.idle (by simp [mode])) (by simp))

/-- RUN entry up to the release of the channels (R181). -/
def runSettled (s : State) : State :=
  forChannels retargetChannel (requestAll (solverSetup (s.modStc fun c => { c with mode := .run, claim := none })))

/-- RUN entry up to the start of the probe timer (R181). -/
def runReleased (s : State) : State := forChannels releaseChannel (runSettled s)

theorem enterRun_eq (s : State) :
    enterRun s = handAlign ((runReleased s).modProbe fun u => { u with timer := some (5000000 + (runReleased s).jitter) }) :=
  rfl

theorem runSettled_sameAir (s : State) : SameAir s (runSettled s) := by
  simp [SameAir, runSettled, forChannels]

theorem runReleased_sameAir (idle : s.probe.round = .idle) : SameAir s (runReleased s) :=
  PowerStable.pass (fun c _ => PowerStable.releaseChannel (quiet_powerStable idle) c) (runSettled_sameAir s)

theorem runReleased_stc (s : State) : (runReleased s).stc = { s.stc with mode := .run, claim := none } := by
  simp [runReleased, runSettled, forChannels]

theorem enterRun_aired (h : Aired s) (mode : s.stc.mode = .announce) : Aired (enterRun s) := by
  have idle := h.core.idle (by simp [mode])
  have set : Aired (solverSetup (s.modStc fun c => { c with mode := .run, claim := none })) :=
    h.moded (by simp) (by simp) (by simp [State.number]) idle (by simp)
  have released : Aired (runReleased s) := PowerStable.pass (fun c _ => PowerStable.releaseChannel aired_powerStable c)
    (aired_stable.retargetAll (aired_stable.requestAll set))
  have run : (runReleased s).stc.mode = .run := by rw [runReleased_stc]
  have round : (runReleased s).probe.round = .idle := by rw [(runReleased_sameAir idle.1).2, idle.1]
  rw [enterRun_eq]
  refine aired_stable.aligned run ?_
  obtain ⟨⟨fit, slots, position, -, timer, deadline, quiet, due, reserved, dropped⟩, gate, line⟩ := released
  exact ⟨⟨fit, slots, position, fun out => absurd run out, fun runs => absurd round runs, deadline, quiet, due,
    reserved, dropped⟩, gate.same rfl rfl fun _ => rfl, line.shrink rfl rfl rfl rfl id id⟩

/-- The line at CONFLICT entry (R174, R185). -/
def conflictEmptied (s : State) : State := emptyQueue (s.modStc fun c => { c with mode := .conflict, claim := none })

/-- CONFLICT entry (R32, R174, R185). -/
theorem enterConflict_aired (h : Aired s) : Aired (enterConflict s) := by
  have quiet : s.bus.tfc ≤ 71 ∧ (s.bus.txQuiet = true ↔ 64 ≤ s.bus.tfc) ∧ s.bus.recovery < 128 := by
    obtain ⟨tfc, iff, recovery, -⟩ := h.line
    exact ⟨tfc, iff, recovery⟩
  have line {u : State} (bus : u.bus = (emptyQueue s).bus) : LineLaw u := by
    refine ⟨by rw [bus]; exact quiet.1, by rw [bus]; exact quiet.2.1, by rw [bus]; exact quiet.2.2, fun _ => ?_⟩
    rw [bus]
    exact ⟨rfl, rfl⟩
  have aborted : Core (abortRound true (conflictEmptied s)) :=
    Core.abort (s := conflictEmptied s) (round := s.probe.round) (conflict := true) (emptyQueue_queueFit _ _) h.core.slots (by intro _ h; cases h)
      Bool.noConfusion
  have silent : LineLaw (conflictEmptied s) := line rfl
  have stopped {u : State} (core : Core u) (line : LineLaw u) (idle : u.probe.round = .idle) :
      Aired ((u.modProbe fun p => { p with timer := none }).modSolver fun v => { v with refresh := none }) := by
    obtain ⟨fit, slots, position, -, timer, deadline, quiet, due, reserved, dropped⟩ := core
    exact ⟨⟨fit, slots, position, fun _ => ⟨idle, rfl⟩, fun _ => rfl, deadline, quiet, due, reserved, dropped⟩,
      gate_of_idle (by
        show u.probe.round ≠ _ ∧ u.probe.round ≠ _
        rw [idle]
        exact ⟨Round.noConfusion, Round.noConfusion⟩), line.shrink rfl rfl rfl rfl id id⟩
  unfold enterConflict
  dsimp only
  split
  · next round =>
    have idle : s.probe.round = .idle := round
    obtain ⟨-, slots, position, -, timer, deadline, quiet, due, reserved, -⟩ := h.core
    refine ⟨⟨emptyQueue_queueFit _ _, slots, position, fun _ => ⟨idle, rfl⟩, fun _ => rfl, deadline, quiet, due, reserved,
      by intro _ h; cases h⟩, gate_of_idle ?_, line rfl⟩
    show s.probe.round ≠ _ ∧ s.probe.round ≠ _
    rw [idle]
    exact ⟨Round.noConfusion, Round.noConfusion⟩
  · exact stopped aborted (silent.abort true) rfl
  · exact stopped aborted (silent.abort true) rfl
  · exact stopped (aborted.cancel _) ((silent.abort true).cancel _) rfl

theorem takeDuplicate_aired (roll : Option RollBody) (h : Aired s) : Aired (takeDuplicate roll s) := by
  have counted : Aired (s.modStc fun c => { c with duplicates := satInc c.duplicates }) :=
    ⟨h.core.same rfl rfl rfl rfl rfl rfl, h.gate.same rfl rfl fun _ => rfl, h.line.shrink rfl rfl rfl rfl id id⟩
  unfold takeDuplicate
  split
  · dsimp only
    split
    · exact aired_stable.handRollUnlessWaiting counted
    · next b =>
      have recorded (won : Bool) : Aired (recordDuplicate b.unit won
          (s.modStc fun c => { c with duplicates := satInc c.duplicates })) :=
        ⟨counted.core.same rfl rfl rfl rfl rfl rfl, counted.gate.same rfl rfl fun _ => rfl,
          counted.line.shrink rfl rfl rfl rfl id id⟩
      unfold contest
      split
      · exact aired_stable.handRollUnlessWaiting (recorded true)
      · split
        · exact counted
        · split
          · dsimp only
            split
            · next announce => exact enterConflict_aired (enterRun_aired (recorded false) announce)
            · exact enterConflict_aired (recorded false)
          · exact aired_stable.handRoll (recorded true)
  · exact h

/-! ### Every turn -/

theorem assemble_same (char : LineChar) (s : State) :
    (assemble char s).bus.queue = s.bus.queue ∧ (assemble char s).bus.nextArrival = s.bus.nextArrival ∧
    (assemble char s).bus.attempt = s.bus.attempt ∧ (assemble char s).bus.tfc = s.bus.tfc ∧
    (assemble char s).bus.txQuiet = s.bus.txQuiet ∧ (assemble char s).bus.recovery = s.bus.recovery ∧
    (assemble char s).probe = s.probe ∧ (assemble char s).stc = s.stc ∧ (assemble char s).image = s.image ∧
    (assemble char s).channels = s.channels := by
  have grown (chars : List Byte) : ∀ u, u = growFrame chars s → u.bus.queue = s.bus.queue ∧
      u.bus.nextArrival = s.bus.nextArrival ∧ u.bus.attempt = s.bus.attempt ∧ u.bus.tfc = s.bus.tfc ∧
      u.bus.txQuiet = s.bus.txQuiet ∧ u.bus.recovery = s.bus.recovery ∧ u.probe = s.probe ∧ u.stc = s.stc ∧
      u.image = s.image ∧ u.channels = s.channels := by
    rintro u rfl
    unfold growFrame
    split
    · exact ⟨rfl, rfl, rfl, rfl, rfl, rfl, rfl, rfl, rfl, rfl⟩
    · split
      · exact ⟨rfl, rfl, rfl, rfl, rfl, rfl, rfl, rfl, rfl, rfl⟩
      · split <;> exact ⟨rfl, rfl, rfl, rfl, rfl, rfl, rfl, rfl, rfl, rfl⟩
  unfold assemble
  split
  · exact grown _ _ rfl
  · exact ⟨rfl, rfl, rfl, rfl, rfl, rfl, rfl, rfl, rfl, rfl⟩
  · exact grown _ _ rfl
  all_goals exact ⟨rfl, rfl, rfl, rfl, rfl, rfl, rfl, rfl, rfl, rfl⟩

theorem exec_aired {c : Instr} (single : isSingle c = true) (answer : exec c s = .next t) (h : Aired s) : Aired t := by
  have notRun (loading : s.stc.mode = .loading) : s.stc.mode ≠ .run := by simp [loading]
  cases c
  case align | roll | mark | evac | cue | waitTimerExpiry | query | restart | reply | duplicateFrame | interFrameGap =>
    cases single
  case silenceTimerExpiry | readyAsserted | readyLost | faultLineAsserted | faultLineReleased | wakeTimerExpiry
    | lostSample | slewComplete | crossfadeEnd | rampEnd | gateFadeEnd => exact aired_stable.exec_channel answer h trivial
  case secondTick | entryStale | entryLost | poolRelease | airReply | airReplyTimeout | programmeJudgementChange
    | refreshTimerExpiry => exact aired_stable.exec_table answer h trivial
  case contactPinChange | debouncedContactAsserted | debouncedContactReleased | resetContactAsserted
    | resetContactReleased | evacRefreshExpiry => exact aired_closed.exec_emergency answer h trivial
  case hardReset straps =>
    cases answer
    exact hardReset_aired straps s
  case imageHeaderRead header =>
    cases answer
    split
    · next mode _ =>
      split
      · exact h
      · dsimp only
        split
        · exact ⟨h.core.same rfl rfl rfl rfl rfl rfl, h.gate.same rfl rfl fun _ => rfl, h.line.shrink rfl rfl rfl rfl id id⟩
        · exact enterConfigFault_aired _ h (notRun mode)
    · exact h
  case imageReadTimeout =>
    cases answer
    split
    · next mode _ => exact enterConfigFault_aired _ h (notRun mode)
    · next mode _ => exact enterConfigFault_aired _ h (notRun mode)
    · exact h
  case imageReadComplete rest =>
    cases answer
    split
    · next mode _ =>
      dsimp only
      split
      · exact h
      · split
        · exact enterConfigFault_aired _ h (notRun mode)
        · exact enterAnnounce_aired _ h mode
    · exact h
  case claimTimerExpiry =>
    cases answer
    split
    · next announce => exact enterRun_aired h announce.1
    · exact h
  case txAttempt =>
    cases answer
    split
    · exact h
    · next head rest queue =>
      split
      · next may => exact h.beginAttempt queue may _
      · exact h
  case txSuccess =>
    cases answer
    refine aired_stable.event ?_
    split
    · exact h
    · next a under =>
      have succeeded := h.txSuccess under
      dsimp only
      split
      · next isMark =>
        obtain ⟨-, fresh, -⟩ := h.core.queue.driven a under isMark
        refine succeeded.ownEndOfMark _ (fun e he => ?_) rfl
        have queue : (bump .txGood (s.modBus (attemptSucceeded a))).bus.queue =
            s.bus.queue.filter fun e => e.arrival != a.arrival := by
          show (if a.superseded = true then _ else _) = _
          rw [if_neg (by simp [fresh])]
        rw [queue] at he
        obtain ⟨mem, differ⟩ := List.mem_filter.1 he
        by_contra mark
        have := h.core.queue.onlyMark under isMark mem (by simpa using mark)
        simp [this] at differ
      · exact succeeded
  case txCollision =>
    cases answer
    refine aired_stable.event ?_
    split
    · exact h
    · next a under =>
      obtain ⟨quiet, mode, low⟩ := h.line.driving under
      obtain ⟨core, gate, tfc, txQuiet, recovery, stc⟩ := h.collided under
      dsimp only
      show Aired (if 64 ≤ (collided a s).bus.tfc then enterTxQuiet (collided a s) else collided a s)
      generalize collided a s = u at core gate tfc txQuiet recovery stc
      split
      · next high => exact Aired.enterTxQuiet core gate (by omega) high
      · next high =>
        refine ⟨core, gate, by omega, ?_, by rw [recovery]; exact h.line.2.2.1, fun silent => ?_⟩
        · rw [txQuiet, quiet]
          exact ⟨fun h => Bool.noConfusion h, fun reached => absurd reached high⟩
        · rw [txQuiet, quiet, stc] at silent
          exact absurd silent (by simp [mode])
  case txQuietRecovery =>
    cases answer
    split
    · exact h.recover
    · exact h
  case probeTimerExpiry =>
    cases answer
    refine aired_stable.event ?_
    split
    · next timed =>
      split
      · next conditions => exact h.startRound conditions
      · have idle : s.probe.round = .idle := by
          by_contra runs
          rw [h.core.timer runs] at timed
          cases timed
        have run : s.stc.mode = .run := by
          by_contra out
          rw [(h.core.idle out).2] at timed
          cases timed
        obtain ⟨fit, slots, position, -, -, deadline, quiet, due, reserved, dropped⟩ := h.core
        exact ⟨⟨fit, slots, position, fun out => absurd run out, fun runs => absurd idle runs, deadline, quiet, due,
          reserved, dropped⟩, h.gate.same rfl rfl fun _ => rfl, h.line.shrink rfl rfl rfl rfl id id⟩
    · exact h
  case markDeadlineExpiry =>
    cases answer
    refine aired_stable.event ?_
    split
    · next timed =>
      have marking : s.probe.round = .marking := by
        by_contra other
        rw [h.core.deadline other] at timed
        cases timed
      have stopped : Aired (s.modProbe fun u => { u with deadline := none }) := by
        obtain ⟨fit, slots, position, idle, timer, -, quiet, due, reserved, dropped⟩ := h.core
        exact ⟨⟨fit, slots, position, idle, timer, fun _ => rfl, quiet, due, reserved, dropped⟩,
          h.gate.same rfl rfl fun _ => rfl, h.line.shrink rfl rfl rfl rfl id id⟩
      dsimp only
      split
      · next attempts =>
        obtain ⟨⟨fit, slots, position, idle, timer, deadline, quiet, due, reserved, dropped⟩, gate, line⟩ := stopped
        obtain ⟨short, single, order, nodup, arrived, marks, driven⟩ := fit
        refine ⟨⟨⟨short, single, order, nodup, arrived, marks, fun a under isMark => ?_⟩, slots, position, idle, timer,
          deadline, quiet, due, reserved, fun a under _ => ?_⟩, gate.same rfl rfl fun _ => rfl,
          line.shrink rfl rfl rfl rfl id fun none => ?_⟩
        · obtain ⟨a', under', rfl⟩ := Option.map_eq_some_iff.1 under
          exact driven a' under' isMark
        · obtain ⟨a', under', rfl⟩ := Option.map_eq_some_iff.1 under
          have isMark : Option.any (·.frame.body.isMark) s.bus.attempt = true := attempts
          rw [show s.bus.attempt = some a' from under'] at isMark
          exact isMark
        · show Option.map _ s.bus.attempt = _
          rw [show s.bus.attempt = _ from none]
          rfl
      · exact stopped.abort (by simp [State.modProbe, marking])
    · exact h
  case emissionStart =>
    cases answer
    refine aired_stable.event ?_
    split
    · next emitting => exact h.emits emitting rfl h.core.position
    · exact h
  case emissionEnd =>
    cases answer
    refine aired_stable.event ?_
    split
    · next emitting => exact h.endEmission emitting
    · exact h
  case windowClose i =>
    cases answer
    refine aired_stable.event ?_
    split
    · next w opened =>
      dsimp only
      split
      · exact h.free opened
      · exact aired_stable.deliverResult _ _ (h.free opened)
    · exact h
  case correlatorPeak i offset score =>
    cases answer
    refine aired_stable.event ?_
    split
    · next w opened =>
      split
      · next possible =>
        refine h.takePeak opened (Nat.le_of_lt_succ score.isLt) fun l latest => ?_
        obtain ⟨-, beyond, -⟩ := (peakPossible_iff s w offset score.toNat).1 possible
        have := beyond l latest
        omega
      · exact h
    · exact h
  case settleExpiry =>
    cases answer
    refine aired_stable.event ?_
    split
    · exact h.same (by simp) (by simp) (by simp) (by simp) fun c =>
        (solvePass_keepsPower (s.modSolver fun v => { v with settle := none })).power c
    · exact h
  case holdTimerExpiry =>
    cases answer
    refine aired_stable.event ?_
    split
    · exact h.same (by simp) (by simp) (by simp) (by simp) fun c => (holdExpired_keepsPower s).power c
    · exact h
  case programmeSample x =>
    cases answer
    exact aired_stable.event (h.takeSample _ _)
  case lineCharacter char driven =>
    cases answer
    obtain ⟨queue, arrival, attempt, tfc, quiet, recovery, probe, stc, image, channels⟩ :=
      assemble_same char (s.modBus fun b => { b with idleMicros := 0, yieldOwed := b.yieldOwed && driven })
    exact ⟨h.core.same queue arrival attempt probe (by rw [stc]; rfl) (by rw [State.number, stc]; rfl),
      h.gate.same (by rw [probe]; rfl) image fun c => by rw [channels]; rfl,
      h.line.shrink tfc quiet recovery (by rw [stc]; rfl) (fun empty => queue.trans empty) fun none => attempt.trans none⟩

theorem turn_keeps_aired (turn : Turn s t) (h : Aired s) : Aired t := by
  cases turn with
  | unwait q => exact h.unheard rfl rfl rfl rfl rfl
  | pass =>
    obtain ⟨⟨fit, slots, position, idle, timer, deadline, quiet, due, reserved, dropped⟩, gate, line⟩ := h
    refine ⟨⟨fit.congr rfl rfl rfl, slots, position, fun out => ⟨(idle out).1, ?_⟩, fun runs => ?_, fun other => ?_, quiet,
      due, reserved, dropped⟩, gate.same rfl rfl fun c => ?_, line.shrink rfl rfl rfl rfl id id⟩
    · show Option.map _ s.probe.timer = none
      rw [(idle out).2]
      rfl
    · show Option.map _ s.probe.timer = none
      rw [timer runs]
      rfl
    · show Option.map _ s.probe.deadline = none
      rw [deadline other]
      rfl
    · rw [show (tick s).channels[c] = s.channels[c].tick from mapVector_get _ _ c]
      rfl
  | act => exact aired_stable.event h.takeAction
  | resume => exact h.unheard rfl rfl rfl rfl rfl
  | count k => exact aired_stable.bump k h
  | pins straps => 
    exact ⟨h.core.same rfl rfl rfl rfl rfl rfl, h.gate.same rfl rfl fun _ => rfl, h.line.shrink rfl rfl rfl rfl id id⟩
  | gap =>
    exact ⟨h.core.same rfl rfl rfl rfl rfl rfl, h.gate.same rfl rfl fun _ => rfl, h.line.shrink rfl rfl rfl rfl id id⟩
  | valid => exact h.countValid
  | duplicate roll => exact aired_stable.event (takeDuplicate_aired roll h)
  | @handed f _ stamp straps burst station other noCue =>
    obtain ⟨src, dst, body⟩ := f
    cases body with
    | cue => exact absurd noCue Bool.false_ne_true
    | align r =>
      exact aired_stable.event (f := fun s => takeContactFlag src r.flags.contact (tableTakesAlign src r s))
        (aired_closed.takeContactFlag _ _ (aired_stable.tableTakesAlign _ _ h))
    | roll b => exact aired_stable.event (aired_closed.takeContactFlag _ _ h)
    | evac set => exact aired_stable.event (aired_closed.takeEvac _ _ h)
    | mark => exact aired_stable.event (h.takeMark src stamp other)
    | query q =>
      exact aired_stable.event (aired_stable.answerQuery _ _ (fun _ hu => hu.unheard rfl rfl rfl rfl rfl) h)
    | restart unit => exact aired_stable.event (takeRestart_aired unit straps h)
    | replyData => exact h
    | replyStatus => exact h
  | accept src number short =>
    exact h.unheard (by simp) (by simp) (by simp) (by simp) (by simp)
  | command single answer => exact exec_aired single answer h

end

end Sys2Proof.Machine
end

section
/-! PROOFS. The law of the published rank (R71) through every turn. -/

namespace Sys2Proof.Machine

/-! ### The frames -/

theorem frameRankOk_other {kind : Option StationKind} {f : Frame} (other : f.body.isAlign = false) : frameRankOk kind f := by
  obtain ⟨src, dst, body⟩ := f
  cases body with
  | align r => cases other
  | _ => trivial

/-- Changes of power states keep what holds of every frame, if it holds of the MARK. -/
theorem framesOk_powerStable {Q : Frame → Prop} (mark : ∀ n, Q ⟨n, 63, .mark⟩) : PowerStable fun u => FramesOk Q u.bus := by
  have aborted {u : State} (h : FramesOk Q u.bus) : FramesOk Q (abortRound false u).bus := withdrawMark_framesOk h
  have marked {u : State} (h : FramesOk Q u.bus) : FramesOk Q (enterMarking u).bus :=
    handFrame_framesOk (h.congr rfl rfl) (mark _)
  intro s c p cause _ h
  by_cases same : s.channels[c].power = p
  · rw [setPower, if_pos same]
    exact h
  · have moved : FramesOk Q (repowered c p cause s).bus := h
    rw [setPower_eq cause same]
    split
    · unfold probeFollows
      split
      · exact moved
      · split
        · exact marked moved
        · exact marked moved
        · exact aborted moved
        · exact aborted moved
        · exact moved
        · exact moved
      · split
        · exact moved
        · exact aborted moved
      · split
        · exact moved
        · exact aborted moved
    · exact moved

section

variable {s t u : State}

/-! ### What the law speaks of -/

/-- The part of the law that speaks of the solver. -/
def SolverRank (s : State) : Prop :=
  if s.serving then
    RankOk s.stc.kind s.solver.state s.solver.rank ∧
    (s.stc.kind = some .origin → s.solver.state = .origin ∧ s.solver.settle = none ∧ s.solver.hold = .stopped) ∧
    (s.stc.kind = some .delay → s.solver.state ≠ .origin)
  else
    s.solver.state = .fallback ∧ s.solver.rank = 15 ∧ s.solver.settle = none ∧ s.solver.hold = .stopped

theorem rankLaw_iff (s : State) : RankLaw s ↔ SolverRank s ∧ FramesOk (frameRankOk s.stc.kind) s.bus := Iff.rfl

theorem SolverRank.same (h : SolverRank s) (mode : t.stc.mode = s.stc.mode) (kind : t.stc.kind = s.stc.kind)
    (state : t.solver.state = s.solver.state) (rank : t.solver.rank = s.solver.rank)
    (settle : t.solver.settle = s.solver.settle) (hold : t.solver.hold = s.solver.hold) : SolverRank t := by
  unfold SolverRank State.serving at *
  rw [mode, kind, state, rank, settle, hold]
  exact h

theorem SolverRank.serving (h : SolverRank s) (serves : s.serving = true) :
    RankOk s.stc.kind s.solver.state s.solver.rank ∧
    (s.stc.kind = some .origin → s.solver.state = .origin ∧ s.solver.settle = none ∧ s.solver.hold = .stopped) ∧
    (s.stc.kind = some .delay → s.solver.state ≠ .origin) := by
  unfold SolverRank at h
  rwa [if_pos serves] at h

theorem SolverRank.resting (h : SolverRank s) (rests : s.serving = false) :
    s.solver.state = .fallback ∧ s.solver.rank = 15 ∧ s.solver.settle = none ∧ s.solver.hold = .stopped := by
  unfold SolverRank at h
  rwa [if_neg (by simp [rests])] at h

theorem solverRank_of_serving (serves : s.serving = true) (ok : RankOk s.stc.kind s.solver.state s.solver.rank)
    (origin : s.stc.kind = some .origin → s.solver.state = .origin ∧ s.solver.settle = none ∧ s.solver.hold = .stopped)
    (delay : s.stc.kind = some .delay → s.solver.state ≠ .origin) : SolverRank s := by
  unfold SolverRank
  rw [if_pos serves]
  exact ⟨ok, origin, delay⟩

/-- At a delay station the law is the law of the rank, and that the state is not ORIGIN. -/
theorem solverRank_of_delay (serves : s.serving = true) (kind : s.stc.kind = some .delay) (low : 1 ≤ s.solver.rank)
    (high : s.solver.rank ≤ 15) (fallback : s.solver.rank = 15 ↔ s.solver.state = .fallback)
    (other : s.solver.state ≠ .origin) : SolverRank s := by
  refine solverRank_of_serving serves ?_ (fun origin => ?_) fun _ => other
  · rw [kind]
    exact ⟨low, high, fallback⟩
  · rw [kind] at origin
    cases origin

/-- A running settle or hold timer is a serving delay station's. -/
theorem SolverRank.delay (h : SolverRank s) (runs : s.solver.settle.isSome = true ∨ s.solver.hold.isRunning = true) :
    s.serving = true ∧ s.stc.kind = some .delay ∧ 1 ≤ s.solver.rank ∧ s.solver.rank ≤ 15 ∧
    (s.solver.rank = 15 ↔ s.solver.state = .fallback) ∧ s.solver.state ≠ .origin := by
  have stopped : ¬(s.solver.settle = none ∧ s.solver.hold = .stopped) := by
    rintro ⟨settle, hold⟩
    simp [settle, hold, HoldTimer.isRunning] at runs
  cases serves : s.serving with
  | false => exact absurd (h.resting serves).2.2 stopped
  | true =>
    obtain ⟨ok, origin, other⟩ := h.serving serves
    cases kind : s.stc.kind with
    | none => rw [kind] at ok; exact ok.elim
    | some k =>
      cases k with
      | origin => exact absurd (origin kind).2 stopped
      | delay =>
        rw [kind] at ok
        exact ⟨rfl, rfl, ok.1, ok.2.1, ok.2.2, other kind⟩

theorem SolverRank.trigger (h : SolverRank s) : SolverRank (trigger s) := by
  unfold Machine.trigger
  split
  · next taken =>
    obtain ⟨ok, -, other⟩ := h.serving taken.1
    rw [taken.2] at ok
    exact solverRank_of_delay taken.1 taken.2 ok.1 ok.2.1 ok.2.2 (other taken.2)
  · exact h

/-- The mode, the kind and the solver's own fields stand as they did. -/
theorem RankLaw.same (h : RankLaw s) (stc : t.stc.mode = s.stc.mode ∧ t.stc.kind = s.stc.kind)
    (solver : t.solver = s.solver) (frames : FramesOk (frameRankOk s.stc.kind) s.bus → FramesOk (frameRankOk s.stc.kind) t.bus) :
    RankLaw t :=
  ⟨SolverRank.same (s := s) h.1 stc.1 stc.2 (by rw [solver]) (by rw [solver]) (by rw [solver]) (by rw [solver]),
    by rw [stc.2]; exact frames h.2⟩

/-! ### The single changes -/

theorem composeAlign_rankOk (h : SolverRank s) (run : s.stc.mode = .run) :
    frameRankOk s.stc.kind ⟨s.number, 63, .align (composeAlign s)⟩ := by
  obtain ⟨ok, -⟩ := h.serving (by simp [State.serving, run])
  have le : s.solver.rank ≤ 15 := by
    unfold RankOk at ok
    split at ok
    · exact ok.elim
    · omega
    · exact ok.2.1
  show RankOk s.stc.kind s.solver.state (BitVec.ofNat 4 s.solver.rank).toNat
  rw [BitVec.toNat_ofNat, Nat.mod_eq_of_lt (by omega)]
  exact ok

theorem rank_stable : Stable RankLaw where
  power := fun c p cause hasCause h => RankLaw.same h (by simp) (by simp)
    fun frames => framesOk_powerStable (fun _ => frameRankOk_other rfl) c p cause hasCause frames
  channel := fun _ _ _ _ _ h => RankLaw.same h ⟨rfl, rfl⟩ rfl id
  bumped := fun _ _ h => RankLaw.same h ⟨rfl, rfl⟩ rfl id
  handed := fun _ other h => RankLaw.same h (by simp) (by simp) fun frames => handFrame_framesOk frames (frameRankOk_other other)
  aligned := fun {s} run h =>
    ⟨SolverRank.same (s := s) h.1 (by simp) (by simp) (by simp) (by simp) (by simp) (by simp), by
      rw [show (handAlign s).stc = s.stc by simp]
      exact handFrame_framesOk h.2 (composeAlign_rankOk h.1 run)⟩
  triggered := fun {s} h => ⟨SolverRank.trigger (s := s) h.1, by
    rw [show (trigger s).stc = s.stc by simp, show (trigger s).bus = s.bus by simp]
    exact h.2⟩
  tabled := fun _ _ _ h => RankLaw.same h ⟨rfl, rfl⟩ rfl id
  banded := fun _ _ h => RankLaw.same h ⟨rfl, rfl⟩ rfl id
  discarded := fun _ h => RankLaw.same h ⟨rfl, rfl⟩ rfl id

/-- The freeze flags change; a hold timer that is stopped stays stopped. -/
theorem RankLaw.setFreeze (h : RankLaw s) (cue emergency : Bool) : RankLaw (setFreeze cue emergency s) := by
  refine ⟨?_, h.2⟩
  have follow (stopped : s.solver.hold = .stopped) : (Machine.setFreeze cue emergency s).solver.hold = .stopped := by
    show s.solver.hold.follow (cue || emergency) = .stopped
    rw [stopped]
    rfl
  cases serves : s.serving with
  | false =>
    obtain ⟨state, rank, settle, hold⟩ := SolverRank.resting h.1 serves
    show if (Machine.setFreeze cue emergency s).serving then _ else _
    rw [if_neg (by rw [show (Machine.setFreeze cue emergency s).serving = s.serving from rfl, serves]; exact Bool.false_ne_true)]
    exact ⟨state, rank, settle, follow hold⟩
  | true =>
    obtain ⟨ok, origin, delay⟩ := SolverRank.serving h.1 serves
    refine solverRank_of_serving serves ok (fun isOrigin => ?_) delay
    obtain ⟨state, settle, hold⟩ := origin isOrigin
    exact ⟨state, settle, follow hold⟩

theorem cancelWindows_rankLaw (p : Nat → Bool) (h : RankLaw s) : RankLaw (cancelWindows p s) := RankLaw.same h ⟨rfl, rfl⟩ rfl id

theorem abortRound_rankLaw (conflict : Bool) (h : RankLaw s) : RankLaw (abortRound conflict s) :=
  RankLaw.same h ⟨rfl, rfl⟩ rfl withdrawMark_framesOk

theorem rank_closed : Closed RankLaw where
  toStable := rank_stable
  emc := fun _ _ h => RankLaw.same h ⟨rfl, rfl⟩ rfl id
  freed := fun _ h => RankLaw.same h ⟨rfl, rfl⟩ rfl id
  entered := fun {s} _ h => by
    have entered : RankLaw (s.modEmc fun e => { e with emergency := true }) := RankLaw.same h ⟨rfl, rfl⟩ rfl id
    have probed : RankLaw (probeEmergency (s.modEmc fun e => { e with emergency := true })) := by
      refine cancelWindows_rankLaw _ ?_
      split
      · exact entered
      · exact abortRound_rankLaw false entered
    have abandoned : RankLaw (abandonList (probeEmergency (s.modEmc fun e => { e with emergency := true }))) :=
      RankLaw.same probed (by simp) (by simp) (by simp)
    exact rank_stable.emergencyValues (RankLaw.setFreeze abandoned _ _)
  left := fun {s} _ h => by
    have left : RankLaw (s.modEmc fun e => { e with emergency := false }) := RankLaw.same h ⟨rfl, rfl⟩ rfl id
    exact rank_stable.ordinaryValues (rank_stable.triggered (RankLaw.setFreeze left _ _))

/-! ### The solver's events -/

/-- A new D is written, and handed over (R68). -/
theorem setDelayTarget_solver (d : Nat) (s : State) : (setDelayTarget d s).solver = { s.solver with delay := d } := by
  unfold setDelayTarget
  split
  · next same =>
    subst same
    rfl
  · simp

/-- A new path time is written, and handed over (R68). -/
theorem setPathTime_solver (p : Nat) (s : State) : (setPathTime p s).solver = { s.solver with path := p } := by
  unfold setPathTime
  split
  · next same =>
    subst same
    rfl
  · simp

/-- What an applied pass with its winner writes into the solver (R63 to R65). -/
theorem applyWinner_solver (c : Candidate) (s : State) :
    (applyWinner c s).solver =
      { s.solver with
        state := .aligned
        winner := some c.entry
        rank := c.rank
        range := decide (maxDelay < c.value)
        hold := if s.solver.state = .aligned then s.solver.hold else .stopped
        delay := passDelay s c.target
        path := c.newPath } := by
  rw [applyWinner, setPathTime_solver, setDelayTarget_solver]
  rfl

/-- What the fall to FALLBACK writes into the solver (R67). -/
theorem holdExpired_solver (s : State) :
    (holdExpired s).solver =
      { s.solver with
        state := .fallback
        rank := 15
        range := false
        hold := .stopped
        delay := s.image.elim 0 (·.fallbackDelay)
        path := s.image.elim 0 (·.fallbackDelay) } := by
  rw [holdExpired, setPathTime_solver, setDelayTarget_solver]
  rfl

theorem candidate_rank {c : Candidate} (mem : c ∈ candidates s) : 1 ≤ c.rank ∧ c.rank ≤ 14 := by
  obtain ⟨i, -, yields⟩ := List.mem_filterMap.1 mem
  unfold candidateOf at yields
  dsimp only at yields
  split at yields
  · next r flight selfFlight usable _ _ =>
    cases yields
    unfold usableRecord at usable
    split at usable
    · obtain ⟨-, low⟩ := Option.filter_eq_some_iff.1 usable
      simp only [Bool.and_eq_true, decide_eq_true_eq] at low
      have := low.2
      exact ⟨Nat.succ_le_succ (Nat.zero_le _), Nat.succ_le_succ this⟩
    · cases usable
  · cases yields

theorem winnerOf_mem {l : List Candidate} {c : Candidate} (h : winnerOf l = some c) : c ∈ l := by
  induction l generalizing c with
  | nil => cases h
  | cons d l ih =>
    unfold winnerOf at h
    split at h
    · next e isWinner =>
      split at h <;> cases h
      · exact List.mem_cons_of_mem _ (ih isWinner)
      · exact List.mem_cons_self
    · cases h
      exact List.mem_cons_self

/-- A pass or an expiry leaves the settle and the hold timer of an origin station as they are: it has none. -/
theorem solvePass_rankLaw (h : RankLaw s) (delay : s.serving = true ∧ s.stc.kind = some .delay ∧ 1 ≤ s.solver.rank ∧
    s.solver.rank ≤ 15 ∧ (s.solver.rank = 15 ↔ s.solver.state = .fallback) ∧ s.solver.state ≠ .origin) :
    RankLaw (solvePass s) := by
  obtain ⟨serves, kind, low, high, fallback, other⟩ := delay
  have computed : RankLaw (computePass s) := ⟨SolverRank.same (s := s) h.1 rfl rfl rfl rfl rfl rfl, h.2⟩
  unfold solvePass
  dsimp only
  split
  · exact computed
  · split
    · next c isWinner =>
      obtain ⟨least, most⟩ := candidate_rank (winnerOf_mem isWinner)
      have solver := applyWinner_solver c (computePass s)
      refine ⟨solverRank_of_delay (by simpa [State.serving] using serves) (by simpa using kind) ?_ ?_ ?_ ?_, ?_⟩
      · rw [solver]
        exact least
      · rw [solver]
        exact most.trans (by omega)
      · rw [solver]
        exact ⟨fun top => absurd top (by dsimp only; omega), SolverState.noConfusion⟩
      · rw [solver]
        exact SolverState.noConfusion
      · rw [show (applyWinner c (computePass s)).bus = s.bus by simp, show (applyWinner c (computePass s)).stc = s.stc by simp]
        exact h.2
    · unfold applyNone
      split
      · next aligned =>
        have state : s.solver.state = .aligned := aligned
        refine ⟨solverRank_of_delay serves kind low high ⟨fun top => ?_, fun isFallback => by cases isFallback⟩
          SolverState.noConfusion, h.2⟩
        exact absurd (fallback.1 top) (by simp [state])
      · exact computed

theorem holdExpired_rankLaw (h : RankLaw s) (serves : s.serving = true) (kind : s.stc.kind = some .delay) :
    RankLaw (holdExpired s) := by
  refine ⟨solverRank_of_delay (by simpa [State.serving] using serves) (by simpa using kind) ?_ ?_ ?_ ?_, ?_⟩
  · rw [holdExpired_solver]
    exact Nat.le_add_left 1 14
  · rw [holdExpired_solver]
  · rw [holdExpired_solver]
    exact ⟨fun _ => rfl, fun _ => rfl⟩
  · rw [holdExpired_solver]
    exact SolverState.noConfusion
  · rw [show (holdExpired s).bus = s.bus by simp, show (holdExpired s).stc = s.stc by simp]
    exact h.2

end

end Sys2Proof.Machine
end

section
/-! PROOFS. The law of the published rank (R71) through every turn: actions, the line, and the changes of the mode. -/

namespace Sys2Proof.Machine

section

variable {s t : State}

theorem enterMarking_rankLaw (h : RankLaw s) : RankLaw (enterMarking s) :=
  RankLaw.same h (by simp [enterMarking]) (by simp [enterMarking]) fun frames =>
    handFrame_framesOk (frames.congr rfl rfl) (frameRankOk_other rfl)

theorem startRound_rankLaw (h : RankLaw s) : RankLaw (startRound s) := by
  unfold startRound
  split
  · next c i _ _ =>
    have reserved : RankLaw ((setSlot i (.reserved s.number) s).modProbe fun u => { u with timer := none }) :=
      RankLaw.same h ⟨rfl, rfl⟩ rfl id
    dsimp only
    split
    · exact enterMarking_rankLaw reserved
    · exact enterMarking_rankLaw reserved
    · exact PowerStable.enterWaking rank_stable.power c (RankLaw.same reserved ⟨rfl, rfl⟩ rfl id)
    · exact RankLaw.same reserved ⟨rfl, rfl⟩ rfl id
    · exact reserved
    · exact reserved
  · exact h

theorem takeAction_rankLaw (h : RankLaw s) : RankLaw (takeAction s) := by
  unfold takeAction
  split
  · split
    · exact rank_stable.bump _ (RankLaw.same h ⟨rfl, rfl⟩ rfl id)
    · next a decoded =>
      have performed : RankLaw (performAction a s) := by
        refine rank_stable.performAction (decodeAction_ok decoded).1 h (fun _ => ?_)
          (fun _ => RankLaw.setFreeze h _ _) (fun _ => rank_stable.triggered (RankLaw.setFreeze h _ _)) fun v _ => ?_
        · unfold probeAction
          split
          · exact startRound_rankLaw h
          · exact rank_stable.bump _ h
        · exact rank_stable.triggered ⟨SolverRank.same (s := s) h.1 rfl rfl rfl rfl rfl rfl, h.2⟩
      unfold advanceList
      split <;> exact RankLaw.same performed ⟨rfl, rfl⟩ rfl id
  · exact h

/-! ### The line -/

/-- Frames leave the queue and the line. -/
theorem RankLaw.fewer (h : RankLaw s) (stc : t.stc = s.stc) (solver : t.solver = s.solver)
    (queue : t.bus.queue ⊆ s.bus.queue) (attempt : t.bus.attempt = none ∨ t.bus.attempt = s.bus.attempt) : RankLaw t := by
  refine RankLaw.same h (by rw [stc]; exact ⟨rfl, rfl⟩) solver fun frames => ⟨fun e he => frames.1 e (queue he), fun a under => ?_⟩
  rcases attempt with none | same
  · rw [none] at under
    cases under
  · exact frames.2 a (same ▸ under)

theorem enterTxQuiet_rankLaw (h : RankLaw s) : RankLaw (enterTxQuiet s) := by
  have quiet : RankLaw ((bump .txQuietEntries (emptyQueue s)).modBus fun b => { b with txQuiet := true, recovery := 0 }) :=
    RankLaw.fewer h rfl rfl (List.nil_subset _) (.inl rfl)
  unfold enterTxQuiet
  dsimp only
  split
  · exact abortRound_rankLaw false quiet
  · exact abortRound_rankLaw false quiet
  · exact quiet
  · exact quiet

/-! ### Changes of the station mode -/

theorem solverRank_of_resting (rests : s.serving = false) (state : s.solver.state = .fallback) (rank : s.solver.rank = 15)
    (settle : s.solver.settle = none) (hold : s.solver.hold = .stopped) : SolverRank s := by
  unfold SolverRank
  rw [if_neg (by simp [rests])]
  exact ⟨state, rank, settle, hold⟩

/-- Before RUN the solver stands at its reset rank (R52). -/
theorem solverRank_of_reset (rests : s.serving = false) (solver : s.solver = Solver.reset) : SolverRank s :=
  solverRank_of_resting rests (by rw [solver]; rfl) (by rw [solver]; rfl) (by rw [solver]; rfl) (by rw [solver]; rfl)

/-- Where no ALIGN can stand, whatever waits is good for every kind of station. -/
theorem RankLaw.unkinded (h : RankLaw s) (kind : s.stc.kind = none) (k : Option StationKind) :
    FramesOk (frameRankOk k) s.bus := by
  have other {f : Frame} (ok : frameRankOk s.stc.kind f) : frameRankOk k f := by
    obtain ⟨src, dst, body⟩ := f
    cases body with
    | align r =>
      rw [kind] at ok
      exact ok.elim
    | _ => trivial
  exact ⟨fun e he => other (h.2.1 e he), fun a under => other (h.2.2 a under)⟩

theorem enterConfigFault_rankLaw (reason : FaultReason) (frames : FramesOk (frameRankOk none) s.bus) :
    RankLaw (enterConfigFault reason s) := by
  have entered : RankLaw (formTargets ((faultStartup reason s).modSolver fun _ => Solver.reset)) := by
    refine ⟨solverRank_of_reset (by simp [State.serving, faultStartup]) (by simp), ?_⟩
    rw [show (formTargets ((faultStartup reason s).modSolver fun _ => Solver.reset)).bus = s.bus by simp [faultStartup],
      show (formTargets ((faultStartup reason s).modSolver fun _ => Solver.reset)).stc.kind = none by simp [faultStartup]]
    exact frames
  have settled := rank_stable.retargetAll (rank_stable.requestAll entered)
  unfold enterConfigFault
  dsimp only
  refine rank_stable.handRoll ?_
  split
  · exact PowerStable.pass (fun c _ => PowerStable.enterWaking rank_stable.power c) settled
  · exact settled

theorem noFrames {Q : Frame → Prop} {b : Bus} (queue : b.queue = []) (attempt : b.attempt = none) : FramesOk Q b := by
  refine ⟨fun e he => ?_, fun a under => ?_⟩
  · rw [queue] at he
    cases he
  · rw [attempt] at under
    cases under

theorem beginLoading_rankLaw (bus : s.bus = State.reset.bus) (solver : s.solver = Solver.reset) : RankLaw (beginLoading s) := by
  unfold beginLoading
  split
  · exact ⟨solverRank_of_reset rfl solver, noFrames (by
      show s.bus.queue = []
      rw [bus]
      rfl) (by
      show s.bus.attempt = none
      rw [bus]
      rfl)⟩
  · refine enterConfigFault_rankLaw _ (noFrames ?_ ?_) <;> rw [bus] <;> rfl

theorem takeRestart_rankLaw (unit : BitVec 32) (straps : Straps) (h : RankLaw s) : RankLaw (takeRestart unit straps s) := by
  unfold takeRestart
  split
  · exact h
  · split
    · exact rank_stable.bump _ h
    · exact beginLoading_rankLaw rfl rfl

theorem installImage_solver (img : Image) (s : State) :
    (installImage img s).solver = { s.solver with offset := img.offset } := by
  simp [installImage, forChannels]

theorem enterAnnounce_rankLaw (img : Image) (h : RankLaw s) (mode : s.stc.mode = .loading) (kind : s.stc.kind = none) :
    RankLaw (enterAnnounce img s) := by
  obtain ⟨state, rank, settle, hold⟩ := SolverRank.resting h.1 (by simp [State.serving, mode])
  refine rank_stable.handRoll ⟨solverRank_of_resting (by simp [State.serving]) (by simpa [installImage_solver] using state)
    (by simpa [installImage_solver] using rank) (by simpa [installImage_solver] using settle)
    (by simpa [installImage_solver] using hold), ?_⟩
  · show FramesOk _ (formTargets _).bus
    rw [show ∀ u, (formTargets u).bus = u.bus by simp]
    show FramesOk _ (installImage img s).bus
    rw [show (installImage img s).bus = s.bus by simp]
    exact h.unkinded kind _

theorem solverSetup_rankLaw {k : StationKind} (h : RankLaw s) (mode : s.stc.mode = .announce) (kind : s.stc.kind = some k) :
    RankLaw (solverSetup (s.modStc fun c => { c with mode := .run, claim := none })) := by
  obtain ⟨-, -, settle, hold⟩ := SolverRank.resting h.1 (by simp [State.serving, mode])
  unfold solverSetup
  split
  · next origin =>
    have isOrigin : s.stc.kind = some .origin := origin
    refine ⟨solverRank_of_serving (by simp [State.serving]) ?_ (fun _ => ?_) fun delay => ?_, ?_⟩
    · rw [show (setPathTime _ _).stc.kind = some StationKind.origin by simpa using isOrigin, setPathTime_solver,
        setDelayTarget_solver]
      rfl
    · rw [setPathTime_solver, setDelayTarget_solver]
      exact ⟨rfl, settle, hold⟩
    · exact absurd (isOrigin.symm.trans (by simpa using delay)) (by simp)
    · rw [show ∀ p u, (setPathTime p u).bus = u.bus by simp, show ∀ d u, (setDelayTarget d u).bus = u.bus by simp,
        show ∀ p u, (setPathTime p u).stc = u.stc by simp, show ∀ d u, (setDelayTarget d u).stc = u.stc by simp]
      exact h.2
  · next other =>
    have isDelay : s.stc.kind = some .delay := by
      cases k with
      | origin => exact absurd kind other
      | delay => exact kind
    refine rank_stable.triggered ⟨solverRank_of_delay (by simp [State.serving]) (by simpa using isDelay) ?_ ?_ ?_ ?_, ?_⟩
    · rw [setPathTime_solver, setDelayTarget_solver]
      exact Nat.le_add_left 1 14
    · rw [setPathTime_solver, setDelayTarget_solver]
      exact Nat.le_refl 15
    · rw [setPathTime_solver, setDelayTarget_solver]
      exact ⟨fun _ => rfl, fun _ => rfl⟩
    · rw [setPathTime_solver, setDelayTarget_solver]
      exact SolverState.noConfusion
    · rw [show ∀ p u, (setPathTime p u).bus = u.bus by simp, show ∀ d u, (setDelayTarget d u).bus = u.bus by simp,
        show ∀ p u, (setPathTime p u).stc = u.stc by simp, show ∀ d u, (setDelayTarget d u).stc = u.stc by simp]
      exact h.2

theorem enterRun_rankLaw {k : StationKind} (h : RankLaw s) (mode : s.stc.mode = .announce) (kind : s.stc.kind = some k) :
    RankLaw (enterRun s) := by
  have released : RankLaw (runReleased s) := PowerStable.pass (fun c _ => PowerStable.releaseChannel rank_stable.power c)
    (rank_stable.retargetAll (rank_stable.requestAll (solverSetup_rankLaw h mode kind)))
  have run : (runReleased s).stc.mode = .run := by rw [runReleased_stc]
  rw [enterRun_eq]
  exact rank_stable.aligned run (RankLaw.same released ⟨rfl, rfl⟩ rfl id)

theorem enterConflict_rankLaw (h : RankLaw s) (mode : s.stc.mode = .run) : RankLaw (enterConflict s) := by
  obtain ⟨ok, origin, delay⟩ := SolverRank.serving h.1 (by simp [State.serving, mode])
  have conflict : RankLaw (conflictEmptied s) :=
    ⟨solverRank_of_serving rfl ok origin delay, noFrames rfl rfl⟩
  have stopped {u : State} (hu : RankLaw u) :
      RankLaw ((u.modProbe fun p => { p with timer := none }).modSolver fun v => { v with refresh := none }) :=
    ⟨SolverRank.same (s := u) hu.1 rfl rfl rfl rfl rfl rfl, hu.2⟩
  unfold enterConflict
  dsimp only
  split
  · exact stopped conflict
  · exact stopped (abortRound_rankLaw true conflict)
  · exact stopped (abortRound_rankLaw true conflict)
  · exact stopped (cancelWindows_rankLaw _ (abortRound_rankLaw true conflict))

theorem takeDuplicate_rankLaw (roll : Option RollBody) (h : RankLaw s) (kind : s.stc.mode = .announce → s.stc.kind.isSome) :
    RankLaw (takeDuplicate roll s) := by
  have counted : RankLaw (s.modStc fun c => { c with duplicates := satInc c.duplicates }) := RankLaw.same h ⟨rfl, rfl⟩ rfl id
  unfold takeDuplicate
  split
  · next mode =>
    dsimp only
    split
    · exact rank_stable.handRollUnlessWaiting counted
    · next b =>
      have recorded (won : Bool) : RankLaw (recordDuplicate b.unit won
          (s.modStc fun c => { c with duplicates := satInc c.duplicates })) := RankLaw.same counted ⟨rfl, rfl⟩ rfl id
      unfold contest
      split
      · exact rank_stable.handRollUnlessWaiting (recorded true)
      · split
        · exact counted
        · split
          · dsimp only
            split
            · next announce =>
              obtain ⟨k, isKind⟩ := Option.isSome_iff_exists.1 (kind announce)
              exact enterConflict_rankLaw (enterRun_rankLaw (recorded false) announce isKind) (by simp)
            · next other => exact enterConflict_rankLaw (recorded false) (mode.resolve_left other)
          · exact rank_stable.handRoll (recorded true)
  · exact h

/-! ### Every turn -/

theorem exec_rankLaw {c : Instr} (single : isSingle c = true) (answer : exec c s = .next t) (start : StartLaw s)
    (h : RankLaw s) : RankLaw t := by
  have loadingKind (mode : s.stc.mode = .loading) : s.stc.kind = none := by
    obtain ⟨-, kind, -⟩ := loading_image start mode
    exact kind
  have fault (reason : FaultReason) (mode : s.stc.mode = .loading) : RankLaw (enterConfigFault reason s) :=
    enterConfigFault_rankLaw _ (h.unkinded (loadingKind mode) none)
  cases c
  case align | roll | mark | evac | cue | waitTimerExpiry | query | restart | reply | duplicateFrame | interFrameGap =>
    cases single
  case silenceTimerExpiry | readyAsserted | readyLost | faultLineAsserted | faultLineReleased | wakeTimerExpiry
    | lostSample | slewComplete | crossfadeEnd | rampEnd | gateFadeEnd => exact rank_stable.exec_channel answer h trivial
  case secondTick | entryStale | entryLost | poolRelease | airReply | airReplyTimeout | programmeJudgementChange
    | refreshTimerExpiry => exact rank_stable.exec_table answer h trivial
  case contactPinChange | debouncedContactAsserted | debouncedContactReleased | resetContactAsserted
    | resetContactReleased | evacRefreshExpiry => exact rank_closed.exec_emergency answer h trivial
  case hardReset straps =>
    cases answer
    exact beginLoading_rankLaw rfl rfl
  case imageHeaderRead header =>
    cases answer
    split
    · next mode _ =>
      split
      · exact h
      · dsimp only
        split
        · exact RankLaw.same h ⟨rfl, rfl⟩ rfl id
        · exact fault _ mode
    · exact h
  case imageReadTimeout =>
    cases answer
    split
    · next mode _ => exact fault _ mode
    · next mode _ => exact fault _ mode
    · exact h
  case imageReadComplete rest =>
    cases answer
    split
    · next mode _ =>
      dsimp only
      split
      · exact h
      · split
        · exact fault _ mode
        · exact enterAnnounce_rankLaw _ h mode (loadingKind mode)
    · exact h
  case claimTimerExpiry =>
    cases answer
    split
    · next announce =>
      obtain ⟨image, -, kind, -⟩ := start
      obtain ⟨img, held⟩ := Option.isSome_iff_exists.1 (image.2 (.inl announce.1))
      exact enterRun_rankLaw (k := img.kind) h announce.1 (by rw [kind, held]; rfl)
    · exact h
  case txAttempt =>
    cases answer
    split
    · exact h
    · next head rest queue =>
      split
      · refine RankLaw.same h ⟨rfl, rfl⟩ rfl fun frames => ?_
        have front : frameRankOk s.stc.kind head.frame := frames.1 head (queue ▸ List.mem_cons_self)
        refine ⟨fun e he => ?_, fun a under => ?_⟩
        · rcases List.mem_cons.1 he with rfl | he
          · exact front
          · exact frames.1 e (queue ▸ List.mem_cons_of_mem _ he)
        · cases under
          exact front
      · exact h
  case txSuccess =>
    cases answer
    refine rank_stable.event ?_
    split
    · exact h
    · next a _ =>
      have succeeded : RankLaw (bump .txGood (s.modBus (attemptSucceeded a))) := by
        refine RankLaw.fewer h rfl rfl ?_ (.inl rfl)
        show (if a.superseded then s.bus.queue else s.bus.queue.filter fun e => e.arrival != a.arrival) ⊆ s.bus.queue
        split
        · exact List.Subset.refl _
        · exact List.filter_sublist.subset
      dsimp only
      split
      · unfold ownEndOfMark
        split
        · exact RankLaw.same succeeded ⟨rfl, rfl⟩ rfl id
        · exact succeeded
      · exact succeeded
  case txCollision =>
    cases answer
    refine rank_stable.event ?_
    split
    · exact h
    · next a _ =>
      have failed : RankLaw (bump .txCollision (s.modBus (attemptFailed a))) := by
        refine RankLaw.fewer h rfl rfl ?_ (.inl rfl)
        show (if a.dropOnFailure then s.bus.queue.filter fun e => e.arrival != a.arrival else s.bus.queue) ⊆ s.bus.queue
        split
        · exact List.filter_sublist.subset
        · exact List.Subset.refl _
      have ended : RankLaw (collided a s) := by
        unfold collided
        dsimp only
        split
        · exact abortRound_rankLaw false failed
        · exact failed
      show RankLaw (if 64 ≤ (collided a s).bus.tfc then enterTxQuiet (collided a s) else collided a s)
      split
      · exact enterTxQuiet_rankLaw ended
      · exact ended
  case probeTimerExpiry =>
    cases answer
    refine rank_stable.event ?_
    split
    · split
      · exact startRound_rankLaw h
      · exact RankLaw.same h ⟨rfl, rfl⟩ rfl id
    · exact h
  case markDeadlineExpiry =>
    cases answer
    refine rank_stable.event ?_
    split
    · dsimp only
      split
      · refine RankLaw.same h ⟨rfl, rfl⟩ rfl fun frames => ⟨frames.1, fun a under => ?_⟩
        obtain ⟨a', under', rfl⟩ := Option.map_eq_some_iff.1 under
        exact frames.2 a' under'
      · exact abortRound_rankLaw false (RankLaw.same h ⟨rfl, rfl⟩ rfl id)
    · exact h
  case windowClose i =>
    have freed : RankLaw (setSlot i .free s) := RankLaw.same h ⟨rfl, rfl⟩ rfl id
    cases answer
    refine rank_stable.event ?_
    split
    · dsimp only
      split
      · exact freed
      · exact rank_stable.deliverResult _ _ freed
    · exact h
  case settleExpiry =>
    cases answer
    refine rank_stable.event ?_
    split
    · next runs =>
      have delay := SolverRank.delay h.1 (.inl runs)
      obtain ⟨serves, kind, low, high, fallback, other⟩ := delay
      exact solvePass_rankLaw ⟨solverRank_of_delay serves kind low high fallback other, h.2⟩
        ⟨serves, kind, low, high, fallback, other⟩
    · exact h
  case holdTimerExpiry =>
    cases answer
    refine rank_stable.event ?_
    split
    · next runs =>
      obtain ⟨serves, kind, -⟩ := SolverRank.delay h.1 (.inr runs)
      exact holdExpired_rankLaw h serves kind
    · exact h
  case programmeSample x =>
    cases answer
    have judged := rank_stable.setJudgement (judgeSample s x.programme) h
    exact rank_stable.event (RankLaw.same judged (by simp [takeSample, forChannels])
      (by simp [takeSample, forChannels]) fun frames =>
      frames.congr (by simp [takeSample, forChannels]) (by simp [takeSample, forChannels]))
  case lineCharacter char driven =>
    cases answer
    obtain ⟨queue, arrival, attempt, tfc, quiet, recovery, probe, stc, image, channels⟩ :=
      assemble_same char (s.modBus fun b => { b with idleMicros := 0, yieldOwed := b.yieldOwed && driven })
    exact RankLaw.same h (by rw [stc]; exact ⟨rfl, rfl⟩) (by simp) fun frames => frames.congr queue attempt
  case txQuietRecovery =>
    cases answer
    split
    · exact RankLaw.same h ⟨rfl, rfl⟩ rfl fun frames => frames.congr rfl rfl
    · exact h
  case emissionStart | emissionEnd =>
    cases answer
    refine rank_stable.event ?_
    split
    · exact RankLaw.same h ⟨rfl, rfl⟩ rfl id
    · exact h
  case correlatorPeak =>
    cases answer
    refine rank_stable.event ?_
    split
    · split
      · exact RankLaw.same h ⟨rfl, rfl⟩ rfl id
      · exact h
    · exact h

theorem countValid_line (s : State) :
    (countValid s).bus.queue = s.bus.queue ∧ (countValid s).bus.attempt = s.bus.attempt := by
  unfold countValid
  dsimp only
  repeat' split
  all_goals exact ⟨rfl, rfl⟩

theorem turn_keeps_rankLaw (turn : Turn s t) (start : StartLaw s) (h : RankLaw s) : RankLaw t := by
  cases turn with
  | unwait q => exact RankLaw.same h ⟨rfl, rfl⟩ rfl id
  | pass =>
    refine ⟨?_, h.2⟩
    cases serves : s.serving with
    | false =>
      obtain ⟨state, rank, settle, hold⟩ := SolverRank.resting h.1 serves
      exact solverRank_of_resting serves state rank (congrArg tickTimer settle) (congrArg HoldTimer.tick hold)
    | true =>
      obtain ⟨ok, origin, delay⟩ := SolverRank.serving h.1 serves
      refine solverRank_of_serving serves ok (fun isOrigin => ?_) delay
      obtain ⟨state, settle, hold⟩ := origin isOrigin
      exact ⟨state, congrArg tickTimer settle, congrArg HoldTimer.tick hold⟩
  | act => exact rank_stable.event (takeAction_rankLaw h)
  | resume => exact RankLaw.same h ⟨rfl, rfl⟩ rfl id
  | count k => exact rank_stable.bump k h
  | pins straps => exact RankLaw.same h ⟨rfl, rfl⟩ rfl id
  | gap => exact RankLaw.same h ⟨rfl, rfl⟩ rfl id
  | valid =>
    exact RankLaw.same h (by simp) (by simp) fun frames => frames.congr (countValid_line s).1 (countValid_line s).2
  | duplicate roll =>
    refine rank_stable.event (takeDuplicate_rankLaw roll h fun announce => ?_)
    obtain ⟨image, -, kind, -⟩ := start
    rw [kind, Option.isSome_map]
    exact image.2 (.inl announce)
  | @handed f _ stamp straps burst station other noCue =>
    obtain ⟨src, dst, body⟩ := f
    cases body with
    | cue => exact absurd noCue Bool.false_ne_true
    | align r =>
      exact rank_stable.event (f := fun s => takeContactFlag src r.flags.contact (tableTakesAlign src r s))
        (rank_closed.takeContactFlag _ _ (rank_stable.tableTakesAlign _ _ h))
    | roll b => exact rank_stable.event (rank_closed.takeContactFlag _ _ h)
    | evac set => exact rank_stable.event (rank_closed.takeEvac _ _ h)
    | mark => exact rank_stable.event (RankLaw.same h (by simp) (by simp) fun frames => frames.congr (by simp) (by simp))
    | query q =>
      exact rank_stable.event (rank_stable.answerQuery _ _ (fun _ hu => RankLaw.same hu ⟨rfl, rfl⟩ rfl id) h)
    | restart unit => exact rank_stable.event (takeRestart_rankLaw unit straps h)
    | replyData => exact h
    | replyStatus => exact h
  | accept src number short =>
    exact RankLaw.same h (by simp) (by simp) fun frames => frames.congr (by simp) (by simp)
  | command single answer => exact exec_rankLaw single answer start h

end

end Sys2Proof.Machine
end

section
/-! PROOFS. The law of EMERGENCY (R134) and the ranges of a list (R140) through every turn. -/

namespace Sys2Proof.Machine

/-- No round runs and no window stands (R134). -/
def Quiet (s : State) : Prop := s.probe.round = .idle ∧ ∀ i : Fin 2, s.probe.slots[i] = .free

/-- The laws of EMERGENCY and of the list, with those of the Probe Unit that they rest on. -/
structure Calm (s : State) : Prop where
  aired : Aired s
  calm : CalmLaw s
  list : ListLaw s

theorem Lawful.isCalm {s : State} (h : Lawful s) : Calm s := ⟨h.aired, h.calm, h.list⟩

section

variable {s t : State}

/-! ### What the laws speak of -/

theorem Quiet.same (h : Quiet s) (probe : t.probe = s.probe) : Quiet t := by
  unfold Quiet
  rw [probe]
  exact h

theorem Quiet.abort (h : Quiet s) (conflict : Bool) : Quiet (abortRound conflict s) := by
  refine ⟨rfl, fun i => ?_⟩
  show (mapVector Slot.freeReserved s.probe.slots)[i] = .free
  rw [mapVector_get, h.2 i]
  rfl

theorem Quiet.cancel (h : Quiet s) (p : Nat → Bool) : Quiet (cancelWindows p s) := by
  refine ⟨h.1, fun i => ?_⟩
  show (mapVector (Slot.cancel p) s.probe.slots)[i] = .free
  rw [mapVector_get, h.2 i]
  rfl

theorem Calm.quiet (h : Calm s) (emergency : s.emc.emergency = true) : Quiet s := by
  obtain ⟨idle, -, free, -⟩ := h.calm.1 emergency
  exact ⟨idle, free⟩

theorem Calm.list_of_emergency (h : Calm s) (emergency : s.emc.emergency = true) : s.cue.list = .idle := by
  obtain ⟨-, list, -⟩ := h.calm.1 emergency
  exact list

theorem Calm.emergency_of_list (h : Calm s) (runs : s.cue.list ≠ .idle) : s.emc.emergency = false := by
  by_contra emergency
  exact runs (h.list_of_emergency (by simpa using emergency))

/-- The list is idle, or serves, and its context is as it was. -/
theorem Calm.of_parts (h : Calm s) (aired : Aired t) (emergency : t.emc.emergency = s.emc.emergency)
    (mode : t.stc.mode = s.stc.mode)
    (freeze : t.solver.cueFreeze = s.solver.cueFreeze ∧ t.solver.emergencyFreeze = s.solver.emergencyFreeze)
    (hold : s.frozen = true → t.solver.hold.isRunning = true → s.solver.hold.isRunning = true)
    (list : t.cue.list = s.cue.list) (quiet : s.emc.emergency = true → Quiet s → Quiet t) : Calm t := by
  obtain ⟨calm, frozen, held, serves⟩ := h.calm
  obtain ⟨cueFreeze, emergencyFreeze⟩ := freeze
  refine ⟨aired, ⟨fun inEmergency => ?_, ?_, fun isFrozen => ?_, ?_⟩, ?_⟩
  · rw [emergency] at inEmergency
    obtain ⟨idle, free⟩ := quiet inEmergency (h.quiet inEmergency)
    obtain ⟨-, noList, -, freezes⟩ := calm inEmergency
    exact ⟨idle, list.trans noList, free, by rw [mode, emergencyFreeze]; exact freezes⟩
  · rw [emergencyFreeze, emergency]
    exact frozen
  · have was : s.frozen = true := by
      unfold State.frozen at *
      rwa [cueFreeze, emergencyFreeze] at isFrozen
    by_contra runs
    exact absurd (hold was (by simpa using runs)) (by simp [held was])
  · rw [list]
    unfold State.serving at *
    rw [mode]
    exact serves
  · unfold ListLaw
    rw [list]
    exact h.list

/-- The mode, the solver, the list and the Probe Unit stand as they did. -/
theorem Calm.same (h : Calm s) (aired : Aired t) (emergency : t.emc.emergency = s.emc.emergency) (stc : t.stc = s.stc)
    (freeze : t.solver.cueFreeze = s.solver.cueFreeze ∧ t.solver.emergencyFreeze = s.solver.emergencyFreeze)
    (hold : t.solver.hold = s.solver.hold) (cue : t.cue = s.cue) (quiet : s.emc.emergency = true → Quiet s → Quiet t) :
    Calm t :=
  h.of_parts aired emergency (by rw [stc]) freeze (fun _ => by rw [hold]; exact id) (by rw [cue]) quiet

/-- A lawful state out of EMERGENCY, with a list as given. -/
theorem calm_of_ordinary (aired : Aired s) (emergency : s.emc.emergency = false) (freeze : s.solver.emergencyFreeze = false)
    (held : s.frozen = true → s.solver.hold.isRunning = false) (serves : s.cue.list ≠ .idle → s.serving = true)
    (list : ListLaw s) : Calm s :=
  ⟨aired, ⟨(fun inEmergency => by rw [emergency] at inEmergency; cases inEmergency),
    (fun freezes => by rw [freeze] at freezes; cases freezes), held, serves⟩, list⟩

theorem listLaw_of_idle (idle : s.cue.list = .idle) : ListLaw s := by
  intro c context
  rw [idle] at context
  cases context

/-! ### The single changes -/

theorem calm_powerStable : PowerStable Calm := by
  intro s c p cause hasCause h
  refine h.same (aired_powerStable c p cause hasCause h.aired) (by simp) (by simp) (by simp) (by simp) (by simp)
    fun _ quiet => quiet.same ?_
  obtain ⟨-, probe⟩ := quiet_powerStable quiet.1 c p cause hasCause ⟨rfl, rfl⟩
  exact probe

theorem calm_stable : Stable Calm where
  power := calm_powerStable
  channel := fun c _ power target laws h =>
    h.same (aired_stable.channel c power target laws h.aired) rfl rfl ⟨rfl, rfl⟩ rfl rfl fun _ quiet => quiet.same rfl
  bumped := fun n k h => h.same (aired_stable.bumped n k h.aired) rfl rfl ⟨rfl, rfl⟩ rfl rfl fun _ quiet => quiet.same rfl
  handed := fun mark other h =>
    h.same (aired_stable.handed mark other h.aired) (by simp) (by simp) (by simp) (by simp) (by simp)
      fun _ quiet => quiet.same (by simp)
  aligned := fun run h =>
    h.same (aired_stable.aligned run h.aired) (by simp) (by simp) (by simp) (by simp) (by simp)
      fun _ quiet => quiet.same (by simp)
  triggered := fun h =>
    h.same (aired_stable.triggered h.aired) (by simp) (by simp) (by simp) (by simp) (by simp) fun _ quiet => quiet.same (by simp)
  tabled := fun peers self air h =>
    h.same (aired_stable.tabled peers self air h.aired) rfl rfl ⟨rfl, rfl⟩ rfl rfl fun _ quiet => quiet.same rfl
  banded := fun eq level h =>
    h.same (aired_stable.banded eq level h.aired) rfl rfl ⟨rfl, rfl⟩ rfl rfl fun _ quiet => quiet.same rfl
  discarded := fun {s} station h =>
    h.same (aired_stable.discarded station h.aired) rfl rfl ⟨rfl, rfl⟩ rfl rfl fun _ quiet => ⟨quiet.1, fun i => by
      show (mapVector (Slot.discardFor station) s.probe.slots)[i] = .free
      rw [mapVector_get, quiet.2 i]
      rfl⟩

/-! ### Freezing -/

theorem follow_frozen (h : HoldTimer) : (h.follow true).isRunning = false := by cases h <;> rfl

/-- A hold timer does not run while the solver is frozen (R59). -/
theorem setFreeze_held (cue emergency : Bool) (s : State) (frozen : (setFreeze cue emergency s).frozen = true) :
    (setFreeze cue emergency s).solver.hold.isRunning = false := by
  have both : (cue || emergency) = true := frozen
  show (s.solver.hold.follow (cue || emergency)).isRunning = false
  rw [both]
  exact follow_frozen _

/-- The cue freeze changes. -/
theorem Calm.setCueFreeze (h : Calm s) (cue : Bool) : Calm (setFreeze cue s.solver.emergencyFreeze s) := by
  obtain ⟨calm, frozen, -, serves⟩ := h.calm
  exact ⟨h.aired.unheard rfl rfl rfl rfl rfl, ⟨calm, frozen, setFreeze_held _ _ _, serves⟩, h.list⟩

/-! ### EMERGENCY -/

theorem abandonList_list (s : State) : (abandonList s).cue.list = .idle := by
  unfold abandonList
  cases list : s.cue.list <;> simp [ListState.context, list, endList]

/-- EMERGENCY entry leaves no round and no window (R33, R44). -/
theorem probeEmergency_quiet (h : SlotsFit s.probe.slots s.probe.round s.number) : Quiet (probeEmergency s) := by
  unfold probeEmergency
  split
  · next idle =>
    refine ⟨idle, fun i => ?_⟩
    show (mapVector (Slot.cancel fun _ => true) s.probe.slots)[i] = .free
    rw [mapVector_get]
    cases slot : s.probe.slots[i] with
    | free => rfl
    | opened w => rfl
    | reserved o =>
      obtain ⟨-, runs | runs⟩ := h.reserved i o slot
      · exact absurd (idle.symm.trans runs) Round.noConfusion
      · exact absurd (idle.symm.trans runs) Round.noConfusion
  · refine ⟨rfl, fun i => ?_⟩
    show (mapVector (Slot.cancel fun _ => true) (mapVector Slot.freeReserved s.probe.slots))[i] = .free
    rw [mapVector_get, mapVector_get]
    cases s.probe.slots[i] <;> rfl

/-- EMERGENCY entry at the Probe Unit, the Cue Engine and the solver (R33, R44, R58, R154). -/
def emergencyBegun (s : State) : State :=
  let s := abandonList (probeEmergency (s.modEmc fun e => { e with emergency := true }))
  setFreeze s.solver.cueFreeze true s

/-- EMERGENCY exit at the solver (R58). -/
def emergencyEnded (s : State) : State :=
  let s := s.modEmc fun e => { e with emergency := false }
  trigger (setFreeze s.solver.cueFreeze false s)

theorem enterEmergency_eq (s : State) : enterEmergency s = powerEmergencyEntry (equaliserEmergency (emergencyBegun s)) := rfl

theorem leaveEmergency_eq (s : State) : leaveEmergency s = powerEmergencyExit (equaliserEmergency (emergencyEnded s)) := rfl

theorem emergencyBegun_calm (h : Calm s) : Calm (emergencyBegun s) := by
  have called : Aired (s.modEmc fun e => { e with emergency := true }) := h.aired.unheard rfl rfl rfl rfl rfl
  have probed := called.probeEmergency
  have quiet : Quiet (emergencyBegun s) :=
    (probeEmergency_quiet called.core.slots).same (by simp [emergencyBegun, setFreeze])
  have noList : (emergencyBegun s).cue.list = .idle := abandonList_list _
  refine ⟨?_, ⟨fun _ => ⟨quiet.1, noList, quiet.2, fun _ => rfl⟩, fun _ => ?_, setFreeze_held _ _ _, fun runs => absurd noList runs⟩,
    listLaw_of_idle noList⟩
  · exact probed.unheard (by simp [emergencyBegun, setFreeze]) (by simp [emergencyBegun, setFreeze])
      (by simp [emergencyBegun, setFreeze]) (by simp [emergencyBegun, setFreeze]) (by simp [emergencyBegun, setFreeze])
  · simp [emergencyBegun, setFreeze]

theorem emergencyEnded_calm (h : Calm s) : Calm (emergencyEnded s) := by
  have called : Calm (setFreeze s.solver.cueFreeze false (s.modEmc fun e => { e with emergency := false })) := by
    obtain ⟨-, -, -, serves⟩ := h.calm
    exact calm_of_ordinary (h.aired.unheard rfl rfl rfl rfl rfl) rfl rfl (setFreeze_held _ _ _) serves h.list
  exact calm_stable.triggered called

theorem calm_closed : Closed Calm where
  toStable := calm_stable
  emc := fun f kept h => h.same (h.aired.unheard rfl rfl rfl rfl rfl) (kept _) rfl ⟨rfl, rfl⟩ rfl rfl fun _ quiet => quiet.same rfl
  freed := fun n h => h.same (h.aired.unheard rfl rfl rfl rfl rfl) rfl rfl ⟨rfl, rfl⟩ rfl rfl fun _ quiet => quiet.same rfl
  entered := fun {s} _ h => by
    rw [enterEmergency_eq]
    exact calm_stable.emergencyValues (emergencyBegun_calm h)
  left := fun {s} _ h => by
    rw [leaveEmergency_eq]
    exact calm_stable.ordinaryValues (emergencyEnded_calm h)

/-! ### Cue actions -/

theorem startRound_calm (h : Calm s) (conditions : startConditions s = true) : Calm (startRound s) := by
  have ordinary : s.emc.emergency = false := by
    obtain ⟨-, ordinary, -⟩ := (startConditions_iff s).1 conditions
    exact ordinary
  exact h.same (h.aired.startRound conditions) (by simp) (by simp) (by simp) (by simp) (by simp)
    fun emergency => by simp [ordinary] at emergency

theorem performAction_calm {a : Action} (ranged : a.inRange) (h : Calm s) : Calm (performAction a s) := by
  refine calm_stable.performAction ranged h (fun _ => ?_) (fun _ => h.setCueFreeze true)
    (fun _ => calm_stable.triggered (h.setCueFreeze false)) fun v _ => calm_stable.triggered ?_
  · unfold probeAction
    split
    · next conditions => exact startRound_calm h conditions
    · exact calm_stable.bump _ h
  · exact h.same (h.aired.unheard rfl rfl rfl rfl rfl) rfl rfl ⟨rfl, rfl⟩ rfl rfl fun _ quiet => quiet.same rfl

/-- A list that ends leaves the Cue Engine idle (R140). -/
theorem endList_calm (h : Calm s) (cue position : Nat) (ending : Ending) : Calm (endList cue position ending s) := by
  obtain ⟨calm, frozen, held, -⟩ := h.calm
  refine ⟨h.aired.unheard rfl rfl rfl rfl rfl, ⟨fun emergency => ?_, frozen, held, fun runs => absurd rfl runs⟩, listLaw_of_idle rfl⟩
  obtain ⟨idle, -, free, freezes⟩ := calm emergency
  exact ⟨idle, rfl, free, freezes⟩

/-- A list runs or waits at a station that serves its zone, out of EMERGENCY. -/
theorem setList_calm (h : Calm s) (l : ListState) (ordinary : s.emc.emergency = false) (serves : s.serving = true)
    (ranges : ∀ c, l.context = some c → c.cue ≤ 63 ∧ c.params.length ≤ 4 ∧ c.position ≤ 512) :
    Calm (s.modCue fun e => { e with list := l }) := by
  obtain ⟨-, frozen, held, -⟩ := h.calm
  exact ⟨h.aired.unheard rfl rfl rfl rfl rfl, ⟨fun emergency => absurd emergency (by simp [ordinary]), frozen, held,
    fun _ => serves⟩, ranges⟩

theorem advanceList_calm (h : Calm s) {c : ListContext} {a : Action} (ordinary : s.emc.emergency = false)
    (serves : s.serving = true) (ranges : c.cue ≤ 63 ∧ c.params.length ≤ 4) (within : c.position + a.length ≤ 512) :
    Calm (advanceList c a s) := by
  have advanced {l : ListState} (context : l.context = some { c with position := c.position + a.length }) :
      Calm (s.modCue fun e => { e with list := l }) := by
    refine setList_calm h l ordinary serves fun d isContext => ?_
    rw [context] at isContext
    cases isContext
    exact ⟨ranges.1, ranges.2, within⟩
  unfold advanceList
  split
  · exact endList_calm h _ _ _
  · exact advanced rfl
  · exact advanced rfl

theorem takeAction_calm (h : Calm s) : Calm (takeAction s) := by
  unfold takeAction
  split
  · next c running =>
    have runs : s.cue.list ≠ .idle := by rw [running]; exact ListState.noConfusion
    split
    · exact calm_stable.bump _ (endList_calm h _ _ _)
    · next a decoded =>
      obtain ⟨ranged, within⟩ := decodeAction_ok decoded
      have ordinary := h.emergency_of_list runs
      obtain ⟨-, -, -, serves⟩ := h.calm
      obtain ⟨cue, params, -⟩ := h.list c (by rw [running]; rfl)
      exact advanceList_calm (performAction_calm ranged h) (by simpa using ordinary)
        (by simpa [State.serving] using serves runs) ⟨cue, params⟩ within
  · exact h

/-- The Cue Engine's records and counters are no part of these laws. -/
theorem modCue_calm (h : Calm s) {f : CueEngine → CueEngine} (list : (f s.cue).list = s.cue.list) : Calm (s.modCue f) :=
  h.of_parts (h.aired.unheard rfl rfl rfl rfl rfl) rfl rfl ⟨rfl, rfl⟩ (fun _ => id) list fun _ quiet => quiet.same rfl

theorem cueRefusal_none {number : Byte} (taken : cueRefusal s number = none) :
    s.emc.emergency = false ∧ s.serving = true ∧ number.toNat ≤ 63 := by
  unfold cueRefusal at taken
  split at taken
  · cases taken
  · split at taken
    · cases taken
    · split at taken
      · cases taken
      · simp_all [State.inEmergency]

theorem acceptCue_calm (source : Nat) (number : Byte) {params : List Byte} (short : params.length ≤ 4) (h : Calm s) :
    Calm (acceptCue source number params s) := by
  unfold acceptCue
  split
  · exact calm_stable.bump _ (modCue_calm h rfl)
  · next taken =>
    obtain ⟨ordinary, serves, le⟩ := cueRefusal_none taken
    have overtaken : Calm (overtakeList s) := by
      unfold overtakeList
      split
      · exact modCue_calm (endList_calm h _ _ _) rfl
      · exact h
    have ordinary' : (overtakeList s).emc.emergency = false := by simpa using ordinary
    have serves' : (overtakeList s).serving = true := by simpa [State.serving] using serves
    unfold startList
    dsimp only
    split
    · exact modCue_calm (modCue_calm (endList_calm overtaken _ _ _) rfl) rfl
    · refine modCue_calm (setList_calm overtaken _ ordinary' serves' fun c isContext => ?_) rfl
      cases isContext
      exact ⟨le, short, by show 8 * number.toNat ≤ 512; omega⟩

end

end Sys2Proof.Machine
end

section
/-! PROOFS. The law of EMERGENCY (R134) and the ranges of a list (R140) through every turn: the line and the changes of the
mode. -/

namespace Sys2Proof.Machine

section

variable {s t : State}

/-! ### The Probe Unit and the line -/

theorem setSlot_quiet (quiet : Quiet s) (i : Fin 2) : Quiet (setSlot i .free s) := by
  refine ⟨quiet.1, fun j => ?_⟩
  by_cases here : i.val = j.val
  · obtain rfl : i = j := Fin.ext here
    exact Vector.getElem_set_self i.isLt
  · exact (Vector.getElem_set_ne i.isLt j.isLt here).trans (quiet.2 j)

theorem takeMark_quiet (station : Nat) (stamp : Instant) (emergency : s.emc.emergency = true) (quiet : Quiet s) :
    Quiet (takeMark station stamp s) := by
  unfold takeMark
  split
  · exact quiet
  · dsimp only
    rw [if_pos (show (s.modPeer _ _).inEmergency = true from emergency)]
    exact quiet.same rfl

theorem ownEndOfMark_quiet (stamp : Instant) (quiet : Quiet s) : Quiet (ownEndOfMark stamp s) := by
  rw [ownEndOfMark, if_neg (by rw [quiet.1]; exact Round.noConfusion)]
  exact quiet

theorem enterTxQuiet_quiet (quiet : Quiet s) : Quiet (enterTxQuiet s) := by
  have emptied : Quiet ((bump .txQuietEntries (emptyQueue s)).modBus fun b => { b with txQuiet := true, recovery := 0 }) :=
    quiet.same rfl
  unfold enterTxQuiet
  dsimp only
  split
  · exact emptied.abort false
  · exact emptied.abort false
  · exact emptied
  · exact emptied

theorem collided_quiet (a : Attempt) (quiet : Quiet s) : Quiet (collided a s) := by
  have failed : Quiet (bump .txCollision (s.modBus (attemptFailed a))) := quiet.same rfl
  unfold collided
  dsimp only
  split
  · exact failed.abort false
  · exact failed

/-- While no round runs a programme sample leaves the Probe Unit as it is, but for what the windows hear (R28, R37). -/
theorem takeSample_quiet (x microphone : Int) (quiet : Quiet s) : Quiet (takeSample x microphone s) := by
  have judged : Quiet (setJudgement (judgeSample s x) s) := by
    refine quiet.same ?_
    unfold setJudgement
    split
    · rfl
    · obtain ⟨-, probe⟩ := PowerStable.pass (P := SameAir s)
        (fun c _ => PowerStable.actOnSilence (quiet_powerStable quiet.1) c)
        (s := s.modLevel fun l => { l with present := judgeSample s x }) ⟨rfl, rfl⟩
      exact probe
  have heard {u : State} (hu : Quiet u) : Quiet (hearSample microphone u) := ⟨hu.1, fun i => by
    show (mapVector (Slot.hear u.timeBase microphone) u.probe.slots)[i] = .free
    rw [mapVector_get, hu.2 i]
    rfl⟩
  have placed {u : State} (hu : Quiet u) : Quiet (placeEmission u) := by
    unfold placeEmission
    split
    · split
      · exact hu
      · exact hu
    · exact hu
  have advanced {u : State} (hu : Quiet u) : Quiet (advanceEmission u) := by
    rw [advanceEmission, if_neg (by rw [hu.1]; exact fun runs => Round.noConfusion runs.1)]
    exact hu
  have written : Quiet (writeSample x (judgeSample s x) (setJudgement (judgeSample s x) s)) := judged.same rfl
  exact advanced ((placed (heard written)).same (by simp [forChannels]))

/-! ### Changes of the station mode -/

theorem enterConfigFault_calm (reason : FaultReason) (h : Calm s) (mode : s.stc.mode ≠ .run) (noList : s.cue.list = .idle) :
    Calm (enterConfigFault reason s) := by
  have entered : Calm (formTargets ((faultStartup reason s).modSolver fun _ => Solver.reset)) := by
    refine ⟨h.aired.moded (by simp [faultStartup]) (by simp [faultStartup]) (by simp [faultStartup, State.number])
      (h.aired.core.idle mode) (by simp [faultStartup]), ⟨fun emergency => ?_, fun frozen => ?_, fun frozen => ?_, fun runs => ?_⟩,
      listLaw_of_idle (by simpa [faultStartup] using noList)⟩
    · have quiet := h.quiet (by simpa [faultStartup] using emergency)
      refine ⟨by simpa [faultStartup] using quiet.1, by simpa [faultStartup] using noList, ?_, fun out => ?_⟩
      · rw [show (formTargets ((faultStartup reason s).modSolver fun _ => Solver.reset)).probe = s.probe by simp [faultStartup]]
        exact quiet.2
      · exact absurd (by simp [faultStartup]) out
    · simp [Solver.reset] at frozen
    · simp [Solver.reset, HoldTimer.isRunning]
    · exact absurd (by simpa [faultStartup] using noList) runs
  have settled := calm_stable.retargetAll (calm_stable.requestAll entered)
  unfold enterConfigFault
  dsimp only
  refine calm_stable.handRoll ?_
  split
  · exact PowerStable.pass (fun c _ => PowerStable.enterWaking calm_powerStable c) settled
  · exact settled

theorem beginLoading_calm (h : Calm s) (mode : s.stc.mode = .loading) (noList : s.cue.list = .idle) : Calm (beginLoading s) := by
  have notRun : s.stc.mode ≠ .run := by rw [mode]; exact Mode.noConfusion
  have aired := beginLoading_aired h.aired notRun
  unfold beginLoading at aired ⊢
  split
  · next station =>
    rw [if_pos station] at aired
    exact h.of_parts aired rfl mode.symm ⟨rfl, rfl⟩ (fun _ => id) rfl fun _ quiet => quiet.same rfl
  · exact enterConfigFault_calm _ h notRun noList

theorem reset_calm (bus : t.bus = State.reset.bus) (probe : t.probe = State.reset.probe) (solver : t.solver = Solver.reset)
    (cue : t.cue = State.reset.cue) (emergency : t.emc.emergency = false) : Calm t := by
  have noList : t.cue.list = .idle := by rw [cue]; rfl
  exact calm_of_ordinary (reset_aired bus probe) emergency (by rw [solver]; rfl) (fun _ => by rw [solver]; rfl)
    (fun runs => absurd noList runs) (listLaw_of_idle noList)

theorem hardReset_calm (straps : Straps) (s : State) : Calm (beginLoading (resetState straps s)) :=
  beginLoading_calm (reset_calm rfl rfl rfl rfl rfl) rfl rfl

theorem warmRestart_calm (straps : Straps) (s : State) : Calm (warmRestart straps s) :=
  beginLoading_calm (reset_calm rfl rfl rfl rfl rfl) rfl rfl

theorem takeRestart_calm (unit : BitVec 32) (straps : Straps) (h : Calm s) : Calm (takeRestart unit straps s) := by
  unfold takeRestart
  split
  · exact h
  · split
    · exact calm_stable.bump _ h
    · exact warmRestart_calm straps s

/-- A station whose mode changes while its list is idle. -/
theorem Calm.moded (h : Calm s) (aired : Aired t) (emergency : t.emc.emergency = s.emc.emergency)
    (fault : s.stc.mode ≠ .configFault) (freeze : t.solver.cueFreeze = s.solver.cueFreeze ∧
    t.solver.emergencyFreeze = s.solver.emergencyFreeze) (hold : t.solver.hold = s.solver.hold) (list : t.cue.list = s.cue.list)
    (serves : s.cue.list ≠ .idle → t.serving = true) (quiet : Quiet s → Quiet t) : Calm t := by
  obtain ⟨calm, frozen, held, -⟩ := h.calm
  obtain ⟨cueFreeze, emergencyFreeze⟩ := freeze
  refine ⟨aired, ⟨fun inEmergency => ?_, ?_, ?_, by rw [list]; exact serves⟩, ?_⟩
  · rw [emergency] at inEmergency
    obtain ⟨idle, free⟩ := quiet (h.quiet inEmergency)
    obtain ⟨-, noList, -, freezes⟩ := calm inEmergency
    exact ⟨idle, list.trans noList, free, fun _ => emergencyFreeze.trans (freezes fault)⟩
  · rw [emergencyFreeze, emergency]
    exact frozen
  · unfold State.frozen at *
    rw [cueFreeze, emergencyFreeze, hold]
    exact held
  · unfold ListLaw
    rw [list]
    exact h.list

theorem Calm.noList (h : Calm s) (rests : s.serving = false) : s.cue.list = .idle := by
  obtain ⟨-, -, -, serves⟩ := h.calm
  by_contra runs
  rw [serves runs] at rests
  cases rests

theorem enterAnnounce_calm (img : Image) (h : Calm s) (mode : s.stc.mode = .loading) : Calm (enterAnnounce img s) := by
  have noList := h.noList (by simp [State.serving, mode])
  refine calm_stable.handRoll (h.moded
    (h.aired.moded (by simp) (by simp) (by simp [State.number]) (h.aired.core.idle (by simp [mode])) (by simp)) (by simp)
    (by simp [mode]) (by simp [installImage_solver]) (by simp [installImage_solver]) ?_ (fun runs => absurd noList runs) fun quiet =>
      quiet.same (by simp))
  simp [installImage, forChannels]

theorem solverSetup_hold (s : State) : (solverSetup s).solver.hold = s.solver.hold ∧
    (solverSetup s).solver.cueFreeze = s.solver.cueFreeze ∧
    (solverSetup s).solver.emergencyFreeze = s.solver.emergencyFreeze := by
  unfold solverSetup
  split
  · rw [setPathTime_solver, setDelayTarget_solver]
    exact ⟨rfl, rfl, rfl⟩
  · simp [setPathTime_solver, setDelayTarget_solver]

theorem enterRun_calm (h : Calm s) (mode : s.stc.mode = .announce) : Calm (enterRun s) := by
  have noList := h.noList (by simp [State.serving, mode])
  have idle := h.aired.core.idle (by simp [mode])
  obtain ⟨hold, freeze⟩ := solverSetup_hold (s.modStc fun c => { c with mode := .run, claim := none })
  have set : Calm (solverSetup (s.modStc fun c => { c with mode := .run, claim := none })) :=
    h.moded (h.aired.moded (by simp) (by simp) (by simp [State.number]) idle (by simp)) (by simp) (by simp [mode]) freeze hold
      (by simp) (fun runs => absurd noList runs) fun quiet => quiet.same (by simp)
  have released : Calm (runReleased s) := PowerStable.pass (fun c _ => PowerStable.releaseChannel calm_powerStable c)
    (calm_stable.retargetAll (calm_stable.requestAll set))
  have aired := enterRun_aired h.aired mode
  rw [enterRun_eq] at aired ⊢
  exact released.same aired (by simp) (by simp) (by simp) (by simp) (by simp) fun _ quiet => by
    refine ⟨?_, ?_⟩
    · simpa using quiet.1
    · rw [show (handAlign ((runReleased s).modProbe fun u => { u with timer := some (5000000 + (runReleased s).jitter) })).probe =
        { (runReleased s).probe with timer := some (5000000 + (runReleased s).jitter) } by simp]
      exact quiet.2

theorem enterConflict_calm (h : Calm s) (mode : s.stc.mode = .run) : Calm (enterConflict s) := by
  have emptied (quiet : Quiet s) : Quiet (conflictEmptied s) := quiet.same rfl
  refine h.moded (enterConflict_aired h.aired) (by simp) (by simp [mode]) ?_ ?_ (by simp) (fun _ => by simp [State.serving])
    fun quiet => ?_
  all_goals
    unfold enterConflict
    dsimp only
    split
  iterate 4 exact ⟨rfl, rfl⟩
  iterate 4 rfl
  · exact emptied quiet
  · exact (emptied quiet).abort true
  · exact (emptied quiet).abort true
  · exact ((emptied quiet).abort true).cancel _

theorem takeDuplicate_calm (roll : Option RollBody) (h : Calm s) : Calm (takeDuplicate roll s) := by
  have noted {u : State} (hu : Calm u) (f : Startup → Startup) (mode : (f u.stc).mode = u.stc.mode)
      (straps : (f u.stc).straps = u.stc.straps) : Calm (u.modStc f) := by
    refine hu.of_parts ?_ rfl mode ⟨rfl, rfl⟩ (fun _ => id) rfl fun _ quiet => quiet.same rfl
    exact ⟨hu.aired.core.same rfl rfl rfl rfl mode (congrArg (fun x : Straps => x.number.toNat) straps),
      hu.aired.gate.same rfl rfl fun _ => rfl, hu.aired.line.shrink rfl rfl rfl mode id id⟩
  have counted : Calm (s.modStc fun c => { c with duplicates := satInc c.duplicates }) := noted h _ rfl rfl
  unfold takeDuplicate
  split
  · next mode =>
    dsimp only
    split
    · exact calm_stable.handRollUnlessWaiting counted
    · next b =>
      have recorded (won : Bool) : Calm (recordDuplicate b.unit won
          (s.modStc fun c => { c with duplicates := satInc c.duplicates })) := noted counted _ rfl rfl
      unfold contest
      split
      · exact calm_stable.handRollUnlessWaiting (recorded true)
      · split
        · exact counted
        · split
          · dsimp only
            split
            · next announce => exact enterConflict_calm (enterRun_calm (recorded false) announce) (by simp)
            · next other => exact enterConflict_calm (recorded false) (mode.resolve_left other)
          · exact calm_stable.handRoll (recorded true)
  · exact h

/-! ### Every turn -/

/-- EMERGENCY, the mode, the freezes and the list stand as they did, and a frozen hold timer stays so. -/
def SameCalm (s t : State) : Prop :=
  t.emc.emergency = s.emc.emergency ∧ t.stc.mode = s.stc.mode ∧
  (t.solver.cueFreeze = s.solver.cueFreeze ∧ t.solver.emergencyFreeze = s.solver.emergencyFreeze) ∧
  (s.frozen = true → t.solver.hold.isRunning = true → s.solver.hold.isRunning = true) ∧ t.cue.list = s.cue.list

theorem SameCalm.refl (s : State) : SameCalm s s := ⟨rfl, rfl, ⟨rfl, rfl⟩, fun _ => id, rfl⟩

theorem SameCalm.of_eq (emc : t.emc = s.emc) (stc : t.stc = s.stc) (solver : t.solver = s.solver) (cue : t.cue = s.cue) :
    SameCalm s t := by
  unfold SameCalm
  rw [emc, stc, solver, cue]
  exact ⟨rfl, rfl, ⟨rfl, rfl⟩, fun _ => id, rfl⟩

/-- An event that leaves these alone. -/
theorem event_calm {f : State → State} (h : Calm s) (aired : Aired (event f s)) (same : SameCalm s (f s))
    (quiet : s.emc.emergency = true → Quiet s → Quiet (f s)) : Calm (event f s) := by
  obtain ⟨emc, stc, freeze, hold, list⟩ := same
  exact h.of_parts aired (by simpa using emc) (by simpa using stc) (by simpa using freeze) (by simpa using hold)
    (by simpa using list) fun emergency still => (quiet emergency still).same (by simp)

theorem solvePass_sameCalm (s : State) : SameCalm s (solvePass s) := by
  have computed : SameCalm s (computePass s) := ⟨rfl, rfl, ⟨rfl, rfl⟩, fun _ => id, rfl⟩
  have applied {u : State} (free : (computePass s).frozen ≠ true) (emc : u.emc = s.emc) (stc : u.stc = s.stc)
      (cue : u.cue = s.cue) (freeze : u.solver.cueFreeze = s.solver.cueFreeze ∧
      u.solver.emergencyFreeze = s.solver.emergencyFreeze) : SameCalm s u :=
    ⟨by rw [emc], by rw [stc], freeze, fun frozen => absurd frozen free, by rw [cue]⟩
  unfold solvePass
  dsimp only
  split
  · exact computed
  · next free =>
    split
    · exact applied free (by simp) (by simp) (by simp) (by rw [applyWinner_solver]; exact ⟨rfl, rfl⟩)
    · unfold applyNone
      split
      · exact applied free rfl rfl rfl ⟨rfl, rfl⟩
      · exact computed

theorem holdExpired_sameCalm (s : State) : SameCalm s (holdExpired s) :=
  ⟨by simp, by simp, by rw [holdExpired_solver]; exact ⟨rfl, rfl⟩,
    (fun _ runs => by rw [holdExpired_solver] at runs; cases runs), by simp⟩

theorem exec_calm {c : Instr} (single : isSingle c = true) (answer : exec c s = .next t) (h : Calm s) : Calm t := by
  have aired := exec_aired single answer h.aired
  have unheard {u : State} (aired : Aired u) (emc : u.emc.emergency = s.emc.emergency) (stc : u.stc.mode = s.stc.mode)
      (solver : u.solver = s.solver) (cue : u.cue.list = s.cue.list) (quiet : s.emc.emergency = true → Quiet s → Quiet u) :
      Calm u :=
    h.of_parts aired emc stc (by rw [solver]; exact ⟨rfl, rfl⟩) (by rw [solver]; exact fun _ => id) cue quiet
  have loading {u : State} (mode : u.stc.mode = .loading) : u.serving = false ∧ u.stc.mode ≠ .run := by
    simp [State.serving, mode]
  have fault (reason : FaultReason) (mode : s.stc.mode = .loading) : Calm (enterConfigFault reason s) :=
    enterConfigFault_calm _ h (loading mode).2 (h.noList (loading mode).1)
  cases c
  case align | roll | mark | evac | cue | waitTimerExpiry | query | restart | reply | duplicateFrame | interFrameGap =>
    cases single
  case silenceTimerExpiry | readyAsserted | readyLost | faultLineAsserted | faultLineReleased | wakeTimerExpiry
    | lostSample | slewComplete | crossfadeEnd | rampEnd | gateFadeEnd => exact calm_stable.exec_channel answer h trivial
  case secondTick | entryStale | entryLost | poolRelease | airReply | airReplyTimeout | programmeJudgementChange
    | refreshTimerExpiry => exact calm_stable.exec_table answer h trivial
  case contactPinChange | debouncedContactAsserted | debouncedContactReleased | resetContactAsserted
    | resetContactReleased | evacRefreshExpiry => exact calm_closed.exec_emergency answer h trivial
  case hardReset straps =>
    cases answer
    exact hardReset_calm straps s
  case imageHeaderRead header =>
    cases answer
    split
    · next mode _ =>
      split
      · exact h
      · dsimp only
        split
        · next good =>
          refine unheard ?_ rfl rfl rfl rfl fun _ quiet => quiet.same rfl
          exact ⟨h.aired.core.same rfl rfl rfl rfl rfl rfl, h.aired.gate.same rfl rfl fun _ => rfl,
            h.aired.line.shrink rfl rfl rfl rfl id id⟩
        · exact fault _ mode
    · exact h
  case imageReadTimeout =>
    cases answer
    split
    · next mode _ => exact fault _ mode
    · next mode _ => exact fault _ mode
    · exact h
  case imageReadComplete rest =>
    cases answer
    split
    · next mode _ =>
      dsimp only
      split
      · exact h
      · split
        · exact fault _ mode
        · exact enterAnnounce_calm _ h mode
    · exact h
  case claimTimerExpiry =>
    cases answer
    split
    · next announce => exact enterRun_calm h announce.1
    · exact h
  case txAttempt =>
    cases answer
    refine unheard aired ?_ ?_ ?_ ?_ fun _ quiet => quiet.same ?_
    all_goals (repeat' split) <;> rfl
  case txSuccess =>
    cases answer
    refine event_calm h aired ?_ fun _ quiet => ?_
    · split
      · exact .refl s
      · dsimp only
        split <;> exact .of_eq (by simp) (by simp) (by simp) (by simp)
    · split
      · exact quiet
      · next a _ =>
        have succeeded : Quiet (bump .txGood (s.modBus (attemptSucceeded a))) := quiet.same rfl
        dsimp only
        split
        · exact ownEndOfMark_quiet _ succeeded
        · exact succeeded
  case txCollision =>
    cases answer
    refine event_calm h aired ?_ fun _ quiet => ?_
    · split
      · exact .refl s
      · next a _ =>
        dsimp only
        (repeat' split) <;> exact .of_eq (by simp) (by simp) (by simp) (by simp)
    · split
      · exact quiet
      · next a _ =>
        show Quiet (if 64 ≤ (collided a s).bus.tfc then enterTxQuiet (collided a s) else collided a s)
        split
        · exact enterTxQuiet_quiet (collided_quiet a quiet)
        · exact collided_quiet a quiet
  case txQuietRecovery =>
    cases answer
    refine unheard aired ?_ ?_ ?_ ?_ fun _ quiet => quiet.same ?_
    all_goals split <;> rfl
  case probeTimerExpiry =>
    cases answer
    refine event_calm h aired ?_ fun emergency quiet => ?_
    · (repeat' split) <;> exact .of_eq (by simp) (by simp) (by simp) (by simp)
    · split
      · split
        · next conditions =>
          obtain ⟨-, ordinary, -⟩ := (startConditions_iff s).1 conditions
          exact absurd emergency (by simp [ordinary])
        · exact quiet
      · exact quiet
  case markDeadlineExpiry =>
    cases answer
    refine event_calm h aired ?_ fun _ quiet => ?_
    · dsimp only
      (repeat' split) <;> exact .of_eq (by simp) (by simp) (by simp) (by simp)
    · split
      · dsimp only
        split
        · exact quiet
        · exact Quiet.abort (s := s.modProbe fun u => { u with deadline := none }) quiet false
      · exact quiet
  case emissionStart | emissionEnd =>
    cases answer
    refine event_calm h aired ?_ fun _ quiet => ?_
    · split <;> exact .refl s
    · rw [if_neg (by rw [quiet.1]; exact Round.noConfusion)]
      exact quiet
  case windowClose i =>
    cases answer
    refine calm_stable.event ?_
    split
    · next w opened =>
      have freed : Calm (setSlot i .free s) :=
        h.same (h.aired.free opened) rfl rfl ⟨rfl, rfl⟩ rfl rfl fun _ quiet => setSlot_quiet quiet i
      dsimp only
      split
      · exact freed
      · exact calm_stable.deliverResult _ _ freed
    · exact h
  case correlatorPeak i offset score =>
    cases answer
    refine event_calm h aired ?_ fun _ quiet => ?_
    · split
      · split <;> exact .refl s
      · exact .refl s
    · rw [show s.probe.slots[i] = .free from quiet.2 i]
      exact quiet
  case settleExpiry =>
    cases answer
    refine event_calm h aired ?_ fun _ quiet => ?_
    · split
      · exact solvePass_sameCalm (s.modSolver fun v => { v with settle := none })
      · exact .refl s
    · split
      · exact quiet.same (by simp)
      · exact quiet
  case holdTimerExpiry =>
    cases answer
    refine event_calm h aired ?_ fun _ quiet => ?_
    · split
      · exact holdExpired_sameCalm s
      · exact .refl s
    · split
      · exact quiet.same (by simp)
      · exact quiet
  case programmeSample x =>
    cases answer
    refine event_calm h aired (.of_eq ?_ ?_ ?_ ?_) fun _ quiet => takeSample_quiet _ _ quiet
    all_goals simp [takeSample, forChannels]
  case lineCharacter char driven =>
    cases answer
    exact unheard aired (by simp) (by simp) (by simp) (by simp) fun _ quiet => quiet.same (by simp)

theorem turn_keeps_calm (turn : Turn s t) (h : Calm s) : Calm t := by
  have aired := turn_keeps_aired turn h.aired
  cases turn with
  | unwait q => exact h.same aired rfl rfl ⟨rfl, rfl⟩ rfl rfl fun _ quiet => quiet.same rfl
  | pass idling =>
    have ticked : (tick s).cue.list.context = s.cue.list.context := by
      show s.cue.list.tick.context = _
      cases s.cue.list <;> rfl
    obtain ⟨calm, frozen, held, serves⟩ := h.calm
    refine ⟨aired, ⟨fun emergency => ?_, frozen, fun isFrozen => ?_, fun runs => ?_⟩, fun c context => ?_⟩
    · obtain ⟨idle, noList, free, freezes⟩ := calm emergency
      exact ⟨idle, by show s.cue.list.tick = .idle; rw [noList]; rfl, free, freezes⟩
    · have := held isFrozen
      show s.solver.hold.tick.isRunning = false
      cases hold : s.solver.hold <;> simp_all [HoldTimer.tick, HoldTimer.isRunning]
    · refine serves fun noList => runs ?_
      show s.cue.list.tick = .idle
      rw [noList]
      rfl
    · exact h.list c (ticked ▸ context)
  | act => exact calm_stable.event (takeAction_calm h)
  | resume waiting =>
    next c left =>
    have runs : s.cue.list ≠ .idle := by rw [waiting]; exact ListState.noConfusion
    obtain ⟨-, -, -, serves⟩ := h.calm
    refine setList_calm h _ (h.emergency_of_list runs) (serves runs) fun d context => ?_
    cases context
    exact h.list c (by rw [waiting]; rfl)
  | count k => exact calm_stable.bump k h
  | pins straps => exact h.of_parts aired rfl rfl ⟨rfl, rfl⟩ (fun _ => id) rfl fun _ quiet => quiet.same rfl
  | gap => exact h.of_parts aired rfl rfl ⟨rfl, rfl⟩ (fun _ => id) rfl fun _ quiet => quiet.same rfl
  | valid => exact h.same aired (by simp) (by simp) (by simp) (by simp) (by simp) fun _ quiet => quiet.same (by simp)
  | duplicate roll => exact calm_stable.event (takeDuplicate_calm roll h)
  | @handed f _ stamp straps burst station other noCue =>
    obtain ⟨src, dst, body⟩ := f
    cases body with
    | cue => exact absurd noCue Bool.false_ne_true
    | align r =>
      exact calm_stable.event (f := fun s => takeContactFlag src r.flags.contact (tableTakesAlign src r s))
        (calm_closed.takeContactFlag _ _ (calm_stable.tableTakesAlign _ _ h))
    | roll b => exact calm_stable.event (calm_closed.takeContactFlag _ _ h)
    | evac set => exact calm_stable.event (calm_closed.takeEvac _ _ h)
    | mark =>
      exact calm_stable.event (h.same (h.aired.takeMark src stamp other) (by simp) (by simp) (by simp) (by simp) (by simp)
        fun emergency quiet => takeMark_quiet src stamp emergency quiet)
    | query q =>
      exact calm_stable.event (calm_stable.answerQuery _ _ (fun _ hu =>
        hu.same (hu.aired.unheard rfl rfl rfl rfl rfl) rfl rfl ⟨rfl, rfl⟩ rfl rfl fun _ quiet => quiet.same rfl) h)
    | restart unit => exact calm_stable.event (takeRestart_calm unit straps h)
    | replyData => exact h
    | replyStatus => exact h
  | accept src number _ short => exact acceptCue_calm src number short h
  | command single answer => exact exec_calm single answer h

end

end Sys2Proof.Machine
end

section
/-! PROOFS. The second law of Emergency Control (R132) through every turn. -/

namespace Sys2Proof.Machine

/-- EMERGENCY is as the own alarm and the source set say (R131). -/
def Followed (s : State) : Prop := s.emc.emergency = (s.ownAlarm || !s.emc.sources.isEmpty)

/-- The source set is sorted and holds other stations, and in LEVEL mode the latch stays clear (R126, R128). -/
structure SourceLaw (s : State) : Prop where
  sorted : s.emc.sources.Pairwise (· < ·)
  others : ∀ n ∈ s.emc.sources, isStation n = true ∧ n ≠ s.number
  level : s.stc.straps.latched = false → s.emc.latch = false

theorem alarmLaw_iff (s : State) : AlarmLaw s ↔ Followed s ∧ SourceLaw s :=
  ⟨fun ⟨followed, sorted, others, level⟩ => ⟨followed, sorted, others, level⟩,
    fun ⟨followed, sorted, others, level⟩ => ⟨followed, sorted, others, level⟩⟩

section

variable {s t : State}

/-! ### What the laws speak of -/

theorem Followed.same (h : Followed s) (straps : t.stc.straps = s.stc.straps) (emergency : t.emc.emergency = s.emc.emergency)
    (contact : t.emc.contact = s.emc.contact) (latch : t.emc.latch = s.emc.latch) (sources : t.emc.sources = s.emc.sources) :
    Followed t := by
  unfold Followed State.ownAlarm at *
  rw [straps, emergency, contact, latch, sources]
  exact h

theorem SourceLaw.same (h : SourceLaw s) (straps : t.stc.straps = s.stc.straps) (latch : t.emc.latch = s.emc.latch)
    (sources : t.emc.sources = s.emc.sources) : SourceLaw t := by
  obtain ⟨sorted, others, level⟩ := h
  refine ⟨?_, ?_, ?_⟩
  · rw [sources]
    exact sorted
  · rw [sources, State.number, straps]
    exact others
  · rw [straps, latch]
    exact level

theorem AlarmLaw.same (h : AlarmLaw s) (straps : t.stc.straps = s.stc.straps) (emc : t.emc = s.emc) : AlarmLaw t := by
  obtain ⟨followed, sources⟩ := (alarmLaw_iff s).1 h
  exact (alarmLaw_iff t).2 ⟨followed.same straps (by rw [emc]) (by rw [emc]) (by rw [emc]) (by rw [emc]),
    sources.same straps (by rw [emc]) (by rw [emc])⟩

/-- The pins, the spans and the refresh timer are no part of the law. -/
theorem AlarmLaw.timed (h : AlarmLaw s) (straps : t.stc.straps = s.stc.straps) (emergency : t.emc.emergency = s.emc.emergency)
    (contact : t.emc.contact = s.emc.contact) (latch : t.emc.latch = s.emc.latch) (sources : t.emc.sources = s.emc.sources) :
    AlarmLaw t := by
  obtain ⟨followed, law⟩ := (alarmLaw_iff s).1 h
  exact (alarmLaw_iff t).2 ⟨followed.same straps emergency contact latch sources, law.same straps latch sources⟩

/-! ### Entry and exit -/

@[simp] theorem emergencyBegun_emc (s : State) : (emergencyBegun s).emc = { s.emc with emergency := true } := by
  simp [emergencyBegun, setFreeze]

@[simp] theorem emergencyEnded_emc (s : State) : (emergencyEnded s).emc = { s.emc with emergency := false } := by
  simp [emergencyEnded, setFreeze]

theorem enterEmergency_emc (s : State) : (enterEmergency s).emc = { s.emc with emergency := true } := by
  rw [enterEmergency_eq]
  simp

theorem leaveEmergency_emc (s : State) : (leaveEmergency s).emc = { s.emc with emergency := false } := by
  rw [leaveEmergency_eq]
  simp

/-- EMERGENCY follows the own alarm and the source set, and nothing else of Emergency Control changes (R131). -/
theorem followInputs_emc (s : State) :
    (followInputs s).emc = { s.emc with emergency := s.ownAlarm || !s.emc.sources.isEmpty } := by
  unfold followInputs State.inEmergency
  dsimp only
  generalize (s.ownAlarm || !s.emc.sources.isEmpty) = wanted
  split
  · next enters =>
    rw [enterEmergency_emc]
    simp_all
  · split
    · next leaves =>
      rw [leaveEmergency_emc]
      simp_all
    · have : s.emc.emergency = wanted := by
        cases wanted <;> simp_all
      rw [← this]

theorem followInputs_stc (s : State) : (followInputs s).stc = s.stc := by simp

theorem followInputs_followed (s : State) : Followed (followInputs s) := by
  unfold Followed State.ownAlarm
  rw [followInputs_stc, followInputs_emc]
  rfl

theorem followInputs_alarmLaw (h : SourceLaw s) : AlarmLaw (followInputs s) :=
  (alarmLaw_iff _).2 ⟨followInputs_followed s, h.same (by simp) (by rw [followInputs_emc]) (by rw [followInputs_emc])⟩

/-! ### The single changes -/

theorem alarm_stable : Stable AlarmLaw where
  power := fun _ _ _ _ h => h.same (by simp) (by simp)
  channel := fun _ _ _ _ _ h => h.same rfl rfl
  bumped := fun _ _ h => h.same rfl rfl
  handed := fun _ _ h => h.same (by simp) (by simp)
  aligned := fun _ h => h.same (by simp) (by simp)
  triggered := fun h => h.same (by simp) (by simp)
  tabled := fun _ _ _ h => h.same rfl rfl
  banded := fun _ _ h => h.same rfl rfl
  discarded := fun _ h => h.same rfl rfl

/-! ### The source set (R128, R129) -/

theorem mem_addSource {n m : Nat} {l : List Nat} : m ∈ addSource n l ↔ m = n ∨ m ∈ l := by
  induction l with
  | nil => simp [addSource]
  | cons k l ih =>
    unfold addSource
    split
    · next same => simp [same]
    · split
      · simp
      · simp only [List.mem_cons, ih]
        exact or_left_comm

theorem addSource_sorted {n : Nat} {l : List Nat} (sorted : l.Pairwise (· < ·)) : (addSource n l).Pairwise (· < ·) := by
  induction l with
  | nil => simp [addSource]
  | cons k l ih =>
    obtain ⟨above, rest⟩ := List.pairwise_cons.1 sorted
    unfold addSource
    split
    · exact sorted
    · split
      · next less => exact List.pairwise_cons.2 ⟨fun m mem => by
          rcases List.mem_cons.1 mem with rfl | mem
          · exact less
          · exact less.trans (above m mem), sorted⟩
      · refine List.pairwise_cons.2 ⟨fun m mem => ?_, ih rest⟩
        rcases mem_addSource.1 mem with rfl | mem
        · omega
        · exact above m mem

theorem takeEvac_alarmLaw {station : Nat} (isOne : isStation station = true) (other : station ≠ s.number) (set : Bool)
    (h : AlarmLaw s) : AlarmLaw (takeEvac station set s) := by
  obtain ⟨-, sorted, others, level⟩ := (alarmLaw_iff s).1 h
  refine followInputs_alarmLaw ⟨?_, ?_, level⟩
  · show (if set then _ else _ : List Nat).Pairwise _
    split
    · exact addSource_sorted sorted
    · exact sorted.filter _
  · intro n mem
    have mem : n ∈ if set then addSource station s.emc.sources else s.emc.sources.filter (· != station) := mem
    split at mem
    · rcases mem_addSource.1 mem with rfl | mem
      · exact ⟨isOne, other⟩
      · exact others n mem
    · exact others n (List.mem_filter.1 mem).1

theorem takeContactFlag_alarmLaw {station : Nat} (isOne : isStation station = true) (other : station ≠ s.number)
    (contact : Bool) (h : AlarmLaw s) : AlarmLaw (takeContactFlag station contact s) := by
  unfold takeContactFlag
  split
  · exact h
  · exact takeEvac_alarmLaw isOne other false h

/-! ### The contacts (R125 to R127, R135) -/

theorem sendSet_alarmLaw (h : AlarmLaw s) : AlarmLaw (sendSet s) :=
  alarm_stable.handEvac true (h.timed (s := s) rfl rfl rfl rfl rfl)

theorem sourceLaw_sendSet (h : SourceLaw s) : SourceLaw (sendSet s) :=
  h.same (by simp [sendSet]) (by simp [sendSet]) (by simp [sendSet])

theorem changeContacts_alarmLaw {f : EmergencyControl → EmergencyControl} (emergency : (f s.emc).emergency = s.emc.emergency)
    (sources : (f s.emc).sources = s.emc.sources) (level : s.stc.straps.latched = false → (f s.emc).latch = false)
    (h : AlarmLaw s) : AlarmLaw (changeContacts f s) := by
  obtain ⟨followed, sorted, others, -⟩ := (alarmLaw_iff s).1 h
  have changed : SourceLaw (s.modEmc f) := by
    refine ⟨?_, ?_, level⟩
    · show (f s.emc).sources.Pairwise _
      rw [sources]
      exact sorted
    · show ∀ n ∈ (f s.emc).sources, _
      rw [sources]
      exact others
  have counted (n : Nat) : SourceLaw ((s.modEmc f).setFreeCount n) := ⟨changed.sorted, changed.others, changed.level⟩
  unfold changeContacts alarmAsserted alarmReleased
  dsimp only
  split
  · next same =>
    refine (alarmLaw_iff _).2 ⟨?_, changed⟩
    unfold Followed at *
    rw [← same]
    show (f s.emc).emergency = (s.ownAlarm || !(f s.emc).sources.isEmpty)
    rw [emergency, sources]
    exact followed
  · split
    · refine alarm_stable.renewRoll ?_
      have numbered : SourceLaw (if markWaits (s.modEmc f) = true then
          (s.modEmc f).setFreeCount ((s.modEmc f).freeCount + 1) else s.modEmc f) := by
        split
        · exact counted _
        · exact changed
      split
      · exact followInputs_alarmLaw (sourceLaw_sendSet numbered)
      · exact sendSet_alarmLaw (followInputs_alarmLaw numbered)
    · refine alarm_stable.renewRoll (followInputs_alarmLaw ?_)
      exact changed.same (by simp) (by simp) (by simp)

/-! ### Every turn -/

theorem exec_emc {c : Instr} (single : isSingle c = true) (answer : exec c s = .next t)
    (other : match c with
      | .hardReset _ | .contactPinChange .. | .debouncedContactAsserted | .debouncedContactReleased | .resetContactAsserted
      | .resetContactReleased | .evacRefreshExpiry => False
      | _ => True) : t.emc = s.emc ∧ t.stc.straps = s.stc.straps := by
  cases c
  case align | roll | mark | evac | cue | waitTimerExpiry | query | restart | reply | duplicateFrame | interFrameGap =>
    cases single
  case hardReset | contactPinChange | debouncedContactAsserted | debouncedContactReleased | resetContactAsserted
    | resetContactReleased | evacRefreshExpiry => exact other.elim
  all_goals
    cases answer
    try simp only [event_frame, judgeRequest]
    try ((repeat' split) <;> simp [faultStartup])

theorem reset_alarmLaw (emergency : s.emc.emergency = false) (contact : s.emc.contact = false) (latch : s.emc.latch = false)
    (sources : s.emc.sources = []) : AlarmLaw s := by
  refine (alarmLaw_iff s).2 ⟨?_, ?_, ?_, fun _ => latch⟩
  · unfold Followed State.ownAlarm
    rw [emergency, contact, latch, sources]
    cases s.stc.straps.latched <;> rfl
  · rw [sources]
    exact List.Pairwise.nil
  · rw [sources]
    exact fun n mem => absurd mem List.not_mem_nil

theorem beginLoading_alarmLaw (h : AlarmLaw s) : AlarmLaw (beginLoading s) := by
  unfold beginLoading
  split
  · exact h
  · exact h.same (by simp [faultStartup]) (by simp)

theorem exec_alarmLaw {c : Instr} (single : isSingle c = true) (answer : exec c s = .next t) (h : AlarmLaw s) : AlarmLaw t := by
  obtain ⟨-, law⟩ := (alarmLaw_iff s).1 h
  have evented {f : State → State} (h : AlarmLaw (f s)) : AlarmLaw (event f s) := alarm_stable.event h
  cases c
  case hardReset straps =>
    cases answer
    exact beginLoading_alarmLaw (reset_alarmLaw rfl rfl rfl rfl)
  case contactPinChange line level =>
    cases answer
    split <;> split
    · exact h
    · exact h.timed (s := s) rfl rfl rfl rfl rfl
    · exact h
    · exact h.timed (s := s) rfl rfl rfl rfl rfl
  case debouncedContactAsserted =>
    cases answer
    refine evented ?_
    split
    · exact changeContacts_alarmLaw rfl rfl (fun level => by simp [level, law.level level]) h
    · exact h
  case debouncedContactReleased =>
    cases answer
    refine evented ?_
    split
    · exact changeContacts_alarmLaw rfl rfl law.level h
    · exact h
  case resetContactAsserted =>
    cases answer
    refine evented ?_
    split
    · exact changeContacts_alarmLaw rfl rfl (fun level => by simp [law.level level]) h
    · exact h
  case resetContactReleased =>
    cases answer
    refine evented ?_
    split
    · exact changeContacts_alarmLaw rfl rfl law.level h
    · exact h
  case evacRefreshExpiry =>
    cases answer
    refine evented ?_
    split
    · exact sendSet_alarmLaw h
    · exact h
  all_goals
    obtain ⟨emc, straps⟩ := exec_emc single answer trivial
    exact h.same straps emc

theorem takeDuplicate_emc (roll : Option RollBody) (s : State) :
    (takeDuplicate roll s).stc.straps = s.stc.straps ∧ (takeDuplicate roll s).emc = s.emc := by
  unfold takeDuplicate contest recordDuplicate
  dsimp only
  (repeat' split) <;> simp

theorem takeRestart_alarmLaw (unit : BitVec 32) (straps : Straps) (h : AlarmLaw s) : AlarmLaw (takeRestart unit straps s) := by
  unfold takeRestart
  split
  · exact h
  · split
    · exact alarm_stable.bump _ h
    · exact beginLoading_alarmLaw (reset_alarmLaw rfl rfl rfl rfl)

theorem turn_keeps_alarmLaw (turn : Turn s t) (h : AlarmLaw s) : AlarmLaw t := by
  cases turn with
  | unwait q => exact h
  | pass => exact h.timed (s := s) rfl rfl rfl rfl rfl
  | act => exact h.same (by simp) (by simp)
  | resume => exact h
  | count k => exact alarm_stable.bump k h
  | pins straps => exact h
  | gap => exact h
  | valid => exact h.same (by simp) (by simp)
  | duplicate roll =>
    obtain ⟨straps, emc⟩ := takeDuplicate_emc roll s
    exact alarm_stable.event (h.same straps emc)
  | @handed f _ stamp straps burst station other noCue =>
    obtain ⟨src, dst, body⟩ := f
    cases body with
    | cue => exact absurd noCue Bool.false_ne_true
    | align r =>
      refine alarm_stable.event (f := fun s => takeContactFlag src r.flags.contact (tableTakesAlign src r s))
        (takeContactFlag_alarmLaw station ?_ _ (alarm_stable.tableTakesAlign _ _ h))
      simpa [State.number] using other
    | roll b => exact alarm_stable.event (takeContactFlag_alarmLaw station other _ h)
    | evac set => exact alarm_stable.event (takeEvac_alarmLaw station other _ h)
    | mark => exact h.same (by simp [dispatch]) (by simp [dispatch])
    | query q => exact h.same (by simp [dispatch]) (by simp [dispatch])
    | restart unit => exact alarm_stable.event (takeRestart_alarmLaw unit straps h)
    | replyData => exact h
    | replyStatus => exact h
  | accept => exact h.same (by simp) (by simp)
  | command single answer => exact exec_alarmLaw single answer h

end

end Sys2Proof.Machine
end

section
/-! PROOFS. Every law is kept by every turn, and so by every step. -/

namespace Sys2Proof.Machine

/-- A turn leads from a lawful state to a lawful one. -/
theorem turn_keeps_lawful {s t : State} (turn : Turn s t) (h : Lawful s) : Lawful t := by
  have fit := turn_keeps_fit turn h
  obtain ⟨queue, line, slots, round⟩ := (aired_iff t).1 (turn_keeps_aired turn h.aired)
  obtain ⟨-, calm, list⟩ := turn_keeps_calm turn h.isCalm
  exact ⟨turn_keeps_startLaw turn h.start, turn_keeps_heldLaw turn h, turn_keeps_tableLaw turn h.table, slots, round,
    fit.sound.target, turn_keeps_rankLaw turn h.start h.rank, fun c => (fit.sound.channels c).delay, fit.formed,
    fun c => (fit.sound.channels c).eqs, fun c => (fit.sound.channels c).power, turn_keeps_alarmLaw turn h.alarm, calm, list,
    queue, line, turn_keeps_memoryLaw turn h.memory⟩

theorem turns_keep_lawful {s t : State} (turns : Turns s t) (h : Lawful s) : Lawful t :=
  turns.keeps (fun _ _ turn => turn_keeps_lawful turn) h

/-- A step leads from a lawful state to a lawful one. -/
theorem step_keeps_lawful {s t : State} (h : Lawful s) (answer : step s = .next t) : Lawful t :=
  turns_keep_lawful (step_turns answer) h

/-- Settles O52, by the laws kept through each turn. -/
theorem stepKeepsModeLaws : Obligations.StepKeepsModeLaws := fun _ _ lawful answer =>
  have kept := step_keeps_lawful lawful answer
  ⟨kept.start, kept.held⟩

/-- Settles O54, by the laws kept through each turn. -/
theorem stepKeepsProbeLaws : Obligations.StepKeepsProbeLaws := fun _ _ lawful answer =>
  have kept := step_keeps_lawful lawful answer
  ⟨kept.slots, kept.round⟩

/-- Settles O55, by the laws kept through each turn. -/
theorem stepKeepsSolverLaws : Obligations.StepKeepsSolverLaws := fun _ _ lawful answer =>
  have kept := step_keeps_lawful lawful answer
  ⟨kept.target, kept.rank⟩

/-- Settles O57, by the laws kept through each turn. -/
theorem stepKeepsEmergencyLaws : Obligations.StepKeepsEmergencyLaws := fun _ _ lawful answer =>
  have kept := step_keeps_lawful lawful answer
  ⟨kept.alarm, kept.calm, kept.list⟩

/-- Settles O58, by the laws kept through each turn. -/
theorem stepKeepsLineLaws : Obligations.StepKeepsLineLaws := fun _ _ lawful answer =>
  have kept := step_keeps_lawful lawful answer
  ⟨kept.queue, kept.line⟩

end Sys2Proof.Machine
end

section
/-! PROOFS. What a change of power state leaves of a channel: WATCH is effective silence (R112), the applied delay stays while
the channel sounds (R80, R81), and the output of the last sample stays. -/

namespace Sys2Proof.Machine

/-! ### WATCH and the applied delay, of one channel -/

/-- A channel in WATCH is in effective silence at a station that serves its zone (R112). -/
def Heard (s : State) (ch : Channel) : Prop :=
  ch.power = .watch → s.serving = true ∧ (s.level.present = false ∨ ch.gainTarget = .silence)

theorem watchLaw_iff (s : State) : WatchLaw s ↔ ∀ c : Fin 4, Heard s s.channels[c] := Iff.rfl

/-- The output of the last sample stays, and while the channel sounds its applied delay stays. -/
structure Carried (a b : Channel) : Prop where
  output : b.output = a.output
  applied : a.power.sounding = true → b.power.sounding = true → b.applied = a.applied

section

variable {a b m : Channel} {s : State}

theorem Alike.carried (h : Alike a b) : Carried a b := ⟨h.output, fun sounds _ => h.applied sounds⟩

theorem Carried.refl (a : Channel) : Carried a a := (Alike.refl a).carried

theorem Carried.after (h : Carried m b) (before : Alike a m) : Carried a b :=
  ⟨h.output.trans before.output, fun sounds after => (h.applied (before.power ▸ sounds) after).trans (before.applied sounds)⟩

theorem Carried.before (h : Carried a m) (after : Alike m b) : Carried a b :=
  ⟨after.output.trans h.output, fun sounds stays => by
    have mid : m.power.sounding = true := after.power ▸ stays
    exact (after.applied mid).trans (h.applied sounds mid)⟩

/-- Two changes carry a channel, if it does not fall silent between them. -/
theorem Carried.trans (h : Carried a m) (h' : Carried m b) (mid : m.power.sounding = true ∨ a.power.sounding = false) :
    Carried a b := by
  refine ⟨h'.output.trans h.output, fun sounds after => ?_⟩
  rcases mid with mid | silent
  · exact (h'.applied mid after).trans (h.applied sounds mid)
  · rw [sounds] at silent
    cases silent

theorem Heard.of_power (other : a.power ≠ .watch) : Heard s a := fun watch => absurd watch other

theorem Heard.congr {t : State} (h : Heard s a) (serving : t.serving = s.serving) (level : t.level.present = s.level.present)
    (power : b.power = a.power) (gain : b.gainTarget = a.gainTarget) : Heard t b := by
  unfold Heard
  rw [serving, level, power, gain]
  exact h

/-! ### Single changes of the channel -/

theorem retarget_alike (g : GainTarget) (ch : Channel) : Alike ch (ch.retarget g) := by
  unfold Channel.retarget
  repeat' split
  all_goals exact ⟨rfl, fun _ => rfl, rfl⟩

theorem completeRamp_alike (ch : Channel) : Alike ch ch.completeRamp := by
  unfold Channel.completeRamp
  split <;> exact ⟨rfl, fun _ => rfl, rfl⟩

theorem endCrossfade_alike (ch : Channel) : Alike ch ch.endCrossfade := by
  unfold Channel.endCrossfade
  split
  · exact .refl ch
  · dsimp only
    split
    · refine Alike.trans ?_ (request_alike _ _)
      exact ⟨rfl, fun _ => rfl, rfl⟩
    · exact ⟨rfl, fun _ => rfl, rfl⟩

theorem toPower_carried (p : Power) (cause : Option FaultCause) (x y : Nat) (ch : Channel) :
    Carried ch (ch.toPower p cause x y) := by
  refine ⟨by simp, fun sounds after => ?_⟩
  · have stays : p.sounding = true := after
    show (if ch.power.sounding && !p.sounding then ch.silenced else ch).applied = ch.applied
    rw [stays, Bool.not_true, Bool.and_false]
    rfl

/-! ### What Channel Power Control makes of a channel -/

variable (s₀ : State) (c : Fin 4)

theorem moved_power (p : Power) (cause : Option FaultCause) (ch : Channel) : (ch.moved s₀ p cause c).power = p := by
  unfold Channel.moved
  split
  · next same => exact same
  · exact rfl

theorem moved_gainTarget (p : Power) (cause : Option FaultCause) (ch : Channel) :
    (ch.moved s₀ p cause c).gainTarget = ch.gainTarget := by
  unfold Channel.moved
  split <;> simp

theorem moved_carried (p : Power) (cause : Option FaultCause) (ch : Channel) : Carried ch (ch.moved s₀ p cause c) := by
  unfold Channel.moved
  split
  · exact .refl ch
  · exact toPower_carried _ _ _ _ ch

theorem muted_iff (ch : Channel) : ch.muted = true ↔ ch.gainTarget = .silence := beq_iff_eq

/-- Effective silence, spelled out (R110). -/
theorem silence_iff (ch : Channel) :
    (!s₀.level.present || ch.muted) = true ↔ s₀.level.present = false ∨ ch.gainTarget = .silence := by
  rw [Bool.or_eq_true, muted_iff, Bool.not_eq_true']

theorem Channel.wants_iff (ch : Channel) :
    ch.wants s₀ c = true ↔ s₀.serving = true ∧ s₀.autoStandby c = true ∧
      (s₀.level.present = false ∨ ch.gainTarget = .silence) ∧ s₀.emc.emergency = false := by
  unfold Channel.wants
  simp only [Bool.and_eq_true, silence_iff, Bool.not_eq_true', State.inEmergency, and_assoc]

/-- A channel taken to WATCH where R112 asks for it. -/
theorem moved_watch_heard {ch : Channel} (wants : ch.wants s₀ c = true) : Heard s₀ (ch.moved s₀ .watch none c) := fun _ => by
  obtain ⟨serves, -, silent, -⟩ := (Channel.wants_iff s₀ c ch).1 wants
  rw [moved_gainTarget]
  exact ⟨serves, silent⟩

theorem moved_heard {p : Power} (other : p ≠ .watch) (cause : Option FaultCause) (ch : Channel) :
    Heard s₀ (ch.moved s₀ p cause c) :=
  .of_power (by rw [moved_power]; exact other)

theorem activated_heard (ch : Channel) : Heard s₀ (ch.activated s₀ c) := by
  unfold Channel.activated
  dsimp only
  split
  · next wants => exact moved_watch_heard s₀ c wants
  · exact moved_heard s₀ c Power.noConfusion _ ch

theorem activated_carried (ch : Channel) : Carried ch (ch.activated s₀ c) := by
  have active := moved_carried s₀ c .active none ch
  unfold Channel.activated
  dsimp only
  split
  · exact active.trans (moved_carried s₀ c _ _ _) (.inl (by rw [moved_power]; rfl))
  · exact active

theorem woken_heard (ch : Channel) : Heard s₀ (ch.woken s₀ c) := by
  unfold Channel.woken
  dsimp only
  split
  · exact activated_heard s₀ c _
  · exact moved_heard s₀ c Power.noConfusion _ ch

theorem woken_carried (ch : Channel) : Carried ch (ch.woken s₀ c) := by
  have waking := moved_carried s₀ c .waking none ch
  unfold Channel.woken
  dsimp only
  split
  · exact waking.trans (activated_carried s₀ c _) (.inl (by rw [moved_power]; rfl))
  · exact waking

theorem rested_heard (ch : Channel) : Heard s₀ (ch.rested s₀ c) := by
  unfold Channel.rested
  dsimp only
  split
  · exact woken_heard s₀ c _
  · exact moved_heard s₀ c Power.noConfusion _ ch

/-- A channel that goes to STANDBY does not sound again at once, if it was in effective silence (R113). -/
theorem rested_carried {ch : Channel}
    (silent : ch.power.sounding = true → s₀.level.present = false ∨ ch.gainTarget = .silence) :
    Carried ch (ch.rested s₀ c) := by
  have standby := moved_carried s₀ c .standby none ch
  unfold Channel.rested
  dsimp only
  split
  · next sounds =>
    refine standby.trans (woken_carried s₀ c _) (.inr ?_)
    by_contra wasSounding
    have quiet := (silence_iff s₀ (ch.moved s₀ .standby none c)).2 (by
      rw [moved_gainTarget]
      exact silent (by simpa using wasSounding))
    rw [quiet] at sounds
    simp at sounds
  · exact standby

theorem heeding_heard {ch : Channel} (rests : s₀.serving = false → ch.power ≠ .watch) : Heard s₀ (ch.heeding s₀ c) := by
  unfold Channel.heeding
  split
  · next idle => exact .of_power (rests (by simpa using idle))
  · next serves =>
    have serves : s₀.serving = true := by simpa using serves
    split
    · split
      · next silent => exact fun _ => ⟨serves, (silence_iff s₀ ch).1 silent⟩
      · exact moved_heard s₀ c Power.noConfusion _ ch
    · next standby =>
      split
      · exact .of_power (by rw [standby]; exact Power.noConfusion)
      · exact woken_heard s₀ c ch
    · next active =>
      split
      · next wants => exact moved_watch_heard s₀ c wants
      · exact .of_power (by rw [active]; exact Power.noConfusion)
    all_goals
      next power => exact .of_power (by rw [power]; exact Power.noConfusion)

theorem heeding_carried (ch : Channel) : Carried ch (ch.heeding s₀ c) := by
  unfold Channel.heeding
  split
  · exact .refl ch
  · split
    · split
      · exact .refl ch
      · exact moved_carried s₀ c _ _ ch
    · split
      · exact .refl ch
      · exact woken_carried s₀ c ch
    · split
      · exact moved_carried s₀ c _ _ ch
      · exact .refl ch
    all_goals exact .refl ch

theorem released_heard {ch : Channel} (rests : ch.power ≠ .watch) : Heard s₀ (ch.released s₀ c) := by
  unfold Channel.released
  split
  · exact woken_heard s₀ c ch
  · exact .of_power rests

theorem alarmed_heard (ch : Channel) : Heard s₀ (ch.alarmed s₀ c) := by
  unfold Channel.alarmed
  split
  case h_4 => exact moved_heard s₀ c Power.noConfusion _ ch
  case h_5 | h_6 => next power => exact .of_power (by rw [power]; exact Power.noConfusion)
  all_goals exact woken_heard s₀ c ch

theorem alarmed_carried (ch : Channel) : Carried ch (ch.alarmed s₀ c) := by
  unfold Channel.alarmed
  split
  case h_4 => exact moved_carried s₀ c _ _ ch
  case h_5 | h_6 => exact .refl ch
  all_goals exact woken_carried s₀ c ch

theorem calmed_heard {ch : Channel} (rests : s₀.serving = false → ch.power ≠ .watch) : Heard s₀ (ch.calmed s₀ c) := by
  unfold Channel.calmed
  split
  · exact moved_heard s₀ c Power.noConfusion _ ch
  · exact heeding_heard s₀ c rests

theorem calmed_carried (ch : Channel) : Carried ch (ch.calmed s₀ c) := by
  unfold Channel.calmed
  split
  · exact moved_carried s₀ c _ _ ch
  · exact heeding_carried s₀ c ch

theorem slept_heard (ch : Channel) : Heard s₀ (ch.slept s₀ c) := by
  unfold Channel.slept
  dsimp only
  split
  · next power =>
    refine .of_power fun watch => ?_
    rw [show ch.power = .watch from watch] at power
    simp at power
  · exact moved_heard s₀ c Power.noConfusion _ _

theorem slept_carried (ch : Channel) : Carried ch (ch.slept s₀ c) := by
  have marked : Alike ch { ch with forcedOff := true } := ⟨rfl, fun _ => rfl, rfl⟩
  unfold Channel.slept
  dsimp only
  split
  · exact marked.carried
  · exact (moved_carried s₀ c _ _ _).after marked

theorem roused_heard {ch : Channel} (h : Heard s₀ ch) : Heard s₀ (ch.roused s₀ c) := by
  unfold Channel.roused
  dsimp only
  split
  · split
    · exact rested_heard s₀ c _
    · exact woken_heard s₀ c _
  · split
    · exact woken_heard s₀ c _
    · exact h

theorem roused_carried (ch : Channel) : Carried ch (ch.roused s₀ c) := by
  have marked : Alike ch { ch with forcedOff := false } := ⟨rfl, fun _ => rfl, rfl⟩
  unfold Channel.roused
  dsimp only
  split
  · next off =>
    split
    · refine (rested_carried s₀ c fun sounds => ?_).after marked
      rw [show ({ ch with forcedOff := false } : Channel).power = .forcedOff from off] at sounds
      cases sounds
    · exact (woken_carried s₀ c _).after marked
  · split
    · exact (woken_carried s₀ c _).after marked
    · exact marked.carried

end

end Sys2Proof.Machine
end

section
/-! PROOFS. WATCH is effective silence (R112), and the applied delay of a sounding channel stays (R80), through the operations
on the channels of a station. -/

namespace Sys2Proof.Machine

section

variable {s t u : State}

/-! ### Every channel -/

/-- Every channel is alike. -/
def AllAlike (s t : State) : Prop := ∀ c : Fin 4, Alike s.channels[c] t.channels[c]

theorem AllAlike.of_eq (same : t.channels = s.channels) : AllAlike s t := fun c => by rw [same]; exact .refl _

theorem AllAlike.trans (h : AllAlike s u) (h' : AllAlike u t) : AllAlike s t := fun c => (h c).trans (h' c)

theorem KeepsPower.alike (h : KeepsPower s t) : AllAlike s t := fun c => (h c).1

/-- In the state after, WATCH is effective silence, and every channel is carried. -/
structure Moves (s t : State) : Prop where
  watch : WatchLaw t
  carried : ∀ c : Fin 4, Carried s.channels[c] t.channels[c]

theorem WatchLaw.keep (h : WatchLaw s) (kept : KeepsPower s t) (mode : t.stc.mode = s.stc.mode)
    (level : t.level.present = s.level.present) : WatchLaw t := fun c =>
  Heard.congr (h c) (by unfold State.serving; rw [mode]) level (kept c).1.power (kept c).2

theorem Moves.of_keeps (h : WatchLaw s) (kept : KeepsPower s t) (mode : t.stc.mode = s.stc.mode)
    (level : t.level.present = s.level.present) : Moves s t :=
  ⟨h.keep kept mode level, fun c => (kept c).1.carried⟩

theorem Moves.of_same (h : WatchLaw s) (channels : t.channels = s.channels) (mode : t.stc.mode = s.stc.mode)
    (level : t.level.present = s.level.present) : Moves s t :=
  .of_keeps h (.of_eq channels) mode level

theorem Moves.refl (h : WatchLaw s) : Moves s s := .of_same h rfl rfl rfl

/-- What follows leaves the channels, the mode and the judgement alone. -/
theorem Moves.then (h : Moves s u) (channels : t.channels = u.channels) (mode : t.stc.mode = u.stc.mode)
    (level : t.level.present = u.level.present) : Moves s t :=
  ⟨h.watch.keep (.of_eq channels) mode level, fun c => by rw [channels]; exact h.carried c⟩

theorem Moves.event {f : State → State} (h : Moves s (f s)) : Moves s (event f s) := h.then (by simp) (by simp) (by simp)

/-- Out of RUN and CONFLICT no channel stands in WATCH. -/
theorem WatchLaw.not_watch (h : WatchLaw s) (rests : s.serving = false) (c : Fin 4) : s.channels[c].power ≠ .watch := by
  intro watch
  have serves := (h c watch).1
  rw [rests] at serves
  cases serves

/-! ### Passes over the channels -/

theorem Heard.view {ch : Channel} (v : SameView u t) (h : Heard u ch) : Heard t ch := by
  obtain ⟨stc, -, level, -, -⟩ := v
  exact h.congr (by unfold State.serving; rw [stc]) (by rw [level]) rfl rfl

theorem pass_moves {f : Fin 4 → State → State} {g : Fin 4 → Channel → Channel} (acts : ActsAt u f g) (alike : AllAlike s u)
    (each : ∀ c : Fin 4, Heard u (g c u.channels[c]) ∧ Carried u.channels[c] (g c u.channels[c])) :
    Moves s (forChannels f u) := by
  obtain ⟨view, channels⟩ := acts.all (SameView.refl u)
  refine ⟨fun c => ?_, fun c => ?_⟩
  · rw [channels]
    exact (each c).1.view view
  · rw [channels]
    exact (each c).2.after (alike c)

theorem marked_moves {f : Fin 4 → State → State} {g : Fin 4 → Channel → Channel} (acts : ActsAt s f g) (watch : WatchLaw s)
    (each : ∀ c : Fin 4, Heard s (g c s.channels[c]) ∧ Carried s.channels[c] (g c s.channels[c])) (m : BitVec 4) :
    Moves s (forMarked m f s) := by
  obtain ⟨view, channels⟩ := acts.marked m (SameView.refl s)
  refine ⟨fun c => ?_, fun c => ?_⟩
  · rw [channels]
    split
    · exact (each c).1.view view
    · exact Heard.view view (watch c)
  · rw [channels]
    split
    · exact (each c).2
    · exact .refl _

theorem one_moves {f : Fin 4 → State → State} {g : Fin 4 → Channel → Channel} (acts : ActsAt u f g) (watch : WatchLaw u)
    (alike : AllAlike s u) (c : Fin 4) (self : Heard u (g c u.channels[c]) ∧ Carried u.channels[c] (g c u.channels[c])) :
    Moves s (f c u) := by
  obtain ⟨view, -⟩ := acts c u (SameView.refl u)
  obtain ⟨here, other⟩ := acts.one (SameView.refl u) c
  constructor
  all_goals
    intro d
    by_cases same : d = c
  · subst same
    rw [here]
    exact self.1.view view
  · rw [other d same]
    exact Heard.view view (watch d)
  · subst same
    rw [here]
    exact self.2.after (alike d)
  · rw [other d same]
    exact (alike d).carried

/-- A change of one channel that leaves these. -/
theorem modChannel_keepsPower (c : Fin 4) {f : Channel → Channel}
    (alike : Alike s.channels[c] (f s.channels[c]) ∧ (f s.channels[c]).gainTarget = s.channels[c].gainTarget) :
    KeepsPower s (s.modChannel c f) := by
  intro d
  by_cases same : d = c
  · subst same
    rw [modChannel_get_self]
    exact alike
  · rw [modChannel_get_other _ same]
    exact ⟨.refl _, rfl⟩

/-! ### The programme judgement (R109, R110) -/

theorem setJudgement_moves (present : Bool) (h : WatchLaw s) : Moves s (setJudgement present s) := by
  unfold setJudgement
  split
  · exact .refl h
  · refine pass_moves (actOnSilence_acts _) (.of_eq rfl) fun c => ⟨heeding_heard _ c fun rests => ?_, heeding_carried _ c _⟩
    exact h.not_watch rests c

/-! ### EMERGENCY (R101, R105, R119, R120) -/

theorem equaliserEmergency_alike (u : State) : AllAlike u (equaliserEmergency u) := by
  unfold equaliserEmergency
  intro c
  rw [retargetAll_get]
  split
  · exact ((requestAll_keepsPower u).alike c).trans (retarget_alike _ _)
  · exact retarget_alike _ _

theorem equaliserEmergency_view (u : State) : SameView u (equaliserEmergency u) := by
  simp [SameView, equaliserEmergency, forChannels]
  split <;> simp

/-- Where power control does not act, no channel stands in WATCH. -/
theorem AllAlike.rests (alike : AllAlike s u) (h : WatchLaw s) (mode : u.stc = s.stc) (rests : u.serving = false) :
    WatchLaw u := by
  intro c watch
  rw [(alike c).power] at watch
  refine absurd watch (h.not_watch ?_ c)
  unfold State.serving at *
  rwa [mode] at rests

theorem enterEmergency_moves (h : WatchLaw s) : Moves s (enterEmergency s) := by
  rw [enterEmergency_eq]
  have stc : (equaliserEmergency (emergencyBegun s)).stc = s.stc := by
    rw [(equaliserEmergency_view _).1]
    simp [emergencyBegun, setFreeze]
  have alike : AllAlike s (equaliserEmergency (emergencyBegun s)) :=
    (AllAlike.of_eq (by simp [emergencyBegun, setFreeze])).trans (equaliserEmergency_alike _)
  unfold powerEmergencyEntry
  split
  · exact pass_moves (emergencyChannel_acts _) alike fun c => ⟨alarmed_heard _ c _, alarmed_carried _ c _⟩
  · next rests =>
    split
    · exact pass_moves (enterWaking_acts _) alike fun c => ⟨woken_heard _ c _, woken_carried _ c _⟩
    · exact ⟨alike.rests h stc (by simpa using rests), fun c => (alike c).carried⟩

theorem leaveEmergency_moves (h : WatchLaw s) : Moves s (leaveEmergency s) := by
  rw [leaveEmergency_eq]
  have stc : (equaliserEmergency (emergencyEnded s)).stc = s.stc := by
    rw [(equaliserEmergency_view _).1]
    simp [emergencyEnded, setFreeze]
  have alike : AllAlike s (equaliserEmergency (emergencyEnded s)) :=
    (AllAlike.of_eq (by simp [emergencyEnded, setFreeze])).trans (equaliserEmergency_alike _)
  unfold powerEmergencyExit
  split
  · next serves =>
    refine pass_moves (exitChannel_acts _) alike fun c => ⟨calmed_heard _ c fun rests => ?_, calmed_carried _ c _⟩
    rw [serves] at rests
    cases rests
  · next rests =>
    split
    · exact pass_moves (setPower_acts _ .standby none) alike fun c =>
        ⟨moved_heard _ c Power.noConfusion _ _, moved_carried _ c _ _ _⟩
    · exact ⟨alike.rests h stc (by simpa using rests), fun c => (alike c).carried⟩

theorem followInputs_moves (h : WatchLaw s) : Moves s (followInputs s) := by
  unfold followInputs
  dsimp only
  split
  · exact enterEmergency_moves h
  · split
    · exact leaveEmergency_moves h
    · exact .refl h

/-- What comes before leaves the channels, the mode and the judgement alone. -/
theorem Moves.before (h : WatchLaw u → Moves u t) (watch : WatchLaw s) (channels : u.channels = s.channels)
    (mode : u.stc.mode = s.stc.mode) (level : u.level.present = s.level.present) : Moves s t := by
  obtain ⟨after, carried⟩ := h (watch.keep (.of_eq channels) mode level)
  exact ⟨after, fun c => by rw [← channels]; exact carried c⟩

theorem takeContactFlag_moves (station : Nat) (contact : Bool) (h : WatchLaw s) : Moves s (takeContactFlag station contact s) := by
  unfold takeContactFlag
  split
  · exact .refl h
  · exact .before followInputs_moves h rfl rfl rfl

theorem changeContacts_moves (f : EmergencyControl → EmergencyControl) (h : WatchLaw s) : Moves s (changeContacts f s) := by
  have sent {v : State} (hv : Moves s v) : Moves s (sendSet v) := hv.then (by simp [sendSet]) (by simp [sendSet]) (by simp [sendSet])
  have counted : (if markWaits (s.modEmc f) = true then (s.modEmc f).setFreeCount ((s.modEmc f).freeCount + 1)
      else s.modEmc f).channels = s.channels ∧ (if markWaits (s.modEmc f) = true then
      (s.modEmc f).setFreeCount ((s.modEmc f).freeCount + 1) else s.modEmc f).stc = s.stc ∧
      (if markWaits (s.modEmc f) = true then (s.modEmc f).setFreeCount ((s.modEmc f).freeCount + 1)
        else s.modEmc f).level = s.level := by
    split <;> exact ⟨rfl, rfl, rfl⟩
  unfold changeContacts alarmAsserted alarmReleased
  dsimp only
  split
  · exact .of_same h rfl rfl rfl
  · split
    · generalize (if markWaits (s.modEmc f) = true then (s.modEmc f).setFreeCount ((s.modEmc f).freeCount + 1)
        else s.modEmc f) = v at counted
      obtain ⟨channels, stc, level⟩ := counted
      split
      · have followed : Moves s (followInputs (sendSet v)) :=
          .before followInputs_moves h (by simpa [sendSet] using channels) (by simp [sendSet, stc]) (by simp [sendSet, level])
        exact followed.then (by simp) (by simp) (by simp)
      · have followed : Moves s (followInputs v) := .before followInputs_moves h channels (by rw [stc]) (by rw [level])
        exact (sent followed).then (by simp) (by simp) (by simp)
    · have followed : Moves s (followInputs (handEvac false ((s.modEmc f).modEmc fun e => { e with refresh := none }))) :=
        .before followInputs_moves h (by simp) (by simp) (by simp)
      exact followed.then (by simp) (by simp) (by simp)

/-! ### Cue actions -/

theorem retargeted_heard {ch : Channel} (g : GainTarget) (c : Fin 4) (rests : s.serving = false → ch.power ≠ .watch) :
    Heard s ((ch.retarget g).heeding s c) :=
  heeding_heard s c fun idle => by rw [(retarget_alike g ch).power]; exact rests idle

theorem retargeted_carried (s : State) (g : GainTarget) (c : Fin 4) (ch : Channel) :
    Carried ch ((ch.retarget g).heeding s c) :=
  (heeding_carried s c _).after (retarget_alike g ch)

/-- Stored values of marked channels change, and their gain targets follow. -/
theorem retargetMarked_moves (f : Channel → Channel) (alike : ∀ ch, Alike ch (f ch)) (m : BitVec 4) (h : WatchLaw s) :
    Moves s (forMarked m (fun c s => retargetAndAct c (s.modChannel c f)) s) := by
  refine marked_moves ((ActsAt.mod fun _ => f).comp (retargetAndAct_acts s)) h (fun c => ⟨?_, ?_⟩) m
  · refine retargeted_heard _ c fun rests => ?_
    rw [(alike _).power]
    exact h.not_watch rests c
  · exact (retargeted_carried s _ c _).after (alike _)

theorem startRound_moves (h : WatchLaw s) : Moves s (startRound s) := by
  unfold startRound
  split
  · next c i _ _ =>
    dsimp only
    split
    · exact .of_same h (by simp [enterMarking, setSlot]) (by simp [enterMarking, setSlot]) (by simp [enterMarking, setSlot])
    · exact .of_same h (by simp [enterMarking, setSlot]) (by simp [enterMarking, setSlot]) (by simp [enterMarking, setSlot])
    · exact one_moves (s := s) (u := roundWaits i s) (enterWaking_acts _) (h.keep (.of_eq rfl) rfl rfl) (.of_eq rfl) c
        ⟨woken_heard _ c _, woken_carried _ c _⟩
    all_goals exact .of_same h rfl rfl rfl
  · exact .refl h

theorem performAction_moves (a : Action) (h : WatchLaw s) : Moves s (performAction a s) := by
  have same (ch : Channel) : Alike ch ch := .refl ch
  cases a with
  | finish => exact .refl h
  | wait v => exact .refl h
  | probe =>
    show Moves s (probeAction s)
    unfold probeAction
    split
    · exact startRound_moves h
    · exact .of_same h rfl rfl rfl
  | freeze => exact .of_same h rfl rfl rfl
  | thaw => exact .of_same h (by simp [performAction, thawAction, setFreeze]) (by simp) (by simp)
  | offset v => exact .of_same h (by simp [performAction, offsetAction]) (by simp) (by simp)
  | mute m => exact retargetMarked_moves (fun ch => { ch with storedMute := true }) (fun _ => ⟨rfl, fun _ => rfl, rfl⟩) m h
  | unmute m => exact retargetMarked_moves (fun ch => { ch with storedMute := false }) (fun _ => ⟨rfl, fun _ => rfl, rfl⟩) m h
  | gain m v => exact retargetMarked_moves (fun ch => { ch with storedGain := v }) (fun _ => ⟨rfl, fun _ => rfl, rfl⟩) m h
  | sleep m => exact marked_moves (sleepChannel_acts s) h (fun c => ⟨slept_heard s c _, slept_carried s c _⟩) m
  | wake m => exact marked_moves (wakeChannel_acts s) h (fun c => ⟨roused_heard s c (h c), roused_carried s c _⟩) m
  | preset m v =>
    have stored (ch : Channel) : Alike ch { ch with preset := v } := ⟨rfl, fun _ => rfl, rfl⟩
    refine marked_moves ((ActsAt.mod fun _ ch => { ch with preset := v }).comp (requestChannel_acts s)) h
      (fun c => ⟨?_, ((stored _).trans (request_alike _ _)).carried⟩) m
    exact Heard.congr (h c) rfl rfl ((stored _).trans (request_alike _ _)).power (request_frame _ _).2.2.1

theorem takeAction_moves (h : WatchLaw s) : Moves s (takeAction s) := by
  unfold takeAction
  split
  · split
    · exact .of_same h rfl rfl rfl
    · next a _ =>
      have performed := performAction_moves a h
      unfold advanceList
      split <;> exact performed.then rfl rfl rfl
  · exact .refl h

end

end Sys2Proof.Machine
end

section
/-! PROOFS. WATCH is effective silence (R112), and the applied delay of a sounding channel stays (R80), through every turn but a
programme sample and the last step of a slew. -/

namespace Sys2Proof.Machine

section

variable {s t u : State}

/-! ### The bands and the air data -/

theorem setHumidityBand_keepsPower (b : Nat) (s : State) : KeepsPower s (setHumidityBand b s) := by
  unfold setHumidityBand
  split
  · exact .refl s
  · exact (refreshShelf_keepsPower _).after rfl

theorem testHumidityBand_keepsPower (b : Nat) (s : State) : KeepsPower s (testHumidityBand b s) := by
  unfold testHumidityBand
  split
  · exact .refl s
  · split
    · exact .refl s
    · exact setHumidityBand_keepsPower _ s

theorem takeGoodReply_keepsPower (temperature : Int) (humidity : Nat) (s : State) :
    KeepsPower s (takeGoodReply temperature humidity s) := by
  unfold takeGoodReply
  dsimp only
  split
  · exact (setHumidityBand_keepsPower _ _).after (by simp)
  · split
    · exact .of_eq (by simp)
    · exact (testHumidityBand_keepsPower _ _).after (by simp)

theorem takeAirMiss_keepsPower (s : State) : KeepsPower s (takeAirMiss s) := by
  unfold takeAirMiss
  dsimp only
  split
  · exact (setHumidityBand_keepsPower _ _).after (by simp)
  · exact .of_eq rfl

/-! ### The amplifier lines and timers (R112 to R115) -/

/-- A line or a mark of a channel changes before the channel moves. -/
theorem marked_keepsPower (c : Fin 4) {f : Channel → Channel} (alike : ∀ ch, Alike ch (f ch))
    (gain : ∀ ch, (f ch).gainTarget = ch.gainTarget) : KeepsPower s (s.modChannel c f) :=
  modChannel_keepsPower c ⟨alike _, gain _⟩

/-- A channel moves to a state that is not WATCH. -/
theorem setPower_moves (c : Fin 4) {p : Power} (other : p ≠ .watch) (cause : Option FaultCause) (kept : KeepsPower s u)
    (watch : WatchLaw u) : Moves s (setPower c p cause u) :=
  one_moves (setPower_acts u p cause) watch kept.alike c ⟨moved_heard u c other _ _, moved_carried u c _ _ _⟩

theorem exec_power {c : Instr} (answer : exec c s = .next t) (h : WatchLaw s)
    (power : match c with
      | .silenceTimerExpiry _ | .readyAsserted _ | .readyLost _ | .faultLineAsserted _ | .faultLineReleased _
      | .wakeTimerExpiry _ | .lostSample _ | .crossfadeEnd _ | .rampEnd _ | .gateFadeEnd _ => True
      | _ => False) : Moves s t := by
  have line (c : Fin 4) {f : Channel → Channel} (alike : ∀ ch, Alike ch (f ch)) (gain : ∀ ch, (f ch).gainTarget = ch.gainTarget) :
      KeepsPower s (s.modChannel c f) ∧ WatchLaw (s.modChannel c f) :=
    have kept := marked_keepsPower (s := s) c alike gain
    ⟨kept, h.keep kept rfl rfl⟩
  cases c
  case silenceTimerExpiry c =>
    cases answer
    refine .event ?_
    split
    · next watches =>
      exact one_moves (enterStandby_acts s) h (.of_eq rfl) c ⟨rested_heard s c _, rested_carried s c fun _ => (h c watches).2⟩
    · exact .refl h
  case readyAsserted c =>
    obtain ⟨kept, watch⟩ := line c (f := fun ch => { ch with ready := true }) (fun _ => ⟨rfl, fun _ => rfl, rfl⟩) fun _ => rfl
    cases answer
    refine .event ?_
    dsimp only
    split
    · exact one_moves (enterActive_acts _) watch kept.alike c ⟨activated_heard _ c _, activated_carried _ c _⟩
    · exact .of_keeps h kept rfl rfl
  case readyLost c =>
    obtain ⟨kept, watch⟩ := line c (f := fun ch => { ch with ready := false }) (fun _ => ⟨rfl, fun _ => rfl, rfl⟩) fun _ => rfl
    cases answer
    refine .event ?_
    dsimp only
    split
    · split
      · exact setPower_moves c Power.noConfusion _ kept watch
      · exact .of_keeps h kept rfl rfl
    · exact .refl h
  case faultLineAsserted c =>
    obtain ⟨kept, watch⟩ := line c (f := fun ch => { ch with faultLine := true }) (fun _ => ⟨rfl, fun _ => rfl, rfl⟩) fun _ => rfl
    cases answer
    refine .event ?_
    dsimp only
    split
    · exact .refl h
    · split
      · exact setPower_moves c Power.noConfusion _ kept watch
      · exact .of_keeps h kept rfl rfl
  case faultLineReleased c =>
    obtain ⟨kept, watch⟩ := line c (f := fun ch => { ch with faultLine := false }) (fun _ => ⟨rfl, fun _ => rfl, rfl⟩) fun _ => rfl
    cases answer
    refine .event ?_
    dsimp only
    split
    · split
      · split
        · exact setPower_moves c Power.noConfusion _ kept watch
        · exact one_moves (enterWaking_acts _) watch kept.alike c ⟨woken_heard _ c _, woken_carried _ c _⟩
      · exact .of_keeps h kept rfl rfl
    · exact .refl h
  case wakeTimerExpiry c =>
    cases answer
    refine .event ?_
    split
    · exact setPower_moves c Power.noConfusion _ (.refl s) h
    · exact .refl h
  case lostSample c =>
    cases answer
    refine .event ?_
    split
    · exact .of_keeps h (marked_keepsPower c (fun _ => ⟨rfl, fun _ => rfl, rfl⟩) fun _ => rfl) rfl rfl
    · exact .refl h
  case crossfadeEnd c =>
    cases answer
    exact .event (.of_keeps h (marked_keepsPower c endCrossfade_alike fun ch => (endCrossfade_frame ch).2.2.1) rfl rfl)
  case rampEnd c =>
    cases answer
    refine .event (.of_keeps h (marked_keepsPower c completeRamp_alike fun ch => ?_) rfl rfl)
    unfold Channel.completeRamp
    split <;> rfl
  case gateFadeEnd c =>
    cases answer
    exact .event (.of_keeps h (marked_keepsPower c (fun _ => ⟨rfl, fun _ => rfl, rfl⟩) fun _ => rfl) rfl rfl)
  all_goals exact power.elim

/-! ### Commands that are no part of the start-up -/

theorem exec_moves {c : Instr} (single : isSingle c = true) (answer : exec c s = .next t) (h : WatchLaw s)
    (other : match c with
      | .programmeSample _ | .slewComplete _ | .hardReset _ | .imageHeaderRead _ | .imageReadTimeout | .imageReadComplete _
      | .claimTimerExpiry => False
      | _ => True) : Moves s t := by
  cases c
  case align | roll | mark | evac | cue | waitTimerExpiry | query | restart | reply | duplicateFrame | interFrameGap =>
    cases single
  case programmeSample | slewComplete | hardReset | imageHeaderRead | imageReadTimeout | imageReadComplete
    | claimTimerExpiry => exact other.elim
  case silenceTimerExpiry | readyAsserted | readyLost | faultLineAsserted | faultLineReleased | wakeTimerExpiry
    | lostSample | crossfadeEnd | rampEnd | gateFadeEnd => exact exec_power answer h trivial
  case debouncedContactAsserted | debouncedContactReleased | resetContactAsserted | resetContactReleased =>
    cases answer
    refine .event ?_
    split
    · exact changeContacts_moves _ h
    · exact .refl h
  case settleExpiry =>
    cases answer
    refine .event ?_
    split
    · exact .of_keeps h ((solvePass_keepsPower _).after rfl) (by simp) (by simp)
    · exact .refl h
  case holdTimerExpiry =>
    cases answer
    refine .event ?_
    split
    · exact .of_keeps h (holdExpired_keepsPower s) (by simp) (by simp)
    · exact .refl h
  case airReply r =>
    cases answer
    refine .event ?_
    unfold judgeRequest
    split
    · split
      · exact .of_keeps h ((takeGoodReply_keepsPower _ _ _).after rfl) (by simp) (by simp)
      · exact .of_keeps h ((takeAirMiss_keepsPower _).after rfl) (by simp) (by simp)
    · exact .refl h
  case airReplyTimeout =>
    cases answer
    refine .event ?_
    unfold judgeRequest
    split
    · exact .of_keeps h ((takeAirMiss_keepsPower _).after rfl) (by simp) (by simp)
    · exact .refl h
  case programmeJudgementChange present =>
    cases answer
    exact .event (setJudgement_moves present h)
  case probeTimerExpiry =>
    cases answer
    refine .event ?_
    split
    · split
      · exact startRound_moves h
      · exact .of_same h rfl rfl rfl
    · exact .refl h
  all_goals
    cases answer
    refine .of_same h ?_ ?_ ?_
    all_goals
      try simp only [event_frame]
      try ((repeat' split) <;> simp)

/-! ### Programme samples and the last step of a slew -/

theorem setPower_watchLaw (power : ∀ c : Fin 4, t.channels[c].power = s.channels[c].power)
    (gain : ∀ c : Fin 4, t.channels[c].gainTarget = s.channels[c].gainTarget) (serving : t.serving = s.serving)
    (level : t.level.present = s.level.present) (h : WatchLaw s) : WatchLaw t :=
  fun c => Heard.congr (h c) serving level (power c) (gain c)

theorem takeSample_watchLaw (x microphone : Int) (h : WatchLaw s) : WatchLaw (takeSample x microphone s) := by
  have judged := (setJudgement_moves (judgeSample s x) h).watch
  have placed : WatchLaw (placeEmission (hearSample microphone
      (writeSample x (judgeSample s x) (setJudgement (judgeSample s x) s)))) :=
    judged.keep (.of_eq (by simp)) (by simp) (by simp [writeSample])
  have sampled := PowerStable.pass (P := WatchLaw) (f := sampleChannel)
    (fun c u hu => setPower_watchLaw (fun d => (sampleChannel_power c d u).1) (fun d => (sampleChannel_power c d u).2) rfl rfl hu)
    placed
  exact sampled.keep (.of_eq (by simp [takeSample])) (by simp [takeSample]) (by simp [takeSample])

theorem slewOnce_watchLaw (c : Fin 4) (step : Nat) (h : WatchLaw s) : WatchLaw (s.modChannel c (·.slewOnce step)) := by
  refine setPower_watchLaw (s := s) (fun d => modChannel_power c d (by simp)) (fun d => ?_) rfl rfl h
  by_cases here : d = c
  · subst here
    rw [modChannel_get_self]
    simp
  · rw [modChannel_get_other _ here]

/-! ### Changes of the station mode -/

/-- Out of RUN, CONFLICT and an EMERGENCY in CONFIG_FAULT, every channel stands in STANDBY (R118, R120). -/
theorem HeldLaw.standby (h : HeldLaw s) (rests : s.serving = false) (calm : s.stc.mode = .configFault → s.emc.emergency = false)
    (c : Fin 4) : s.channels[c].power = .standby := by
  obtain ⟨-, before, -, -, fault⟩ := h
  cases mode : s.stc.mode with
  | loading => exact (before (.inl mode) c).1
  | announce => exact (before (.inr mode) c).1
  | configFault => exact (fault mode (calm mode) c).1
  | run => simp [State.serving, mode] at rests
  | conflict => simp [State.serving, mode] at rests

theorem HeldLaw.watchLaw (h : HeldLaw s) (rests : s.serving = false) (calm : s.stc.mode = .configFault → s.emc.emergency = false) :
    WatchLaw s := fun c watch => by
  rw [h.standby rests calm c] at watch
  cases watch

/-- A turn carries every channel; or it changes the mode while no channel sounds. -/
def Carries (s t : State) : Prop :=
  (∀ c : Fin 4, Carried s.channels[c] t.channels[c]) ∨
  ((∀ c : Fin 4, s.channels[c].power.sounding = false ∨ t.channels[c].power.sounding = false) ∧
    (s.stc.mode ≠ .run ∨ t.stc.mode ≠ .run))

theorem Moves.handRoll (h : Moves s u) : Moves s (handRoll u) := h.then (by simp) (by simp) (by simp)

theorem enterConfigFault_moves (reason : FaultReason) (h : WatchLaw s) (rests : s.serving = false) :
    Moves s (enterConfigFault reason s) := by
  have started : AllAlike s (formTargets ((faultStartup reason s).modSolver fun _ => Solver.reset)) :=
    KeepsPower.alike ((formTargets_keepsPower _).after rfl)
  have requested := started.trans (requestAll_keepsPower _).alike
  have settled : AllAlike s (forChannels retargetChannel
      (requestAll (formTargets ((faultStartup reason s).modSolver fun _ => Solver.reset)))) := by
    refine requested.trans fun c => ?_
    rw [retargetAll_get]
    exact retarget_alike _ _
  unfold enterConfigFault
  dsimp only
  refine Moves.handRoll ?_
  split
  · exact pass_moves (enterWaking_acts _) settled fun c => ⟨woken_heard _ c _, woken_carried _ c _⟩
  · exact ⟨fun c watch => absurd ((settled c).power.symm.trans watch) (h.not_watch rests c), fun c => (settled c).carried⟩

theorem enterRun_watchLaw (h : WatchLaw s) (rests : s.serving = false) : WatchLaw (enterRun s) := by
  have set : AllAlike s (runSettled s) := by
    have solved : AllAlike s (solverSetup (s.modStc fun c => { c with mode := .run, claim := none })) :=
      KeepsPower.alike ((solverSetup_keepsPower _).after rfl)
    refine (solved.trans (requestAll_keepsPower _).alike).trans fun c => ?_
    show Alike _ (forChannels retargetChannel _).channels[c]
    rw [retargetAll_get]
    exact retarget_alike _ _
  have released : WatchLaw (runReleased s) := by
    obtain ⟨view, channels⟩ := (releaseChannel_acts (runSettled s)).all (SameView.refl _)
    intro c
    rw [show (runReleased s).channels[c] = _ from channels c]
    refine (released_heard _ c fun watch => ?_).view view
    exact h.not_watch rests c ((set c).power.symm.trans watch)
  rw [enterRun_eq]
  exact released.keep (.of_eq (by simp)) (by simp) (by simp)

end

end Sys2Proof.Machine
end

section
/-! PROOFS. WATCH is effective silence (R112) after every step, and the applied delay of a sounding channel moves by slew steps
alone (R80). -/

namespace Sys2Proof.Machine

section

variable {s t u : State}

theorem Moves.carries (h : Moves s t) : WatchLaw t ∧ Carries s t := ⟨h.watch, .inl h.carried⟩

theorem Carries.refl (s : State) : Carries s s := .inl fun _ => .refl _

/-! ### Start-up -/

/-- A restart silences every channel. -/
theorem restart_carries (held : HeldLaw t) (rests : t.serving = false) (calm : t.emc.emergency = false) :
    WatchLaw t ∧ Carries s t := by
  refine ⟨held.watchLaw rests fun _ => calm, .inr ⟨fun c => .inr ?_, .inr fun run => ?_⟩⟩
  · rw [held.standby rests (fun _ => calm) c]
    rfl
  · simp [State.serving, run] at rests

/-- A station that has not served its zone begins to. -/
theorem start_carries (held : HeldLaw s) (rests : s.stc.mode = .announce ∨ s.stc.mode = .loading) (watch : WatchLaw t) :
    WatchLaw t ∧ Carries s t := by
  have serves : s.serving = false := by rcases rests with mode | mode <;> simp [State.serving, mode]
  refine ⟨watch, .inr ⟨fun c => .inl ?_, .inl fun run => ?_⟩⟩
  · rw [held.standby serves (fun fault => by rcases rests with mode | mode <;> rw [mode] at fault <;> cases fault) c]
    rfl
  · simp [State.serving, run] at serves

theorem beginLoading_rests (r : State) : (beginLoading r).serving = false ∧ (beginLoading r).emc = r.emc := by
  unfold beginLoading
  split <;> simp [State.serving, faultStartup]

theorem exec_startup_carries {c : Instr} (answer : exec c s = .next t) (held : HeldLaw s) (held' : HeldLaw t) (watch : WatchLaw s)
    (startup : match c with
      | .hardReset _ | .imageHeaderRead _ | .imageReadTimeout | .imageReadComplete _ | .claimTimerExpiry => True
      | _ => False) : WatchLaw t ∧ Carries s t := by
  have loading (mode : s.stc.mode = .loading) : s.serving = false := by simp [State.serving, mode]
  have fault (reason : FaultReason) (mode : s.stc.mode = .loading) := (enterConfigFault_moves reason watch (loading mode)).carries
  have stays := (Moves.refl watch).carries
  cases c
  case hardReset straps =>
    cases answer
    obtain ⟨rests, emc⟩ := beginLoading_rests (resetState straps s)
    exact restart_carries held' rests (by rw [emc]; rfl)
  case imageHeaderRead header =>
    cases answer
    split
    · next mode _ =>
      split
      · exact stays
      · dsimp only
        split
        · exact (Moves.of_same watch rfl rfl rfl).carries
        · exact fault _ mode
    · exact stays
  case imageReadTimeout =>
    cases answer
    split
    · next mode _ => exact fault _ mode
    · next mode _ => exact fault _ mode
    · exact stays
  case imageReadComplete rest =>
    cases answer
    revert held'
    dsimp only [execImageReadComplete]
    split
    · next mode _ =>
      split
      · exact fun _ => stays
      · split
        · exact fun _ => fault _ mode
        · exact fun held' => start_carries held (.inr mode) (held'.watchLaw (by simp [State.serving]) fun out => by simp at out)
    · exact fun _ => stays
  case claimTimerExpiry =>
    cases answer
    split
    · next announce =>
      exact start_carries held (.inl announce.1) (enterRun_watchLaw watch (by simp [State.serving, announce.1]))
    · exact stays
  all_goals exact startup.elim

/-! ### Duplicate numbers and restarts -/

/-- The channels and the judgement stand, and the station serves as it did. -/
theorem Moves.of_serving (h : WatchLaw s) (channels : t.channels = s.channels) (serving : t.serving = s.serving)
    (level : t.level.present = s.level.present) : Moves s t :=
  ⟨fun c => by rw [channels]; exact Heard.congr (h c) serving level rfl rfl, fun c => by rw [channels]; exact .refl _⟩

theorem takeDuplicate_carries (roll : Option RollBody) (held : HeldLaw s) (watch : WatchLaw s) :
    WatchLaw (takeDuplicate roll s) ∧ Carries s (takeDuplicate roll s) := by
  have counted : WatchLaw (s.modStc fun c => { c with duplicates := satInc c.duplicates }) := watch
  unfold takeDuplicate
  split
  · next mode =>
    dsimp only
    split
    · exact (Moves.of_same watch (by simp) (by simp) (by simp)).carries
    · next b =>
      unfold contest
      split
      · exact (Moves.of_same watch (by simp [recordDuplicate]) (by simp [recordDuplicate]) (by simp [recordDuplicate])).carries
      · split
        · exact (Moves.of_same watch rfl rfl rfl).carries
        · split
          · dsimp only
            split
            · next announce =>
              have announce : s.stc.mode = .announce := announce
              refine start_carries held (.inl announce) ?_
              have run := enterRun_watchLaw (s := recordDuplicate b.unit false
                (s.modStc fun c => { c with duplicates := satInc c.duplicates })) watch
                (by simp [State.serving, recordDuplicate, announce])
              exact (Moves.of_serving run (by simp) (by simp [State.serving]) (by simp)).watch
            · next other =>
              have run : s.stc.mode = .run := mode.resolve_left other
              exact (Moves.of_serving watch (by simp [recordDuplicate]) (by simp [State.serving, run])
                (by simp [recordDuplicate])).carries
          · exact (Moves.of_same watch (by simp [recordDuplicate]) (by simp [recordDuplicate]) (by simp [recordDuplicate])).carries
  · exact (Moves.refl watch).carries

theorem takeRestart_carries (unit : BitVec 32) (straps : Straps) (held' : HeldLaw (takeRestart unit straps s)) (watch : WatchLaw s) :
    WatchLaw (takeRestart unit straps s) ∧ Carries s (takeRestart unit straps s) := by
  revert held'
  unfold takeRestart
  split
  · exact fun _ => (Moves.refl watch).carries
  · split
    · exact fun _ => (Moves.of_same watch rfl rfl rfl).carries
    · intro held'
      obtain ⟨rests, emc⟩ := beginLoading_rests
        { resetState straps s with
          stc := { (resetState straps s).stc with restarts := satInc s.stc.restarts, kept := keptLists s }
          selfRec := s.selfRec
          counters := s.counters }
      exact restart_carries held' rests (congrArg (·.emergency) emc)

/-! ### Every turn -/

theorem Carries.event {f : State → State} (h : WatchLaw (f s) ∧ Carries s (f s)) :
    WatchLaw (event f s) ∧ Carries s (event f s) := by
  obtain ⟨watch, carries⟩ := h
  refine ⟨watch.keep (.of_eq (by simp)) (by simp) (by simp), ?_⟩
  unfold Carries
  rw [show (Machine.event f s).channels = (f s).channels by simp, show (Machine.event f s).stc = (f s).stc by simp]
  exact carries

theorem dispatch_carries {f : Frame} (stamp : Instant) (straps : Straps) (burst : Option Nat) (noCue : FrameBody.isNoCue f.body = true)
    (held' : HeldLaw (dispatch f stamp straps burst s)) (watch : WatchLaw s) :
    WatchLaw (dispatch f stamp straps burst s) ∧ Carries s (dispatch f stamp straps burst s) := by
  obtain ⟨src, dst, body⟩ := f
  cases body with
  | cue => exact absurd noCue Bool.false_ne_true
  | align r =>
    refine (Moves.event (f := fun s => takeContactFlag src r.flags.contact (tableTakesAlign src r s)) ?_).carries
    exact .before (takeContactFlag_moves src r.flags.contact) watch (by simp) (by simp) (by simp)
  | roll b => exact (Moves.event (takeContactFlag_moves src b.contact watch)).carries
  | evac set => exact (Moves.event (f := takeEvac src set) (.before followInputs_moves watch rfl rfl rfl)).carries
  | mark => exact (Moves.event (Moves.of_same watch (by simp) (by simp) (by simp))).carries
  | query q => exact (Moves.event (Moves.of_same watch (by simp) (by simp) (by simp))).carries
  | restart unit =>
    refine Carries.event (takeRestart_carries unit straps ?_ watch)
    have same : HeldLaw (Machine.event (takeRestart unit straps) s) := held'
    unfold HeldLaw State.serving at same ⊢
    rwa [show (Machine.event (takeRestart unit straps) s).channels = (takeRestart unit straps s).channels by simp,
      show (Machine.event (takeRestart unit straps) s).stc = (takeRestart unit straps s).stc by simp,
      show (Machine.event (takeRestart unit straps) s).emc = (takeRestart unit straps s).emc by simp,
      show (Machine.event (takeRestart unit straps) s).solver.delay = (takeRestart unit straps s).solver.delay by simp,
      show (Machine.event (takeRestart unit straps) s).solver.path = (takeRestart unit straps s).solver.path by simp] at same
  | replyData => exact (Moves.refl watch).carries
  | replyStatus => exact (Moves.refl watch).carries

theorem exec_carries {c : Instr} (single : isSingle c = true) (answer : exec c s = .next t) (held : HeldLaw s) (held' : HeldLaw t)
    (watch : WatchLaw s) (other : match c with
      | .programmeSample _ | .slewComplete _ => False
      | _ => True) : WatchLaw t ∧ Carries s t := by
  cases c
  case programmeSample | slewComplete => exact other.elim
  case hardReset | imageHeaderRead | imageReadTimeout | imageReadComplete | claimTimerExpiry =>
    exact exec_startup_carries answer held held' watch trivial
  all_goals exact (exec_moves single answer watch trivial).carries

theorem exec_watchLaw {c : Instr} (single : isSingle c = true) (answer : exec c s = .next t) (held : HeldLaw s) (held' : HeldLaw t)
    (watch : WatchLaw s) : WatchLaw t := by
  cases c
  case programmeSample x =>
    cases answer
    exact (takeSample_watchLaw x.programme x.microphone watch).keep (.of_eq (by simp)) (by simp) (by simp)
  case slewComplete c =>
    cases answer
    have landed : WatchLaw (if s.channels[c].nearTarget s.slewStep then s.modChannel c (·.slewOnce s.slewStep) else s) := by
      split
      · exact slewOnce_watchLaw c _ watch
      · exact watch
    exact landed.keep (.of_eq (by simp)) (by simp) (by simp)
  all_goals exact (exec_carries single answer held held' watch trivial).1

theorem tick_moves (watch : WatchLaw s) : Moves s (tick s) := by
  refine .of_keeps watch (fun c => ?_) rfl rfl
  rw [show (tick s).channels[c] = s.channels[c].tick from mapVector_get _ _ c]
  exact ⟨⟨rfl, fun _ => rfl, rfl⟩, rfl⟩

/-- A turn that is no command on its own carries every channel. -/
theorem turn_carries (turn : Turn s t) (lawful : Lawful s) (watch : WatchLaw s) :
    (∃ c, isSingle c = true ∧ exec c s = .next t) ∨ WatchLaw t ∧ Carries s t := by
  have held' := turn_keeps_heldLaw turn lawful
  cases turn with
  | command single answer => exact .inl ⟨_, single, answer⟩
  | pass => exact .inr (tick_moves watch).carries
  | act => exact .inr (Moves.event (takeAction_moves watch)).carries
  | duplicate roll => exact .inr (Carries.event (takeDuplicate_carries roll lawful.held watch))
  | handed stamp straps burst station other noCue => exact .inr (dispatch_carries stamp straps burst noCue held' watch)
  | _ => exact .inr (Moves.of_same watch (by simp [gapTaken]) (by simp [gapTaken]) (by simp [gapTaken])).carries

theorem turn_keeps_watchLaw (turn : Turn s t) (lawful : Lawful s) (watch : WatchLaw s) : WatchLaw t := by
  rcases turn_carries turn lawful watch with ⟨c, single, answer⟩ | ⟨after, -⟩
  · exact exec_watchLaw single answer lawful.held (turn_keeps_heldLaw turn lawful) watch
  · exact after

end

end Sys2Proof.Machine
end

section
/-! PROOFS. What a programme sample does to an applied delay (R80), and the shape of a step: what comes before its last turn. -/

namespace Sys2Proof.Machine

section

variable {s t u : State}

/-! ### Slew steps -/

/-- In a pass whose parts leave the other channels alone, a channel is made by its own part, in a state that keeps what every
part keeps. -/
theorem pass_one {P : State → Prop} {f : Fin 4 → State → State}
    (other : ∀ (d c : Fin 4) (u : State), c ≠ d → (f d u).channels[c] = u.channels[c]) (keep : ∀ d {u}, P u → P (f d u))
    (h : P s) (c : Fin 4) :
    ∃ u, P u ∧ u.channels[c] = s.channels[c] ∧ (forChannels f s).channels[c] = (f c u).channels[c] := by
  have pass : forChannels f s = f 3 (f 2 (f 1 (f 0 s))) := rfl
  rw [pass]
  match c with
  | 0 => exact ⟨s, h, rfl, by rw [other 3 0 _ (by decide), other 2 0 _ (by decide), other 1 0 _ (by decide)]⟩
  | 1 => exact ⟨_, keep 0 h, other 0 1 _ (by decide), by rw [other 3 1 _ (by decide), other 2 1 _ (by decide)]⟩
  | 2 =>
    exact ⟨_, keep 1 (keep 0 h), by rw [other 1 2 _ (by decide), other 0 2 _ (by decide)], other 3 2 _ (by decide)⟩
  | 3 =>
    exact ⟨_, keep 2 (keep 1 (keep 0 h)), by
      rw [other 2 3 _ (by decide), other 1 3 _ (by decide), other 0 3 _ (by decide)], rfl⟩

theorem sampleChannel_other (d c : Fin 4) (u : State) (differ : c ≠ d) :
    (sampleChannel d u).channels[c] = u.channels[c] := modChannel_get_other _ differ _

theorem stepCrossfade_applied (ch : Channel) : ch.stepCrossfade.applied = ch.applied := by
  unfold Channel.stepCrossfade
  repeat' split
  all_goals simp

theorem stepRamp_applied (ch : Channel) : ch.stepRamp.applied = ch.applied := by
  unfold Channel.stepRamp Channel.completeRamp
  repeat' split
  all_goals rfl

/-- A programme sample takes one slew step of the applied delay (R80). -/
theorem sampleChannel_applied (c : Fin 4) (s : State) :
    (sampleChannel c s).channels[c].applied = (s.channels[c].slewOnce s.slewStep).applied := by
  unfold sampleChannel
  dsimp only
  rw [modChannel_get_self]
  show (equalise s c _ _).stepCrossfade.applied = _
  rw [stepCrossfade_applied, equalise_frame]
  exact stepRamp_applied _

/-- A slew step moves the applied delay by at most one step (R80). -/
theorem slewOnce_near {ch : Channel} (law : ChannelDelayLaw ch) (step : Nat) :
    (ch.slewOnce step).applied ≤ ch.applied + step ∧ ch.applied ≤ (ch.slewOnce step).applied + step := by
  obtain ⟨-, -, -, up, down, -⟩ := law
  unfold Channel.slewOnce
  split
  · omega
  · next slewing =>
    have := up slewing
    dsimp only
    omega
  · next slewing =>
    have := down slewing
    dsimp only
    omega

theorem setJudgement_delayLaw (present : Bool) (h : DelayLaw s) (eqs : EqLaw s) (power : PowerLaw s) :
    DelayLaw (setJudgement present s) := by
  have laws : EachChannel ChannelLaws s := fun c => ⟨h c, eqs c, power c⟩
  unfold setJudgement
  split
  · exact h
  · have heeded := PowerStable.pass (P := EachChannel ChannelLaws)
      (fun c _ => PowerStable.actOnSilence channelLaws_powerStable c)
      (s := s.modLevel fun l => { l with present := present }) laws
    exact fun c => (heeded c).delay

/-- A programme sample moves the applied delay of a channel that sounds throughout by at most one slew step (R80). -/
theorem takeSample_near (x microphone : Int) (lawful : Lawful s) (watch : WatchLaw s) (c : Fin 4)
    (before : s.channels[c].power.sounding = true) (after : (takeSample x microphone s).channels[c].power.sounding = true) :
    (takeSample x microphone s).channels[c].applied ≤ s.channels[c].applied + s.slewStep ∧
    s.channels[c].applied ≤ (takeSample x microphone s).channels[c].applied + s.slewStep := by
  have judged := setJudgement_moves (judgeSample s x) watch
  have law := setJudgement_delayLaw (judgeSample s x) lawful.delay lawful.eqs lawful.power
  obtain ⟨v, ⟨image, -⟩, mid, last⟩ := pass_one (P := fun u => u.image = s.image ∧ True) sampleChannel_other
    (fun d u hu => ⟨hu.1, trivial⟩)
    (s := placeEmission (hearSample microphone (writeSample x (judgeSample s x) (setJudgement (judgeSample s x) s))))
    ⟨by simp, trivial⟩ c
  have mid : v.channels[c] = (setJudgement (judgeSample s x) s).channels[c] := mid.trans (by simp)
  have whole : (takeSample x microphone s).channels[c] = (sampleChannel c v).channels[c] := by
    rw [← last]
    simp [takeSample]
  have step : v.slewStep = s.slewStep := by
    unfold State.slewStep State.slewCode
    rw [image]
  have power : (sampleChannel c v).channels[c].power = v.channels[c].power := (sampleChannel_power c c v).1
  rw [whole, power, mid] at after
  rw [whole, sampleChannel_applied, mid, step, ← (judged.carried c).applied before after]
  exact slewOnce_near (law c) _

/-! ### The shape of a step -/

/-- What the turns before the last one of a step leave alone. -/
structure Leads (s u : State) : Prop where
  turns : Turns s u
  image : u.image = s.image
  mode : u.stc.mode = s.stc.mode
  channels : u.channels = s.channels
  level : u.level = s.level
  emc : u.emc = s.emc
  solver : u.solver = s.solver
  cue : u.cue = s.cue

theorem Leads.refl (s : State) : Leads s s := ⟨.refl, rfl, rfl, rfl, rfl, rfl, rfl, rfl⟩

theorem Leads.trans (h : Leads s u) (h' : Leads u t) : Leads s t :=
  ⟨.trans h.turns h'.turns, h'.image.trans h.image, h'.mode.trans h.mode, h'.channels.trans h.channels,
    h'.level.trans h.level, h'.emc.trans h.emc, h'.solver.trans h.solver, h'.cue.trans h.cue⟩

theorem leads_unwait (q : List Instr) (s : State) : Leads s (s.setPending q) :=
  ⟨(Turn.unwait q s).one, rfl, rfl, rfl, rfl, rfl, rfl, rfl⟩

theorem leads_count (k : Counter) (s : State) : Leads s (bump k s) :=
  ⟨(Turn.count k s).one, rfl, rfl, rfl, rfl, rfl, rfl, rfl⟩

theorem leads_pins (straps : Straps) (s : State) : Leads s (s.modStc fun c => { c with strapPins := straps }) :=
  ⟨(Turn.pins straps s).one, rfl, rfl, rfl, rfl, rfl, rfl, rfl⟩

theorem leads_gap (s : State) : Leads s (gapTaken s) := ⟨(Turn.gap s).one, rfl, rfl, rfl, rfl, rfl, rfl, rfl⟩

theorem leads_valid (s : State) : Leads s (countValid s) :=
  ⟨(Turn.valid s).one, by simp, by simp, by simp, by simp, by simp, by simp, by simp⟩

/-- The last turn of a step that is no command on its own, and runs no list. -/
inductive Last : State → State → Prop
  | stays (s : State) : Last s s
  | pass {s : State} (idling : s.cue.list.isRunning = false) : Last s (tick s)
  | act (s : State) : Last s (event takeAction s)
  | duplicate (roll : Option RollBody) (s : State) : Last s (event (takeDuplicate roll) s)
  | handed {f : Frame} {s : State} (stamp : Instant) (straps : Straps) (burst : Option Nat)
      (station : isStation f.src = true) (other : f.src ≠ s.number) (noCue : FrameBody.isNoCue f.body = true) :
      Last s (dispatch f stamp straps burst s)
  | accept {params : List Byte} (src : Nat) (number : Byte) (s : State) (short : params.length ≤ 4) :
      Last s (acceptCue src number params s)

theorem Last.turns (h : Last s t) : Turns s t := by
  cases h with
  | stays => exact .refl
  | pass idling => exact (Turn.pass idling).one
  | act => exact (Turn.act s).one
  | duplicate roll => exact (Turn.duplicate roll s).one
  | handed stamp straps burst station other noCue => exact (Turn.handed stamp straps burst station other noCue).one
  | accept src number _ short => exact (Turn.accept src number s short).one

/-- A frame's confirmation ends in one turn, unless it is a CUE out of EMERGENCY (R145, R161 to R164). -/
theorem confirmFrame_last {f : Frame} (stamp : Instant) (straps : Straps) (burst : Option Nat) (s : State)
    (short : FrameBody.shortCue f.body) :
    (∃ u, Leads s u ∧ Last u (confirmFrame f stamp straps burst s)) ∨
    (FrameBody.isNoCue f.body = false ∧ s.emc.emergency = false) := by
  unfold confirmFrame
  split
  · next checked =>
    have station : isStation f.src = true := (Bool.and_eq_true_iff.1 checked).1
    have counted := leads_valid s
    dsimp only
    split
    · exact .inl ⟨_, counted, .duplicate _ _⟩
    · next other =>
      split
      · obtain ⟨src, dst, body⟩ := f
        cases body
        case cue number params _ =>
          cases emergency : s.emc.emergency with
          | false => exact .inr ⟨rfl, rfl⟩
          | true =>
            refine .inl ⟨_, counted, ?_⟩
            show Last _ (takeCue src number params burst (countValid s))
            have refused : cueRefusal (countValid s) number = some .refusedEmergency := by
              simp [cueRefusal, State.inEmergency, emergency]
            unfold takeCue
            rw [refused]
            exact .accept src number _ short
        all_goals exact .inl ⟨_, counted, .handed stamp straps burst station other rfl⟩
      · exact .inl ⟨_, counted, .stays _⟩
  · exact .inl ⟨_, leads_count _ s, .stays _⟩

/-- A step is a command on its own, or ends in one turn, or runs a list from a CUE, a WAIT timer or a gap (R145). -/
theorem step_shape (answer : step s = .next t) :
    (∃ c rest, s.pending = c :: rest ∧ isSingle c = true ∧ exec c (s.setPending rest) = .next t) ∨
    (∃ u, Leads s u ∧ Last u t) ∨
    ((s.emc.emergency = false ∨ s.cue.list ≠ .idle) ∧
      ((∃ src dst n ps burst rest, s.pending = .cue src dst n ps burst :: rest) ∨
        (∃ burst rest, s.pending = .waitTimerExpiry burst :: rest) ∨
        ∃ burst rest, s.pending = .interFrameGap burst :: rest)) := by
  unfold step at answer
  split at answer
  · next c rest pending =>
    have unwait := leads_unwait rest s
    have frame {f : Frame} (stamp : Instant) (straps : Straps) (burst : Option Nat) {v : State} (before : Leads s v)
        (short : FrameBody.shortCue f.body) (noCue : FrameBody.isNoCue f.body = true) :
        ∃ u, Leads s u ∧ Last u (confirmFrame f stamp straps burst v) := by
      rcases confirmFrame_last stamp straps burst v short with ⟨u, leads, last⟩ | ⟨isCue, -⟩
      · exact ⟨u, before.trans leads, last⟩
      · rw [noCue] at isCue
        cases isCue
    cases c
    case align | roll | mark | evac | query | reply => cases answer; exact .inr (.inl (frame _ _ _ unwait trivial rfl))
    case restart src unit straps =>
      cases answer
      exact .inr (.inl (frame _ _ _ (unwait.trans (leads_pins straps _)) trivial rfl))
    case duplicateFrame roll =>
      cases answer
      exact .inr (.inl (frame _ _ _ unwait (by cases roll <;> trivial) (by cases roll <;> rfl)))
    case cue src dst n ps burst =>
      cases answer
      split
      · next short =>
        rcases confirmFrame_last (f := ⟨src, dst, .cue n ps⟩) (s.setPending rest).timeBase (s.setPending rest).stc.strapPins burst
          (s.setPending rest) short with ⟨u, leads, last⟩ | ⟨-, emergency⟩
        · exact .inr (.inl ⟨u, unwait.trans leads, last⟩)
        · exact .inr (.inr ⟨.inl emergency, .inl ⟨_, _, _, _, _, _, pending⟩⟩)
      · exact .inr (.inl ⟨_, unwait.trans (leads_count _ _), .stays _⟩)
    case waitTimerExpiry burst =>
      cases answer
      split
      · next c left waiting =>
        refine .inr (.inr ⟨.inr fun idle => ?_, .inr (.inl ⟨_, _, pending⟩)⟩)
        rw [show (s.setPending rest).cue.list = .idle from idle] at waiting
        cases waiting
      · exact .inr (.inl ⟨_, unwait, .stays _⟩)
    case interFrameGap burst =>
      have gap := unwait.trans (leads_gap _)
      cases answer
      split
      · exact .inr (.inl ⟨_, gap, .stays _⟩)
      · exact .inr (.inl ⟨_, gap, .stays _⟩)
      · exact .inr (.inl ⟨_, gap.trans (leads_count _ _), .stays _⟩)
      · split
        · exact .inr (.inl ⟨_, gap, .stays _⟩)
        · unfold checkFrame
          split
          · split
            · next f parsed =>
              rcases confirmFrame_last _ _ burst (gapTaken (s.setPending rest)) (parseFrame_shortCue parsed) with
                ⟨u, leads, last⟩ | ⟨-, emergency⟩
              · exact .inr (.inl ⟨u, gap.trans leads, last⟩)
              · exact .inr (.inr ⟨.inl emergency, .inr (.inr ⟨_, _, pending⟩)⟩)
            · exact .inr (.inl ⟨_, gap.trans (leads_count _ _), .stays _⟩)
          · exact .inr (.inl ⟨_, gap.trans (leads_count _ _), .stays _⟩)
    all_goals exact .inl ⟨_, rest, pending, rfl, answer⟩
  · cases answer
    refine .inr (.inl ⟨s, .refl s, ?_⟩)
    unfold idle
    split
    · next running =>
      cases list : s.cue.list with
      | idle => rw [list] at running; cases running
      | waiting c left => rw [list] at running; cases running
      | running c =>
        have one : runList (some 0) s = event takeAction s := by
          unfold runList
          rw [list]
          show runActions (511 + 1) (some 0) _ = _
          unfold runActions
          split <;> simp_all
        rw [one]
        exact .act s
    · next idling => exact .pass (Bool.eq_false_iff.2 idling)

end

end Sys2Proof.Machine
end

section
/-! PROOFS. The laws of the channels after every step (R75, R80, R85, R89, R99, R102, R111, R112). -/

namespace Sys2Proof.Machine

section

variable {s t u : State}

/-! ### A cue action carries every channel, whatever the state -/

theorem marked_carried {f : Fin 4 → State → State} {g : Fin 4 → Channel → Channel} (acts : ActsAt s f g)
    (each : ∀ (c : Fin 4) (ch : Channel), Carried ch (g c ch)) (m : BitVec 4) (c : Fin 4) :
    Carried s.channels[c] (forMarked m f s).channels[c] := by
  obtain ⟨-, channels⟩ := acts.marked m (SameView.refl s)
  rw [channels]
  split
  · exact each c _
  · exact .refl _

theorem retargetMarked_carried (f : Channel → Channel) (alike : ∀ ch, Alike ch (f ch)) (m : BitVec 4) (c : Fin 4) :
    Carried s.channels[c] (forMarked m (fun c s => retargetAndAct c (s.modChannel c f)) s).channels[c] :=
  marked_carried ((ActsAt.mod fun _ => f).comp (retargetAndAct_acts s))
    (fun c _ => (retargeted_carried s _ c _).after (alike _)) m c

theorem startRound_carried (c : Fin 4) : Carried s.channels[c] (startRound s).channels[c] := by
  unfold startRound
  split
  · next d i _ _ =>
    dsimp only
    split
    · exact (Alike.refl s.channels[c]).carried.before (by simp [enterMarking, setSlot]; exact .refl _)
    · exact (Alike.refl s.channels[c]).carried.before (by simp [enterMarking, setSlot]; exact .refl _)
    · obtain ⟨here, other⟩ := (enterWaking_acts (roundWaits i s)).one (SameView.refl _) d
      show Carried (roundWaits i s).channels[c] (enterWaking d (roundWaits i s)).channels[c]
      by_cases same : c = d
      · subst same
        rw [here]
        exact woken_carried _ _ _
      · rw [other c same]
        exact .refl _
    all_goals exact .refl _
  · exact .refl _

theorem performAction_carried (a : Action) (c : Fin 4) : Carried s.channels[c] (performAction a s).channels[c] := by
  cases a with
  | finish => exact .refl _
  | wait v => exact .refl _
  | probe =>
    show Carried _ (probeAction s).channels[c]
    unfold probeAction
    split
    · exact startRound_carried c
    · exact .refl _
  | freeze => exact .refl _
  | thaw =>
    rw [show (performAction .thaw s).channels = s.channels by simp [performAction, thawAction, setFreeze]]
    exact .refl _
  | offset v =>
    rw [show (performAction (.offset v) s).channels = s.channels by simp [performAction, offsetAction]]
    exact .refl _
  | mute m => exact retargetMarked_carried (fun ch => { ch with storedMute := true }) (fun _ => ⟨rfl, fun _ => rfl, rfl⟩) m c
  | unmute m => exact retargetMarked_carried (fun ch => { ch with storedMute := false }) (fun _ => ⟨rfl, fun _ => rfl, rfl⟩) m c
  | gain m v => exact retargetMarked_carried (fun ch => { ch with storedGain := v }) (fun _ => ⟨rfl, fun _ => rfl, rfl⟩) m c
  | sleep m => exact marked_carried (sleepChannel_acts s) (slept_carried s) m c
  | wake m => exact marked_carried (wakeChannel_acts s) (roused_carried s) m c
  | preset m v =>
    refine marked_carried ((ActsAt.mod fun _ ch => { ch with preset := v }).comp (requestChannel_acts s)) (fun _ ch => ?_) m c
    have stored : Alike ch { ch with preset := v } := ⟨rfl, fun _ => rfl, rfl⟩
    exact (stored.trans (request_alike _ _)).carried

theorem takeAction_carried (c : Fin 4) : Carried s.channels[c] (takeAction s).channels[c] := by
  unfold takeAction
  split
  · split
    · exact .refl _
    · next a _ =>
      have performed := performAction_carried (s := s) a c
      unfold advanceList
      split <;> exact performed
  · exact .refl _

/-! ### The last turn of a step -/

theorem last_carries (last : Last s t) (lawful : Lawful s) (watch : WatchLaw s) : WatchLaw t ∧ Carries s t := by
  have held' := (turns_keep_lawful last.turns lawful).held
  cases last with
  | stays => exact (Moves.refl watch).carries
  | pass => exact (tick_moves watch).carries
  | act => exact (Moves.event (takeAction_moves watch)).carries
  | duplicate roll => exact Carries.event (takeDuplicate_carries roll lawful.held watch)
  | handed stamp straps burst station other noCue => exact dispatch_carries stamp straps burst noCue held' watch
  | accept => exact (Moves.of_same watch (by simp) (by simp) (by simp)).carries

/-- While a channel sounds before and after, what carries it leaves its applied delay. -/
theorem Carries.applied (h : Carries s t) {c : Fin 4} (before : s.channels[c].power.sounding = true)
    (after : t.channels[c].power.sounding = true) : t.channels[c].applied = s.channels[c].applied := by
  rcases h with carried | ⟨silent, -⟩
  · exact (carried c).applied before after
  · rcases silent c with silent | silent
    · rw [before] at silent
      cases silent
    · rw [after] at silent
      cases silent

theorem step_keeps_watchLaw (lawful : Lawful s) (watch : WatchLaw s) (answer : step s = .next t) : WatchLaw t :=
  ((step_turns answer).keeps (P := fun u => Lawful u ∧ WatchLaw u)
    (fun _ _ turn h => ⟨turn_keeps_lawful turn h.1, turn_keeps_watchLaw turn h.1 h.2⟩) ⟨lawful, watch⟩).2

/-- A command on its own moves the applied delay of a sounding channel by at most one slew step, and only as a programme sample
or the last step of the channel's slew (R80). -/
theorem exec_near {i : Instr} (single : isSingle i = true) (answer : exec i s = .next t) (lawful : Lawful s) (watch : WatchLaw s)
    {c : Fin 4} (before : s.channels[c].power.sounding = true) (after : t.channels[c].power.sounding = true) :
    t.channels[c].applied ≤ s.channels[c].applied + s.slewStep ∧ s.channels[c].applied ≤ t.channels[c].applied + s.slewStep ∧
    (t.channels[c].applied ≠ s.channels[c].applied → i = .slewComplete c ∨ ∃ x, i = .programmeSample x) := by
  have stays (same : t.channels[c].applied = s.channels[c].applied) :
      t.channels[c].applied ≤ s.channels[c].applied + s.slewStep ∧
      s.channels[c].applied ≤ t.channels[c].applied + s.slewStep ∧
      (t.channels[c].applied ≠ s.channels[c].applied → i = .slewComplete c ∨ ∃ x, i = .programmeSample x) :=
    ⟨by omega, by omega, fun moved => absurd same moved⟩
  have held' := (turn_keeps_lawful (.command single answer) lawful).held
  cases i
  case programmeSample x =>
    cases answer
    rw [show (event (takeSample x.programme x.microphone) s).channels = (takeSample x.programme x.microphone s).channels by simp]
      at after ⊢
    obtain ⟨above, below⟩ := takeSample_near _ _ lawful watch c before after
    exact ⟨above, below, fun _ => .inr ⟨x, rfl⟩⟩
  case slewComplete d =>
    cases answer
    have channels : (event (fun s => if s.channels[d].nearTarget s.slewStep then s.modChannel d (·.slewOnce s.slewStep) else s)
        s).channels = (if s.channels[d].nearTarget s.slewStep then s.modChannel d (·.slewOnce s.slewStep) else s).channels := by
      simp only [event_frame]
    rw [channels] at stays ⊢
    split at stays
    · next near =>
      rw [if_pos near]
      by_cases here : c = d
      · subst here
        rw [modChannel_get_self]
        obtain ⟨above, below⟩ := slewOnce_near (lawful.delay c) s.slewStep
        exact ⟨above, below, fun _ => .inl rfl⟩
      · exact stays (by rw [modChannel_get_other _ here])
    · next far =>
      rw [if_neg far]
      exact stays rfl
  all_goals exact stays ((exec_carries single answer lawful.held held' watch trivial).2.applied before after)

end

/-- Settles O56: the laws and WATCH by each turn, the movement of an applied delay by the last turn of the step. -/
theorem stepKeepsChannelLaws : Obligations.StepKeepsChannelLaws := by
  refine ⟨fun s t lawful answer => ?_, fun s t => step_keeps_watchLaw, ?_, fun s c before after => ?_⟩
  · have kept := step_keeps_lawful lawful answer
    exact ⟨kept.delay, kept.formed, kept.eqs, kept.power⟩
  · intro s t c lawful watch answer before after noCue noWait noGap
    have stays (same : t.channels[c].applied = s.channels[c].applied) :
        t.channels[c].applied ≤ s.channels[c].applied + s.slewStep ∧
        s.channels[c].applied ≤ t.channels[c].applied + s.slewStep ∧
        (t.channels[c].applied ≠ s.channels[c].applied →
          ∃ rest, s.pending = .slewComplete c :: rest ∨ ∃ x, s.pending = .programmeSample x :: rest) :=
      ⟨by omega, by omega, fun moved => absurd same moved⟩
    rcases step_shape answer with ⟨i, rest, pending, single, answer⟩ | ⟨u, leads, last⟩ | ⟨-, runs⟩
    · obtain ⟨above, below, only⟩ := exec_near (s := s.setPending rest) single answer
        (turn_keeps_lawful (.unwait rest s) lawful) watch before after
      refine ⟨above, below, fun moved => ⟨rest, ?_⟩⟩
      rcases only moved with rfl | ⟨x, rfl⟩
      · exact .inl pending
      · exact .inr ⟨x, pending⟩
    · have watch' : WatchLaw u := watch.keep (.of_eq leads.channels) leads.mode (by rw [leads.level])
      obtain ⟨-, carries⟩ := last_carries last (turns_keep_lawful leads.turns lawful) watch'
      refine stays ((carries.applied ?_ after).trans (by rw [leads.channels]))
      rw [leads.channels]
      exact before
    · rcases runs with ⟨src, dst, n, ps, burst, rest, pending⟩ | ⟨burst, rest, pending⟩ | ⟨burst, rest, pending⟩
      · exact absurd pending (noCue _ _ _ _ _ _)
      · exact absurd pending (noWait _ _)
      · exact absurd pending (noGap _ _)
  · rw [show (event takeAction s).channels = (takeAction s).channels by simp] at after ⊢
    exact (takeAction_carried c).applied before after

end Sys2Proof.Machine
end

section
/-! PROOFS. The first law of Emergency Control (R134): while the station stays in EMERGENCY its zone target delay stays. -/

namespace Sys2Proof.Machine

/-- The zone target delay and the outputs of the last sample are those of a state before. -/
structure Stands (before s : State) : Prop where
  delay : s.solver.delay = before.solver.delay
  output : ∀ c : Fin 4, s.channels[c].output = before.channels[c].output

section

variable {s t u before : State}

theorem Stands.refl (s : State) : Stands s s := ⟨rfl, fun _ => rfl⟩

theorem Stands.same (h : Stands before s) (delay : t.solver.delay = s.solver.delay) (channels : t.channels = s.channels) :
    Stands before t :=
  ⟨delay.trans h.delay, fun c => by rw [channels]; exact h.output c⟩

theorem stands_powerStable (before : State) : PowerStable (Stands before) := by
  intro s c p cause _ h
  obtain ⟨self, other⟩ := (setPower_acts s p cause).one (SameView.refl s) c
  refine ⟨(by simp : (setPower c p cause s).solver.delay = s.solver.delay).trans h.delay, fun d => ?_⟩
  by_cases here : d = c
  · subst here
    rw [self, (moved_carried s d p cause _).output]
    exact h.output d
  · rw [other d here]
    exact h.output d

theorem stands_stable (before : State) : Stable (Stands before) where
  power := stands_powerStable before
  channel := fun {s} c {f} _ same _ h => ⟨h.delay, fun d => by
    by_cases here : d = c
    · subst here
      rw [modChannel_get_self, same.2]
      exact h.output d
    · rw [modChannel_get_other _ here]
      exact h.output d⟩
  bumped := fun _ _ h => h.same rfl rfl
  handed := fun _ _ h => h.same (by simp) (by simp)
  aligned := fun _ h => h.same (by simp) (by simp)
  triggered := fun h => h.same (by simp) (by simp)
  tabled := fun _ _ _ h => h.same rfl rfl
  banded := fun _ _ h => h.same rfl rfl
  discarded := fun _ h => h.same rfl rfl

theorem stands_closed (before : State) : Closed (Stands before) where
  toStable := stands_stable before
  emc := fun _ _ h => h.same rfl rfl
  freed := fun _ h => h.same rfl rfl
  entered := fun {s} _ h => by
    rw [enterEmergency_eq]
    exact (stands_stable before).emergencyValues (h.same (by simp [emergencyBegun, setFreeze]) (by simp [emergencyBegun, setFreeze]))
  left := fun {s} _ h => by
    rw [leaveEmergency_eq]
    exact (stands_stable before).ordinaryValues (h.same (by simp [emergencyEnded, setFreeze]) (by simp [emergencyEnded, setFreeze]))

/-- A frozen pass leaves D (R57). -/
theorem solvePass_frozen (frozen : s.frozen = true) : solvePass s = computePass s := by
  unfold solvePass
  dsimp only
  rw [if_pos (show (computePass s).frozen = true from frozen)]

theorem Calm.frozen (h : Calm s) (emergency : s.emc.emergency = true) (run : s.stc.mode = .run) : s.frozen = true := by
  obtain ⟨-, -, -, freezes⟩ := h.calm.1 emergency
  unfold State.frozen
  rw [freezes (by simp [run]), Bool.or_true]

theorem Calm.noAction (h : Calm s) (emergency : s.emc.emergency = true) : takeAction s = s := by
  unfold takeAction
  rw [h.list_of_emergency emergency]

theorem enterConflict_delay (s : State) : (enterConflict s).solver.delay = s.solver.delay := by
  unfold enterConflict
  dsimp only
  split <;> simp [cancelSelfWindow]

/-! ### The probe channel's output -/

/-- While no round runs no probe sample leaves a channel (R28). -/
theorem takeSample_noProbe (x microphone : Int) (idle : s.probe.round = .idle) (c : Fin 4) :
    (takeSample x microphone s).channels[c].output.probe = none := by
  have judged : (setJudgement (judgeSample s x) s).probe = s.probe := by
    unfold setJudgement
    split
    · rfl
    · obtain ⟨-, probe⟩ := PowerStable.pass (P := SameAir s) (fun c _ => PowerStable.actOnSilence (quiet_powerStable idle) c)
        (s := s.modLevel fun l => { l with present := judgeSample s x }) ⟨rfl, rfl⟩
      exact probe
  have placed : (placeEmission (hearSample microphone
      (writeSample x (judgeSample s x) (setJudgement (judgeSample s x) s)))).probe.round = .idle := by
    unfold placeEmission
    split
    · split
      · exact (congrArg (·.round) judged).trans idle
      · exact (congrArg (·.round) judged).trans idle
    · exact (congrArg (·.round) judged).trans idle
  obtain ⟨v, round, -, last⟩ := pass_one (P := fun u => u.probe.round = .idle) sampleChannel_other (fun d u hu => hu) placed c
  rw [show (takeSample x microphone s).channels = (forChannels sampleChannel (placeEmission (hearSample microphone
    (writeSample x (judgeSample s x) (setJudgement (judgeSample s x) s))))).channels by simp [takeSample], last]
  unfold sampleChannel
  dsimp only
  rw [modChannel_get_self]
  show probeOut v c = none
  rw [probeOut, if_neg (fun emits => by rw [round] at emits; cases emits.1)]

/-- A command on its own that is no programme sample leaves D and the outputs while the station stays in RUN and frozen. -/
theorem exec_stands {c : Instr} (single : isSingle c = true) (answer : exec c s = .next t) (calm : Calm s)
    (emergency : s.emc.emergency = true) (run : s.stc.mode = .run) (run' : t.stc.mode = .run)
    (other : ∀ x, c ≠ .programmeSample x) : Stands s t := by
  have frozen := calm.frozen emergency run
  have stable := stands_stable s
  have start := Stands.refl s
  cases c
  case align | roll | mark | evac | cue | waitTimerExpiry | query | restart | reply | duplicateFrame | interFrameGap =>
    cases single
  case programmeSample x => exact absurd rfl (other x)
  case silenceTimerExpiry | readyAsserted | readyLost | faultLineAsserted | faultLineReleased | wakeTimerExpiry
    | lostSample | slewComplete | crossfadeEnd | rampEnd | gateFadeEnd => exact stable.exec_channel answer start trivial
  case secondTick | entryStale | entryLost | poolRelease | airReply | airReplyTimeout | programmeJudgementChange
    | refreshTimerExpiry => exact stable.exec_table answer start trivial
  case contactPinChange | debouncedContactAsserted | debouncedContactReleased | resetContactAsserted
    | resetContactReleased | evacRefreshExpiry => exact (stands_closed s).exec_emergency answer start trivial
  case hardReset straps =>
    cases answer
    obtain ⟨rests, -⟩ := beginLoading_rests (resetState straps s)
    simp [State.serving, run'] at rests
  case imageHeaderRead | imageReadTimeout | imageReadComplete =>
    cases answer
    rw [run]
    exact start
  case claimTimerExpiry =>
    cases answer
    rw [if_neg (by simp [run])]
    exact start
  case settleExpiry =>
    cases answer
    refine stable.event ?_
    split
    · rw [solvePass_frozen (s := s.modSolver fun v => { v with settle := none }) frozen]
      exact start.same rfl rfl
    · exact start
  case holdTimerExpiry =>
    cases answer
    refine stable.event ?_
    obtain ⟨-, -, held, -⟩ := calm.calm
    rw [if_neg (by rw [held frozen]; exact Bool.false_ne_true)]
    exact start
  case probeTimerExpiry =>
    cases answer
    refine stable.event ?_
    split
    · split
      · next conditions =>
        obtain ⟨-, ordinary, -⟩ := (startConditions_iff s).1 conditions
        rw [emergency] at ordinary
        cases ordinary
      · exact start.same rfl rfl
    · exact start
  case windowClose i =>
    cases answer
    refine stable.event ?_
    split
    · have freed : Stands s (setSlot i .free s) := start.same rfl rfl
      dsimp only
      split
      · exact freed
      · exact stable.deliverResult _ _ freed
    · exact start
  all_goals
    cases answer
    refine start.same ?_ ?_
    all_goals
      try simp only [event_solver_frame, event_frame]
      try ((repeat' split) <;> simp)

/-! ### The last turn of a step -/

theorem takeDuplicate_stands (roll : Option RollBody) (run : s.stc.mode = .run) : Stands s (takeDuplicate roll s) := by
  have start := Stands.refl s
  unfold takeDuplicate
  split
  · dsimp only
    split
    · exact start.same (by simp) (by simp)
    · next b =>
      unfold contest
      split
      · exact start.same (by simp [recordDuplicate]) (by simp [recordDuplicate])
      · split
        · exact start.same rfl rfl
        · split
          · dsimp only
            rw [if_neg (show ¬(recordDuplicate b.unit false
              (s.modStc fun c => { c with duplicates := satInc c.duplicates })).stc.mode = .announce by simp [recordDuplicate, run])]
            exact start.same ((enterConflict_delay _).trans rfl) (by simp [recordDuplicate])
          · exact start.same (by simp [recordDuplicate]) (by simp [recordDuplicate])
  · exact start

theorem last_stands (last : Last s t) (calm : Calm s) (emergency : s.emc.emergency = true) (run : s.stc.mode = .run) :
    Stands s t := by
  have stable := stands_stable s
  have closed := stands_closed s
  have start := Stands.refl s
  cases last with
  | stays => exact start
  | pass =>
    refine ⟨rfl, fun c => ?_⟩
    rw [show (tick s).channels[c] = s.channels[c].tick from mapVector_get _ _ c]
    rfl
  | act =>
    refine stable.event ?_
    rw [calm.noAction emergency]
    exact start
  | duplicate roll => exact stable.event (takeDuplicate_stands roll run)
  | @handed f _ stamp straps burst station other noCue =>
    obtain ⟨src, dst, body⟩ := f
    cases body with
    | cue => exact absurd noCue Bool.false_ne_true
    | align r =>
      exact stable.event (f := fun s => takeContactFlag src r.flags.contact (tableTakesAlign src r s))
        (closed.takeContactFlag _ _ (stable.tableTakesAlign _ _ start))
    | roll b => exact stable.event (closed.takeContactFlag _ _ start)
    | evac set => exact stable.event (closed.takeEvac _ _ start)
    | mark => exact stable.event (start.same (by simp) (by simp))
    | query q => exact stable.event (stable.answerQuery _ _ (fun _ hu => hu.same rfl rfl) start)
    | restart unit =>
      refine stable.event ?_
      unfold takeRestart
      rw [if_pos (show s.inEmergency = true from emergency)]
      split
      · exact start
      · exact start.same rfl rfl
    | replyData => exact start
    | replyStatus => exact start
  | accept => exact start.same (by simp) (by simp)

end

/-- Settles O60: no pass is applied while frozen, no hold timer expires, and neither round nor list runs in EMERGENCY. -/
theorem emergencyHoldsTarget : Obligations.EmergencyHoldsTarget := by
  intro s t lawful answer run run' emergency emergency'
  obtain ⟨idle', list', free', -⟩ := (step_keeps_lawful lawful answer).calm.1 emergency'
  have done (stands : Stands s t) : t.solver.delay = s.solver.delay ∧ t.probe.round = .idle ∧ t.cue.list = .idle ∧
      (∀ i : Fin 2, t.probe.slots[i] = .free) ∧
      (∀ c : Fin 4, s.channels[c].output.probe = none → t.channels[c].output.probe = none) :=
    ⟨stands.delay, idle', list', free', fun c silent => by rw [stands.output c]; exact silent⟩
  rcases step_shape answer with ⟨i, rest, -, single, answer⟩ | ⟨u, leads, last⟩ | ⟨runs, -⟩
  · have calm : Calm (s.setPending rest) := (turn_keeps_lawful (.unwait rest s) lawful).isCalm
    by_cases sample : ∃ x, i = .programmeSample x
    · obtain ⟨x, rfl⟩ := sample
      cases answer
      refine ⟨by simp [takeSample, forChannels], idle', list', free', fun c _ => ?_⟩
      rw [show (event (takeSample x.programme x.microphone) (s.setPending rest)).channels =
        (takeSample x.programme x.microphone (s.setPending rest)).channels by simp]
      exact takeSample_noProbe _ _ (calm.quiet emergency).1 c
    · obtain ⟨delay, output⟩ := exec_stands single answer calm emergency run run' fun x same => sample ⟨x, same⟩
      exact done ⟨delay, output⟩
  · obtain ⟨delay, output⟩ := last_stands last (turns_keep_lawful leads.turns lawful).isCalm
      (by rw [leads.emc]; exact emergency) (by rw [leads.mode]; exact run)
    exact done ⟨by rw [delay, leads.solver], fun c => by rw [output c, leads.channels]⟩
  · rcases runs with ordinary | runs
    · rw [emergency] at ordinary
      cases ordinary
    · exact absurd (lawful.isCalm.list_of_emergency emergency) runs

end Sys2Proof.Machine
end

section
/-! PROOFS. The ALIGN at the end of an event (R69 to R71): the flags and the record spelled over the state. -/

namespace Sys2Proof.Machine

variable {s t : State}

/-- Two states with the same blocks are the same state. -/
theorem state_eq (stc : s.stc = t.stc) (image : s.image = t.image) (bus : s.bus = t.bus) (peers : s.peers = t.peers)
    (selfRec : s.selfRec = t.selfRec) (probe : s.probe = t.probe) (air : s.air = t.air) (solver : s.solver = t.solver)
    (delay : s.delay = t.delay) (level : s.level = t.level) (eq : s.eq = t.eq) (channels : s.channels = t.channels)
    (cue : s.cue = t.cue) (emc : s.emc = t.emc) (counters : s.counters = t.counters) (timeBase : s.timeBase = t.timeBase)
    (freeCount : s.freeCount = t.freeCount) (pending : s.pending = t.pending) : s = t := by
  cases s
  cases t
  simp_all

theorem ampFault_iff (s : State) : ampFault s = true ↔ ∃ c : Fin 4, s.channels[c].power = .fault := by
  simp only [ampFault, List.any_eq_true, beq_iff_eq]
  constructor
  · rintro ⟨ch, mem, fault⟩
    obtain ⟨i, hi, rfl⟩ := List.getElem_of_mem mem
    exact ⟨⟨i, by simpa using hi⟩, by simpa using fault⟩
  · rintro ⟨c, fault⟩
    exact ⟨s.channels[c], by simp, fault⟩

theorem winnerDegraded_iff (s : State) :
    winnerDegraded s = true ↔
      ∃ i, s.solver.winner = some i ∧ (s.peers[i].state ≠ .fresh ∨ s.peers[i].flights.stale = true) := by
  unfold winnerDegraded
  split
  · next i winner => simp [winner]
  · next none => simp [none]

theorem flagsSpelled (s : State) : FlagsSpelled s (alignFlags s) := by
  refine ⟨beq_iff_eq, rfl, Bool.or_eq_true _ _ |>.to_iff, ampFault_iff s, rfl, fun origin => ?_, fun delay => ?_⟩
  · simp [alignFlags, degraded, origin]
  · simp [alignFlags, degraded, delay, winnerDegraded_iff, or_assoc]

/-- A fresh sequence number is due unless an ALIGN of this station waits untried (R71). -/
theorem composeAlign_composed (s : State) : AlignComposed s (composeAlign s) := by
  refine ⟨rfl, rfl, rfl, rfl, rfl, rfl, rfl, rfl, fun first => ?_, fun handed waits => ?_, fun handed tried => ?_⟩
  · simp [composeAlign, nextSequence, first]
  · obtain ⟨e, mem, align, untried⟩ := waits
    have found : s.bus.queue.any (fun e => e.frame.body.isAlign && !e.attempted) = true :=
      List.any_eq_true.2 ⟨e, mem, by simp [align, untried]⟩
    simp [composeAlign, nextSequence, handed, found]
  · have found : s.bus.queue.any (fun e => e.frame.body.isAlign && !e.attempted) = false :=
      List.any_eq_false.2 fun e mem => by
        have := tried e mem
        simp_all
    simp [composeAlign, nextSequence, handed, found]

theorem handAlign_eq (s : State) :
    handAlign s =
      { handFrame ⟨s.number, 63, .align (composeAlign s)⟩ s with
        solver :=
          { s.solver with
            seq := (composeAlign s).seq, handed := true, refresh := some (s.image.elim 0 (·.refresh) * 1000000) } } := by
  have solver : (handFrame ⟨s.number, 63, .align (composeAlign s)⟩ s).solver = s.solver := by simp
  unfold handAlign State.modSolver
  dsimp only
  rw [solver]

/-- Settles O5: the flags are spelled over the state, and an event in RUN that changes what is published hands the ALIGN
composed from its outcome. -/
theorem changedEventHandsOneAlign : Obligations.ChangedEventHandsOneAlign := by
  refine ⟨fun s => ⟨flagsSpelled s, rfl⟩, fun old new => ⟨fun quiet => if_neg quiet, fun before after changed => ?_⟩⟩
  exact ⟨composeAlign new, (if_pos ⟨before, after, changed⟩).trans (handAlign_eq new), composeAlign_composed new⟩

end Sys2Proof.Machine
end

section
/-! PROOFS. Resets (R176 to R178, R186 to R188): CONFIG_FAULT entry at resting channels, a reset as a state written out, and
the commands HARD_RESET and RESTART. -/

namespace Sys2Proof.Machine

variable {s t : State}

/-! ### CONFIG_FAULT entry (R186) -/

/-- A channel that has neither target nor setting to give up. -/
structure Channel.Vacant (ch : Channel) : Prop where
  target : ch.target = 0
  flat : ch.Flat

/-- A vacant channel that is muted: CONFIG_FAULT asks nothing of it. -/
structure Channel.Mute (ch : Channel) : Prop extends Channel.Vacant ch where
  silent : ch.gainTarget = .silence

/-- Start-up Control, the table and the solver at CONFIG_FAULT entry. -/
def faulted (reason : FaultReason) (s : State) : State := (faultStartup reason s).modSolver fun _ => Solver.reset

theorem faulted_not_serving (reason : FaultReason) (s : State) : (faulted reason s).serving = false := rfl

/-- At vacant channels the targets and the settings of CONFIG_FAULT are there already. -/
theorem enterConfigFault_vacant (reason : FaultReason) (vacant : ∀ c : Fin 4, s.channels[c].Vacant) :
    enterConfigFault reason s =
      handRoll
        (if s.emc.emergency = true then forChannels enterWaking (forChannels retargetChannel (faulted reason s))
         else forChannels retargetChannel (faulted reason s)) := by
  have formed : formTargets (faulted reason s) = faulted reason s :=
    forChannels_id fun c => modChannel_id (takeTarget_same (vacant c).target)
  have requested : requestAll (faulted reason s) = faulted reason s :=
    forChannels_id fun c => modChannel_id (vacant c).flat.request
  have emergency : (forChannels retargetChannel (faulted reason s)).inEmergency = s.emc.emergency := by
    simp [State.inEmergency, forChannels, faulted]
  unfold enterConfigFault
  rw [← faulted]
  dsimp only
  rw [formed, requested, emergency]

/-- At mute channels out of EMERGENCY, CONFIG_FAULT entry leaves the channels alone. -/
theorem enterConfigFault_mute (reason : FaultReason) (mute : ∀ c : Fin 4, s.channels[c].Mute)
    (calm : s.emc.emergency = false) : enterConfigFault reason s = handRoll (faulted reason s) := by
  have wanted (c : Fin 4) : wantedGain (faulted reason s) c = .silence := by
    rw [wantedGain, faulted_not_serving]
    simp [State.inEmergency, faulted, calm]
  have retargeted : forChannels retargetChannel (faulted reason s) = faulted reason s :=
    forChannels_id fun c => modChannel_id (retarget_same ((mute c).silent.trans (wanted c).symm))
  rw [enterConfigFault_vacant reason fun c => (mute c).toVacant, calm, if_neg Bool.false_ne_true, retargeted]

theorem handRoll_of_bad_number (bad : isStation s.number = false) : handRoll s = s := if_pos (.inr (.inr bad))

/-! ### A reset -/

theorem reset_mute (ready faultLine : Bool) : (Channel.reset ready faultLine).Mute := ⟨⟨rfl, rfl, rfl⟩, rfl⟩

theorem resetState_mute (straps : Straps) (s : State) (c : Fin 4) : (resetState straps s).channels[c].Mute := by
  rw [resetState_channel]
  exact reset_mute _ _

/-- LOADING begins from a reset state: with bad number straps it is over at once, and nothing is handed. -/
theorem beginLoading_reset {r : State} (stc : ∃ straps unit restarts kept, r.stc =
      { State.reset.stc with strapPins := straps, straps := straps, unit := unit, restarts := restarts, kept := kept })
    (image : r.image = none) (peers : r.peers = State.reset.peers) (solver : r.solver = Solver.reset)
    (mute : ∀ c : Fin 4, r.channels[c].Mute) (calm : r.emc.emergency = false) :
    beginLoading r =
      { r with
        stc :=
          { r.stc with
            mode := if isStation r.number then .loading else .configFault
            reason := if isStation r.number then .none else .badStrap
            reading := if isStation r.number then .header 100000 else .none
            kept := if isStation r.number then r.stc.kept else Vector.replicate 16 none } } := by
  obtain ⟨straps, unit, restarts, kept, stc⟩ := stc
  unfold beginLoading
  by_cases good : isStation r.number = true
  · simp only [good, if_true]
    refine state_eq ?_ rfl rfl rfl rfl rfl rfl rfl rfl rfl rfl rfl rfl rfl rfl rfl rfl rfl
    simp [stc]
  · have bad : isStation r.number = false := by simpa using good
    simp only [bad, Bool.false_eq_true, if_false]
    rw [enterConfigFault_mute .badStrap mute calm, handRoll_of_bad_number (s := faulted .badStrap r) bad]
    refine state_eq ?_ image.symm rfl peers.symm rfl rfl rfl solver.symm rfl rfl rfl rfl rfl rfl rfl rfl rfl rfl
    simp [faulted, faultStartup, stc]

theorem debounceSpan_released (pin : Bool) : debounceSpan pin false = if pin = true then some 20000 else none := by
  cases pin <;> rfl

theorem resetState_channels (straps : Straps) (s : State) :
    (resetState straps s).channels =
      Vector.ofFn fun c : Fin 4 => Channel.reset s.channels[c].ready s.channels[c].faultLine :=
  channels_ext fun c => by
    rw [resetState_channel]
    simp

theorem resetState_emc (straps : Straps) (s : State) :
    (resetState straps s).emc =
      { State.reset.emc with
        contactPin := s.emc.contactPin
        resetPin := s.emc.resetPin
        contactSpan := if s.emc.contactPin = straps.activeHigh then some 20000 else none
        resetSpan := if s.emc.resetPin then some 20000 else none } := by
  simp only [resetState, debounceSpan_released, beq_iff_eq]

/-- Settles O6: a hard reset is the reset state with the straps sampled, from which LOADING begins. -/
theorem hardResetSetsEverything : Obligations.HardResetSetsEverything := by
  intro straps s
  show Host.Outcome.next (beginLoading (resetState straps s)) = _
  rw [beginLoading_reset (r := resetState straps s) ⟨straps, s.stc.unit, 0, Vector.replicate 16 none, rfl⟩ rfl rfl rfl
    (resetState_mute straps s) rfl]
  refine congrArg _ (state_eq ?_ rfl rfl rfl rfl rfl rfl rfl rfl rfl rfl (resetState_channels straps s) rfl
    (resetState_emc straps s) rfl rfl rfl rfl)
  by_cases good : isStation straps.number.toNat = true
  · simp only [resetState, State.number, State.reset_stc_kept, good, if_true]
  · simp only [resetState, State.number, State.reset_stc_kept, good, if_false, Bool.false_eq_true]

/-! ### RESTART (R187, R188) -/

theorem keptLists_congr (mode : t.stc.mode = s.stc.mode) (kept : t.stc.kept = s.stc.kept) (peers : t.peers = s.peers) :
    keptLists t = keptLists s := by simp only [keptLists, mode, kept, peers]

theorem keptLists_get (mode : s.stc.mode ≠ .loading) (i : Fin 16) : (keptLists s)[i] = keptOf s.peers[i] := by
  unfold keptLists
  rw [if_neg mode]
  exact mapVector_get keptOf s.peers i

/-- RESTART samples the pins and confirms its frame. -/
theorem exec_restart_eq (src : Nat) (unit : BitVec 32) (straps : Straps) (s : State) :
    exec (.restart src unit straps) s =
      .next (confirmFrame ⟨src, 63, .restart unit⟩ s.timeBase straps none
        (s.modStc fun c => { c with strapPins := straps })) := rfl

theorem exec_restart_kept {src : Nat} (unit : BitVec 32) (straps : Straps) (station : isStation src = true)
    (other : src ≠ s.number) :
    exec (.restart src unit straps) s =
      .next (event (takeRestart unit straps) (countValid (s.modStc fun c => { c with strapPins := straps }))) := by
  rw [exec_restart_eq, confirmFrame_broadcast station rfl rfl other]
  rfl

/-- The line's block after a valid frame of another station (R173). -/
def Bus.counted (b : Bus) : Bus :=
  if b.txQuiet then
    if b.recovery + 1 = 128 then { b with tfc := 0, txQuiet := false, recovery := 0 }
    else { b with recovery := b.recovery + 1 }
  else b

/-- Counting a valid frame touches the line's block and one counter alone. -/
theorem countValid_eq (s : State) :
    countValid s = { s with bus := s.bus.counted, counters := (bump .rxGood s).counters } := by
  have bus : (bump .rxGood s).bus = s.bus := rfl
  unfold countValid Bus.counted
  dsimp only
  rw [bus]
  split
  · split <;> rfl
  · rfl

theorem bump_published (k : Counter) (s : State) : published (bump k s) = published s :=
  published_congr rfl rfl rfl rfl rfl rfl rfl rfl

/-- The state from which a warm restart begins LOADING. -/
def warmed (straps : Straps) (s : State) : State :=
  { resetState straps s with
    stc := { (resetState straps s).stc with restarts := satInc s.stc.restarts, kept := keptLists s }
    selfRec := s.selfRec
    counters := s.counters }

theorem warmRestart_eq (straps : Straps) (s : State) : warmRestart straps s = beginLoading (warmed straps s) := rfl

theorem warmRestart_mode (straps : Straps) (s : State) : (warmRestart straps s).stc.mode ≠ .run :=
  (not_serving_iff.1 (beginLoading_rests (warmed straps s)).1).1

/-- Settles O10: a RESTART is the confirmation of its frame, and a warm restart begins LOADING from a reset state that keeps
the counters, the self record and the SINGLE entries' lists. -/
theorem restartTaken : Obligations.RestartTaken := by
  intro src unit straps s station other
  refine ⟨fun foreign => ?foreign, fun own emergency => ?emergency, fun own calm => ?warm, fun i st mode single => ?single,
    fun i mode plural => ?plural⟩
  case foreign =>
    rw [exec_restart_kept unit straps station other]
    have unmoved : takeRestart unit straps (countValid (s.modStc fun c => { c with strapPins := straps })) =
        countValid (s.modStc fun c => { c with strapPins := straps }) := by simp [takeRestart, foreign]
    rw [event_quiet (congrArg published unmoved), unmoved]
    rfl
  case emergency =>
    rw [exec_restart_kept unit straps station other]
    have refused : takeRestart unit straps (countValid (s.modStc fun c => { c with strapPins := straps })) =
        bump .cueFaults (countValid (s.modStc fun c => { c with strapPins := straps })) := by
      simp [takeRestart, own, State.inEmergency, emergency]
    rw [event_quiet ((congrArg published refused).trans (bump_published _ _)), refused]
    rfl
  case warm =>
    rw [exec_restart_kept unit straps station other]
    generalize counted : countValid (s.modStc fun c => { c with strapPins := straps }) = u
    have stc : u.stc = { s.stc with strapPins := straps } := by simp [← counted]
    have taken : takeRestart unit straps u = warmRestart straps u := by
      have : u.emc = s.emc := by simp [← counted]
      simp [takeRestart, own, State.inEmergency, this, stc, calm]
    have kept : keptLists u = keptLists s := keptLists_congr (by rw [stc]) (by rw [stc]) (by simp [← counted])
    show Host.Outcome.next (finishEvent u (takeRestart unit straps u)) = _
    rw [finishEvent_not_run (.inr (by rw [taken]; exact warmRestart_mode straps u)), taken]
    rw [warmRestart_eq, beginLoading_reset (r := warmed straps u)
      ⟨straps, u.stc.unit, satInc u.stc.restarts, keptLists u, rfl⟩ rfl rfl rfl (resetState_mute straps u) rfl]
    have channels : u.channels = s.channels := by simp [← counted]
    have emc : u.emc = s.emc := by simp [← counted]
    refine congrArg _ (state_eq ?stc rfl rfl rfl ?selfRec rfl rfl rfl rfl rfl rfl ?channels rfl ?emc ?counters rfl
      ?freeCount ?pending)
    case stc =>
      by_cases good : isStation straps.number.toNat = true
      · simp only [warmed, resetState, State.number, kept, stc, good, if_true]
      · simp only [warmed, resetState, State.number, kept, stc, good, if_false, Bool.false_eq_true]
    case channels => exact (resetState_channels straps u).trans (by rw [channels])
    case emc => exact (resetState_emc straps u).trans (by rw [emc])
    all_goals simp [warmed, resetState, ← counted, countValid_eq]
    all_goals rfl
  case single =>
    rw [keptLists_get mode i, keptOf, single]
  case plural =>
    rw [keptLists_get mode i, keptOf]
    split
    · next st single => rw [single] at plural; exact absurd plural (by simp [Binding.singleStation])
    · rfl

end Sys2Proof.Machine
end

section
/-! PROOFS. The rows of the received frames (R161 to R164, R173): each is the confirmation of one frame, from this station's
own number a duplicate, with a number its kind does not allow malformed, else counted. -/

namespace Sys2Proof.Machine

variable {f : Frame} {stamp : Instant} {straps : Straps} {burst : Option Nat} {s t : State} {src dst : Nat}

theorem confirmFrame_malformed (bad : isStation f.src = false ∨ f.body.destinationAllowed f.dst = false) :
    confirmFrame f stamp straps burst s = bump .rxMalformed s := by
  have : (isStation f.src && f.body.destinationAllowed f.dst) = false := by rcases bad with h | h <;> simp [h]
  unfold confirmFrame
  rw [this, if_neg Bool.false_ne_true]

/-- A frame with the station's own number is Start-up Control's. -/
theorem exec_duplicate_eq (roll : Option RollBody) (station : isStation s.number = true) :
    exec (.duplicateFrame roll) s = .next (event (takeDuplicate roll) (countValid s)) := by
  cases roll with
  | none => exact congrArg _ (confirmFrame_own (f := ⟨s.number, 63, .mark⟩) station rfl rfl)
  | some b => exact congrArg _ (confirmFrame_own (f := ⟨s.number, 63, .roll b⟩) station rfl rfl)

theorem confirmFrame_duplicate {roll : Option RollBody} (station : isStation s.number = true)
    (allowed : f.body.destinationAllowed f.dst = true) (own : f.src = s.number) (kind : FrameBody.asRoll f.body = roll) :
    Host.Outcome.next (confirmFrame f stamp straps burst s) = exec (.duplicateFrame roll) s := by
  rw [exec_duplicate_eq roll station, confirmFrame_own (by rw [own]; exact station) allowed own, kind]

theorem exec_cue_short {number : Byte} {params : List Byte} (short : params.length ≤ 4) :
    exec (.cue src dst number params burst) s =
      .next (confirmFrame ⟨src, dst, .cue number params⟩ s.timeBase s.stc.strapPins burst s) :=
  congrArg _ (if_pos short)

theorem exec_cue_long {number : Byte} {params : List Byte} (long : 4 < params.length) :
    exec (.cue src dst number params burst) s = .next (bump .rxMalformed s) :=
  congrArg _ (if_neg (by omega))

/-- A REPLY is counted, and no more. -/
theorem exec_reply_counted (station : isStation src = true) (allowed : isStation dst = true) (other : src ≠ s.number) :
    exec (.reply src dst) s = .next (countValid s) := by
  refine congrArg Host.Outcome.next ?_
  unfold confirmFrame
  have : (isStation src && (FrameBody.replyStatus 0 0 0 0 0 none).destinationAllowed dst) = true := by
    rw [station]
    exact allowed
  dsimp only
  rw [if_pos this, countValid_number, if_neg other]
  split <;> rfl

/-- Settles O12: every row is the confirmation of its frame, read off by its source and destination. -/
theorem validFrameCounted : Obligations.ValidFrameCounted := by
  refine ⟨fun s quiet => congrArg _ (if_pos quiet), fun s station => ?own, fun src s bad => ?badSource,
    fun src dst s bad => ?badDestination, fun src dst n ps burst s long => exec_cue_long long,
    fun src dst s station allowed other => ⟨countValid s, exec_reply_counted station allowed other, ?_, ?_, ?_, ?_, ?_⟩⟩
  case own =>
    refine ⟨fun r => confirmFrame_duplicate station rfl rfl rfl, fun b => confirmFrame_duplicate station rfl rfl rfl,
      fun stamp => confirmFrame_duplicate station rfl rfl rfl, fun set => confirmFrame_duplicate station rfl rfl rfl,
      fun dst n ps burst allowed short => ?_, fun dst q allowed => confirmFrame_duplicate station allowed rfl rfl,
      fun dst allowed => confirmFrame_duplicate station allowed rfl rfl,
      fun unit straps => confirmFrame_duplicate (s := s.modStc fun c => { c with strapPins := straps }) station rfl rfl rfl⟩
    exact (exec_cue_short short).trans (confirmFrame_duplicate station (cue_destinationAllowed_iff.2 allowed) rfl rfl)
  case badSource =>
    have malformed {f : Frame} (from' : f.src = src) (stamp : Instant) (straps : Straps) (burst : Option Nat) (u : State) :
        Host.Outcome.next (confirmFrame f stamp straps burst u) = (.next (bump .rxMalformed u) : Host.Outcome State Fault Refusal) :=
      congrArg _ (confirmFrame_malformed (.inl (by rw [from']; exact bad)))
    refine ⟨fun r => malformed rfl _ _ _ _, fun b => malformed rfl _ _ _ _, fun stamp => malformed rfl _ _ _ _,
      fun set => malformed rfl _ _ _ _, fun dst n ps burst => ?_, fun dst q => malformed rfl _ _ _ _,
      fun dst => malformed rfl _ _ _ _, fun unit straps => malformed rfl _ _ _ _⟩
    by_cases short : ps.length ≤ 4
    · exact (exec_cue_short short).trans (malformed rfl _ _ _ _)
    · exact exec_cue_long (by omega)
  case badDestination =>
    refine ⟨fun n ps burst narrow => ?_, fun q => congrArg _ (confirmFrame_malformed (f := ⟨src, dst, .query q⟩) (.inr bad)),
      congrArg _ (confirmFrame_malformed (f := ⟨src, dst, .replyStatus 0 0 0 0 0 none⟩) (.inr bad))⟩
    by_cases short : ps.length ≤ 4
    · refine (exec_cue_short short).trans (congrArg _ (confirmFrame_malformed (.inr ?_)))
      rw [← Bool.not_eq_true, cue_destinationAllowed_iff]
      simp [narrow, bad]
    · exact exec_cue_long (by omega)
  · intro k
    rw [countValid_eq]
    exact count_bump .rxGood k s
  · intro quiet
    simp [countValid_eq, Bus.counted, quiet]
  · intro quiet more
    have : s.bus.recovery + 1 ≠ 128 := by omega
    simp [countValid_eq, Bus.counted, quiet, this]
  · intro quiet last
    simp [countValid_eq, Bus.counted, quiet, last]
  · rw [countValid_eq]

end Sys2Proof.Machine
end

section
/-! PROOFS. Which entry takes a record (R3), what an ALIGN and an EVAC of another station do (R3, R5, R6, R128, R131), and
the window that a MARK opens (R12, R18, R35). -/

namespace Sys2Proof.Machine

variable {s t : State} {src : Nat}

/-! ### Searching in index order -/

/-- The first index in order is the one found. -/
theorem find_first {n : Nat} {p : Fin n → Bool} {i : Fin n} (holds : p i = true) (first : ∀ j < i, p j = false) :
    (List.finRange n).find? p = some i := by
  rw [List.find?_eq_some_iff_getElem]
  refine ⟨holds, i.val, by simp, by simp, fun j before => ?_⟩
  simpa using first ⟨j, by omega⟩ before

theorem find_unique {n : Nat} {p : Fin n → Bool} {i : Fin n} (holds : p i = true) (unique : ∀ j, p j = true → j = i) :
    (List.finRange n).find? p = some i :=
  find_first holds fun j before => by
    by_contra other
    exact absurd (unique j (by simpa using other)) (Fin.ne_of_lt before)

theorem find_none {n : Nat} {p : Fin n → Bool} (never : ∀ i, p i = false) : (List.finRange n).find? p = none :=
  List.find?_eq_none.2 fun i _ => by simp [never i]

/-! ### Placing a record (R3) -/

/-- No two entries hold the same station (R4). -/
theorem TableLaw.unique (h : TableLaw s) {i j : Fin 16} (hi : s.peers[i].peer = some src) (hj : s.peers[j].peer = some src) :
    j = i := by
  obtain ⟨-, apart, -⟩ := h
  by_contra differ
  have := apart j i differ (hj.trans hi.symm)
  rw [hj] at this
  exact Option.some_ne_none _ this

theorem TableLaw.single (h : TableLaw s) {i : Fin 16} {station : Nat} (single : s.peers[i].binding = .single station) :
    s.peers[i].peer = some station := by
  obtain ⟨entries, -⟩ := h
  obtain ⟨⟨-, held, -⟩, -⟩ := entries i
  exact held station single

theorem placeRecord_single {i : Fin 16} (h : TableLaw s) (single : s.peers[i].binding = .single src) :
    placeRecord s src = some i := by
  have found : (List.finRange 16).find? (fun j => s.peers[j].binding == .single src) = some i :=
    find_unique (beq_iff_eq.2 single) fun j other => h.unique (h.single single) (h.single (beq_iff_eq.1 other))
  unfold placeRecord
  dsimp only
  rw [found]
  rfl

/-- No SINGLE entry holds a station that no entry, or a POOL entry, holds. -/
theorem no_single_of (h : TableLaw s) (other : ∀ i : Fin 16, s.peers[i].peer = some src → s.peers[i].binding ≠ .single src) :
    (List.finRange 16).find? (fun j => s.peers[j].binding == .single src) = none :=
  find_none fun i => beq_eq_false_iff_ne.2 fun single => other i (h.single single) single

theorem placeRecord_adopted {i : Fin 16} (h : TableLaw s) (pool : s.peers[i].binding.isPool = true)
    (adopted : s.peers[i].peer = some src) : placeRecord s src = some i := by
  have noSingle := no_single_of h (src := src) fun j held single => by
    rw [h.unique adopted held] at single
    rw [single] at pool
    cases pool
  have found : (List.finRange 16).find? (fun j => s.peers[j].binding.isPool && s.peers[j].peer == some src) = some i :=
    find_unique (by rw [pool, adopted]; simp) fun j other => by
      simp only [Bool.and_eq_true, beq_iff_eq] at other
      exact h.unique adopted other.2
  unfold placeRecord
  dsimp only
  rw [noSingle, found]
  rfl

theorem freeFor_iff (e : PeerEntry) (station : Nat) :
    e.freeFor station = true ↔ ∃ lo hi, e.binding = .pool lo hi ∧ e.peer = none ∧ lo ≤ station ∧ station ≤ hi := by
  unfold PeerEntry.freeFor
  split
  · next lo hi pool => simp [pool, and_comm]
  · next other => simpa using fun lo hi pool => absurd pool (other lo hi)

theorem placeRecord_unheld (h : TableLaw s) (other : src ≠ s.number) (unheld : ∀ i : Fin 16, s.peers[i].peer ≠ some src) :
    placeRecord s src = (List.finRange 16).find? fun i => s.peers[i].freeFor src := by
  have noSingle := no_single_of h (src := src) fun j held => absurd held (unheld j)
  have noPool : (List.finRange 16).find? (fun j => s.peers[j].binding.isPool && s.peers[j].peer == some src) = none :=
    find_none fun j => by simpa using fun _ => unheld j
  unfold placeRecord
  dsimp only
  rw [noSingle, noPool, if_neg other]
  rfl

/-- Settles O13: the three searches of R3 in their order, each settled by the law of the table. -/
theorem recordPlacedInOrder : Obligations.RecordPlacedInOrder := by
  intro src s table other
  refine ⟨fun i single => placeRecord_single table single, fun i pool held => placeRecord_adopted table pool held,
    fun unheld => ⟨fun i lo hi pool low high free first => ?_, fun full => ?_⟩⟩
  · rw [placeRecord_unheld table other unheld]
    refine find_first ((freeFor_iff _ _).2 ⟨lo, hi, pool, free, low, high⟩) fun j before => ?_
    rw [← Bool.not_eq_true, freeFor_iff]
    rintro ⟨lo', hi', pool', free', range⟩
    exact first j lo' hi' before pool' free' range
  · rw [placeRecord_unheld table other unheld]
    refine find_none fun j => ?_
    rw [← Bool.not_eq_true, freeFor_iff]
    rintro ⟨lo', hi', pool', free', range⟩
    exact full j lo' hi' pool' free' range

/-! ### An ALIGN of another station (R3, R5, R6) -/

theorem placeRecord_congr (peers : t.peers = s.peers) (number : t.number = s.number) (station : Nat) :
    placeRecord t station = placeRecord s station := by
  unfold placeRecord
  rw [peers, number]

theorem trigger_eq (s : State) :
    trigger s =
      { s with
        solver :=
          { s.solver with
            settle :=
              if s.stc.kind = some .delay ∧ s.serving = true then some (s.solver.settle.getD 200000) else s.solver.settle } } := by
  unfold trigger
  by_cases delay : s.stc.kind = some .delay ∧ s.serving = true
  · rw [if_pos ⟨delay.2, delay.1⟩, if_pos delay]
    rfl
  · rw [if_neg fun h => delay ⟨h.2, h.1⟩, if_neg delay]

theorem tableOpen_iff (s : State) : tableOpen s = true ↔ s.stc.mode = .announce ∨ s.stc.mode = .run ∨ s.stc.mode = .conflict := by
  simp [tableOpen, State.serving]

theorem tableTakesAlign_closed (r : AlignRecord) (mode : s.stc.mode = .loading ∨ s.stc.mode = .configFault) :
    tableTakesAlign src r s = s := by
  have closed : tableOpen s = false := by
    rw [← Bool.not_eq_true, tableOpen_iff]
    rcases mode with mode | mode <;> simp [mode]
  unfold tableTakesAlign
  rw [closed]
  rfl

theorem tableTakesAlign_open (r : AlignRecord) (mode : s.stc.mode = .announce ∨ s.stc.mode = .run ∨ s.stc.mode = .conflict) :
    tableTakesAlign src r s =
      match placeRecord s src with
      | some i => takeRecord i src r s
      | none => bump .unmatchedAlign s := by
  unfold tableTakesAlign
  rw [(tableOpen_iff s).2 mode]
  rfl

theorem isDuplicateRecord_iff (e : PeerEntry) (r : AlignRecord) :
    isDuplicateRecord e r = true ↔ ∃ old, e.record = some old ∧ r.seq = old.seq := by
  unfold isDuplicateRecord
  split
  · next old held => simp [held]
  · next none => simp [none]

theorem recordGap_eq (e : PeerEntry) (r : AlignRecord) :
    recordGap e r = e.record.any fun old => r.seq != old.seq + 1 := by
  unfold recordGap
  split
  · next old held => simp [held]
  · next none => simp [none]

/-- A repeated record makes its entry young again (R5). -/
theorem takeRecord_repeated {i : Fin 16} {r : AlignRecord} (repeated : isDuplicateRecord s.peers[i] r = true) :
    takeRecord i src r s = { s with peers := s.peers.set i { s.peers[i] with age := some 0 } } := by
  unfold takeRecord
  dsimp only
  rw [if_pos repeated]
  rfl

/-- The counts of a new record: a gap, and an overrun at a delay station (R6). -/
def recordCounted (i : Fin 16) (r : AlignRecord) (s : State) : State :=
  let gap := if recordGap s.peers[i] r then bump .recordGap s else s
  if !(s.stc.kind == some .origin) && s.peers[i].unread then bump .recordOverrun gap else gap

theorem recordCounted_eq (i : Fin 16) (r : AlignRecord) (s : State) :
    recordCounted i r s = { s with counters := (recordCounted i r s).counters } := by
  unfold recordCounted
  dsimp only
  split <;> split <;> rfl

theorem count_bump_if (p : Prop) [Decidable p] (j k : Counter) (s : State) :
    (if p then bump j s else s).count k = if k = j ∧ p then satInc (s.count k) else s.count k := by
  by_cases holds : p
  · simp [holds]
  · simp [holds]

theorem recordCounted_count (i : Fin 16) (r : AlignRecord) (s : State) (k : Counter) :
    (recordCounted i r s).count k =
      if k = .recordGap ∧ recordGap s.peers[i] r = true ∨
         k = .recordOverrun ∧ s.stc.kind ≠ some .origin ∧ s.peers[i].unread = true
      then satInc (s.count k) else s.count k := by
  unfold recordCounted
  dsimp only
  rw [count_bump_if, count_bump_if]
  simp only [Bool.and_eq_true, Bool.not_eq_true', beq_eq_false_iff_ne]
  by_cases overrun : k = .recordOverrun
  · subst overrun
    simp
  · simp [overrun]

theorem takeRecord_new {i : Fin 16} {r : AlignRecord} (new : isDuplicateRecord s.peers[i] r = false) :
    takeRecord i src r s =
      trigger ((recordCounted i r s).modPeer i (storeRecord (s.stc.kind == some .origin) src r)) := by
  unfold takeRecord recordCounted
  dsimp only
  rw [new]
  rfl

/-- ALIGN of another station is counted and goes to the table, then to Emergency Control. -/
theorem exec_align_kept {r : AlignRecord} (station : isStation src = true) (other : src ≠ s.number) :
    exec (.align src r) s =
      .next (finishEvent (countValid s) (takeContactFlag src r.flags.contact (tableTakesAlign src r (countValid s)))) := by
  rw [exec_align_eq, confirmFrame_broadcast station rfl rfl other]
  rfl

theorem countValid_stc (s : State) : (countValid s).stc = s.stc := by simp

theorem countValid_peers (s : State) : (countValid s).peers = s.peers := by simp

/-- Settles O14: the mode, the place and the sequence number decide what the table does with the record. -/
theorem alignTakenByTable : Obligations.AlignTakenByTable := by
  intro src r s station other
  have done {v : State} (taken : tableTakesAlign src r (countValid s) = v) :
      exec (.align src r) s = .next (finishEvent (countValid s) (takeContactFlag src r.flags.contact v)) := by
    rw [exec_align_kept station other, taken]
  refine ⟨fun closed => done (tableTakesAlign_closed r (by rw [countValid_stc]; exact closed)), fun mode => ?_⟩
  have place : placeRecord (countValid s) src = placeRecord s src :=
    placeRecord_congr (countValid_peers s) (countValid_number s) src
  have opened := tableTakesAlign_open (s := countValid s) (src := src) r (by rw [countValid_stc]; exact mode)
  rw [place] at opened
  refine ⟨fun unplaced => done (by rw [opened, unplaced]), fun i old placed held repeated => ?_, fun i placed fresh => ?_⟩
  · refine done ?_
    rw [opened, placed]
    show takeRecord i src r (countValid s) = _
    rw [takeRecord_repeated (by rw [countValid_peers, isDuplicateRecord_iff]; exact ⟨old, held, repeated⟩), countValid_peers]
  · have new : isDuplicateRecord (countValid s).peers[i] r = false := by
      rw [countValid_peers, ← Bool.not_eq_true, isDuplicateRecord_iff]
      rintro ⟨old, held, repeated⟩
      exact fresh old held repeated
    refine ⟨_, done (by rw [opened, placed]), ?_⟩
    show _ ∧ _
    dsimp only
    rw [takeRecord_new new, trigger_eq, recordCounted_eq]
    refine ⟨?_, fun k => ?_, ?_, rfl⟩
    · show (countValid s).peers.set i (storeRecord _ src r (countValid s).peers[i]) = _
      rw [countValid_peers, countValid_stc]
      simp only [storeRecord, beq_iff_eq]
    · have counted := recordCounted_count i r (countValid s) k
      rw [countValid_peers, countValid_stc, recordGap_eq] at counted
      exact counted
    · show Solver.mk .. = _
      simp [State.serving]

end Sys2Proof.Machine
end

section
/-! PROOFS. The source set (R128, R131), the window of a MARK (R12, R18, R35), the CUE that is taken (R144) and the run of
its actions (R145, R146). -/

namespace Sys2Proof.Machine

variable {s t : State} {src : Nat}

/-! ### What is published -/

/-- The published values rest on these alone. -/
theorem published_same (stc : t.stc.kind = s.stc.kind ∧ t.stc.straps = s.stc.straps)
    (target : t.solver.state = s.solver.state ∧ t.solver.delay = s.solver.delay ∧ t.solver.rank = s.solver.rank ∧
      t.solver.range = s.solver.range ∧ t.solver.winner = s.solver.winner)
    (freeze : t.frozen = s.frozen)
    (peers : ∀ i : Fin 16, t.peers[i].state = s.peers[i].state ∧ t.peers[i].flights.stale = s.peers[i].flights.stale)
    (selfRec : t.selfRec.stale = s.selfRec.stale) (air : t.air.state = s.air.state)
    (channels : ∀ c : Fin 4, t.channels[c].power = .fault ↔ s.channels[c].power = .fault)
    (alarm : t.ownAlarm = s.ownAlarm) : published t = published s := by
  obtain ⟨kind, straps⟩ := stc
  obtain ⟨state, delay, rank, range, winner⟩ := target
  have fault : ampFault t = ampFault s := by
    rw [Bool.eq_iff_iff, ampFault_iff, ampFault_iff]
    exact exists_congr channels
  have degradedWinner : winnerDegraded t = winnerDegraded s := by
    rw [Bool.eq_iff_iff, winnerDegraded_iff, winnerDegraded_iff]
    simp only [winner, peers]
  simp only [published, alignFlags, degraded, state, delay, rank, range, kind, freeze, selfRec, air, alarm, fault,
    degradedWinner]

/-! ### EVAC of another station -/

/-- EVAC of another station is counted and goes to Emergency Control. -/
theorem exec_evac_kept {set : Bool} (station : isStation src = true) (other : src ≠ s.number) :
    exec (.evac src set) s = .next (finishEvent (countValid s) (takeEvac src set (countValid s))) :=
  congrArg Host.Outcome.next (confirmFrame_broadcast (f := ⟨src, 63, .evac set⟩) station rfl rfl other)

/-- The source set after an EVAC (R128). -/
def evacSources (src : Nat) (set : Bool) (sources : List Nat) : List Nat :=
  if set then addSource src sources else sources.filter (· != src)

theorem mem_evacSources {set : Bool} {sources : List Nat} (n : Nat) :
    n ∈ evacSources src set sources ↔ if set then n ∈ sources ∨ n = src else n ∈ sources ∧ n ≠ src := by
  unfold evacSources
  cases set
  · simp
  · simp [mem_addSource, or_comm]

theorem evacSources_sorted {set : Bool} {sources : List Nat} (sorted : sources.Pairwise (· < ·)) :
    (evacSources src set sources).Pairwise (· < ·) := by
  unfold evacSources
  split
  · exact addSource_sorted sorted
  · exact sorted.filter _

/-- The state with its source set changed, before EMERGENCY follows. -/
def sourced (src : Nat) (set : Bool) (s : State) : State :=
  s.modEmc fun e => { e with sources := evacSources src set e.sources }

theorem takeEvac_eq (src : Nat) (set : Bool) (s : State) : takeEvac src set s = followInputs (sourced src set s) := rfl

theorem takeEvac_emc (src : Nat) (set : Bool) (s : State) :
    (takeEvac src set s).emc =
      { s.emc with
        sources := evacSources src set s.emc.sources
        emergency := s.ownAlarm || !(evacSources src set s.emc.sources).isEmpty } := by
  rw [takeEvac_eq, followInputs_emc]
  rfl

theorem sourced_published (src : Nat) (set : Bool) (s : State) : published (sourced src set s) = published s :=
  published_same ⟨rfl, rfl⟩ ⟨rfl, rfl, rfl, rfl, rfl⟩ rfl (fun _ => ⟨rfl, rfl⟩) rfl rfl (fun _ => Iff.rfl) rfl

/-- An EVAC that does not change EMERGENCY changes the source set alone. -/
theorem takeEvac_of_same {set : Bool}
    (same : s.emc.emergency = (s.ownAlarm || !(evacSources src set s.emc.sources).isEmpty)) :
    takeEvac src set s = sourced src set s :=
  followInputs_of_follows (s := sourced src set s) same

/-- Settles O16: the source set is changed, and EMERGENCY follows the own alarm and the set. -/
theorem evacKeepsSourceSet : Obligations.EvacKeepsSourceSet := by
  intro src set s station other sorted
  refine ⟨_, exec_evac_kept station other, ?_⟩
  have emc : (finishEvent (countValid s) (takeEvac src set (countValid s))).emc =
      { s.emc with
        sources := evacSources src set s.emc.sources
        emergency := s.ownAlarm || !(evacSources src set s.emc.sources).isEmpty } := by
    have event_emc (new : State) : (finishEvent (countValid s) new).emc = new.emc := by simp
    rw [event_emc, takeEvac_emc, countValid_ownAlarm]
    simp
  rw [emc]
  refine ⟨fun n => mem_evacSources n, evacSources_sorted sorted, rfl, rfl, by simp, by simp, by simp, by simp, by simp,
    by simp, by simp, by simp, by simp, by simp, fun same => ?_⟩
  have kept : takeEvac src set (countValid s) = sourced src set (countValid s) :=
    takeEvac_of_same (by rw [countValid_ownAlarm]; simpa using same.symm)
  rw [kept, finishEvent_quiet (sourced_published src set _)]
  simp [sourced]

/-! ### MARK of another station (R12, R35) -/

theorem exec_mark_kept {stamp : Instant} (station : isStation src = true) (other : src ≠ s.number) :
    exec (.mark src stamp) s = .next (event (takeMark src stamp) (countValid s)) :=
  congrArg Host.Outcome.next (confirmFrame_broadcast (f := ⟨src, 63, .mark⟩) station rfl rfl other)

theorem holder_of_held (table : TableLaw s) {i : Fin 16} (held : s.peers[i].peer = some src) : s.holder src = some i :=
  find_unique (beq_iff_eq.2 held) fun _ other => table.unique held (beq_iff_eq.1 other)

theorem holder_of_unheld (unheld : ∀ i : Fin 16, s.peers[i].peer ≠ some src) : s.holder src = none :=
  find_none fun i => beq_eq_false_iff_ne.2 (unheld i)

theorem holder_congr (peers : t.peers = s.peers) (station : Nat) : t.holder station = s.holder station := by
  simp only [State.holder, peers]

/-- The holding entry with the timestamp of a MARK. -/
def stamped (i : Fin 16) (stamp : Instant) (s : State) : State := s.modPeer i fun e => { e with lastMark := some stamp }

/-- A change of one entry that keeps its state and its stale mark publishes nothing. -/
theorem modPeer_published {i : Fin 16} {f : PeerEntry → PeerEntry} (state : (f s.peers[i]).state = s.peers[i].state)
    (stale : (f s.peers[i]).flights.stale = s.peers[i].flights.stale) : published (s.modPeer i f) = published s := by
  refine published_same ⟨rfl, rfl⟩ ⟨rfl, rfl, rfl, rfl, rfl⟩ rfl (fun j => ?_) rfl rfl (fun _ => Iff.rfl) rfl
  by_cases same : j = i
  · subst same
    rw [modPeer_get_self]
    exact ⟨state, stale⟩
  · rw [modPeer_get_other same]
    exact ⟨rfl, rfl⟩

theorem modProbe_published (f : ProbeUnit → ProbeUnit) (s : State) : published (s.modProbe f) = published s := rfl

/-- What a MARK does after the timestamp: a window, or a count of capture busy. -/
def markHeard (src : Nat) (stamp : Instant) (s : State) : State :=
  if s.inEmergency then s
  else if s.probe.slots.toList.any (·.openFor (· == src)) then bump .captureBusy s
  else
    match freeSlot s with
    | some j => setSlot j (.opened (newWindow src stamp)) s
    | none => bump .captureBusy s

theorem markHeard_published (src : Nat) (stamp : Instant) (s : State) : published (markHeard src stamp s) = published s := by
  unfold markHeard
  split
  · rfl
  · split
    · exact bump_published _ _
    · split
      · exact modProbe_published _ _
      · exact bump_published _ _

theorem takeMark_held {i : Fin 16} {stamp : Instant} (held : s.holder src = some i) :
    takeMark src stamp s = markHeard src stamp (stamped i stamp s) := by
  unfold takeMark
  rw [held]
  rfl

theorem takeMark_unheld {stamp : Instant} (unheld : s.holder src = none) : takeMark src stamp s = s := by
  unfold takeMark
  rw [unheld]

theorem exec_mark_held {i : Fin 16} {stamp : Instant} (station : isStation src = true) (other : src ≠ s.number)
    (held : s.holder src = some i) :
    exec (.mark src stamp) s = .next (markHeard src stamp (stamped i stamp (countValid s))) := by
  have taken := takeMark_held (stamp := stamp) ((holder_congr (countValid_peers s) src).trans held)
  rw [exec_mark_kept station other, event_quiet, taken]
  rw [taken, markHeard_published]
  exact modPeer_published rfl rfl

theorem openFor_iff (slot : Slot) : slot.openFor (· == src) = true ↔ ∃ w, slot = .opened w ∧ w.owner = src := by
  cases slot <;> simp [Slot.openFor]

theorem slots_any {p : Slot → Bool} {v : Vector Slot 2} : v.toList.any p = true ↔ ∃ i : Fin 2, p v[i] = true := by
  rw [List.any_eq_true]
  constructor
  · rintro ⟨slot, mem, holds⟩
    obtain ⟨i, hi, rfl⟩ := List.getElem_of_mem mem
    exact ⟨⟨i, by simpa using hi⟩, by simpa using holds⟩
  · rintro ⟨i, holds⟩
    exact ⟨v[i], slot_mem v i, holds⟩

theorem isFree_iff (slot : Slot) : slot.isFree = true ↔ slot = .free := by
  cases slot <;> simp [Slot.isFree]

theorem freeSlot_eq_some {i : Fin 2} (free : s.probe.slots[i] = .free) (first : ∀ j < i, s.probe.slots[j] ≠ .free) :
    freeSlot s = some i :=
  find_first ((isFree_iff _).2 free) fun j before => by
    rw [← Bool.not_eq_true, isFree_iff]
    exact first j before

theorem freeSlot_eq_none (full : ∀ j : Fin 2, s.probe.slots[j] ≠ .free) : freeSlot s = none :=
  find_none fun j => by
    rw [← Bool.not_eq_true, isFree_iff]
    exact full j

theorem stamped_eq (i : Fin 16) (stamp : Instant) (s : State) :
    stamped i stamp (countValid s) =
      { countValid s with peers := s.peers.set i { s.peers[i] with lastMark := some stamp } } := by
  unfold stamped State.modPeer
  rw [countValid_peers]

/-- Settles O19: the timestamp goes to the holding entry, and the window to the lowest FREE slot. -/
theorem markOpensWindow : Obligations.MarkOpensWindow := by
  intro src stamp s station other
  refine ⟨fun table i held => holder_of_held table held, fun unheld => ⟨holder_of_unheld unheld, ?unheld⟩, fun i held => ?held⟩
  case unheld =>
    have noOne : (countValid s).holder src = none :=
      (holder_congr (countValid_peers s) src).trans (holder_of_unheld unheld)
    rw [exec_mark_kept station other, event_quiet, takeMark_unheld noOne]
    rw [takeMark_unheld noOne]
  case held =>
    dsimp only
    rw [exec_mark_held station other held, ← stamped_eq]
    have emc : (stamped i stamp (countValid s)).inEmergency = s.emc.emergency := by simp [stamped, State.inEmergency]
    have slots : (stamped i stamp (countValid s)).probe.slots = s.probe.slots := by simp [stamped]
    have free : freeSlot (stamped i stamp (countValid s)) = freeSlot s := by simp only [freeSlot, slots]
    unfold markHeard
    rw [emc, slots, free]
    have opened : s.probe.slots.toList.any (·.openFor (· == src)) = true ↔
        ∃ j : Fin 2, ∃ w, s.probe.slots[j] = .opened w ∧ w.owner = src := by simp only [slots_any, openFor_iff]
    refine ⟨fun emergency => by rw [if_pos emergency], fun calm found => ?_, fun calm full => ?_, fun j calm none isFree first => ?_⟩
    · rw [calm, if_neg Bool.false_ne_true, if_pos (opened.2 found)]
    · rw [calm, if_neg Bool.false_ne_true, freeSlot_eq_none full, ite_self]
    · rw [calm, if_neg Bool.false_ne_true, if_neg (fun found => (opened.1 found).elim fun k found => none k found),
        freeSlot_eq_some isFree first]
      refine congrArg Host.Outcome.next (state_eq (s := setSlot j (.opened (newWindow src stamp)) (stamped i stamp (countValid s)))
        rfl rfl rfl ?_ rfl ?_ rfl rfl rfl rfl rfl rfl rfl rfl rfl rfl rfl rfl)
      · show (stamped i stamp (countValid s)).peers = _
        rw [stamped_eq]
      · simp [setSlot, stamped, newWindow]

/-! ### A CUE that is taken (R144) -/

theorem exec_cue_taken {dst : Nat} {number : Byte} {params : List Byte} {burst : Option Nat} (station : isStation src = true)
    (other : src ≠ s.number) (kept : dst = 63 ∨ dst = s.number ∧ isStation dst = true) (short : params.length ≤ 4)
    (taken : cueRefusal s number = none) :
    exec (.cue src dst number params burst) s =
      .next (runList burst (startList src number params (overtakeList (countValid s)))) := by
  have counted : cueRefusal (countValid s) number = none := by rw [cueRefusal_countValid, taken]
  rw [exec_cue_kept station other kept short]
  unfold takeCue acceptCue
  rw [counted]

theorem runList_of_not_running (idle : ∀ c, s.cue.list ≠ .running c) (burst : Option Nat) : runList burst s = s := by
  unfold runList
  split
  · next c running => exact absurd running (idle c)
  · rfl

/-- The Cue Engine after a running list has been overtaken (R144). -/
def CueEngine.overtake (e : CueEngine) : CueEngine :=
  match e.list.context with
  | some c => { e with list := .idle, lastList := some ⟨c.cue, .overtaken, c.position⟩, overtaken := satInc e.overtaken }
  | none => e

theorem overtakeList_eq (s : State) : overtakeList s = { s with cue := s.cue.overtake } := by
  unfold overtakeList CueEngine.overtake
  cases s.cue.list.context <;> rfl

theorem overtake_memory (e : CueEngine) : e.overtake.memory = e.memory := by
  unfold CueEngine.overtake
  split <;> rfl

theorem startList_eq (number : Byte) (params : List Byte) (s : State) :
    startList src number params s =
      { s with
        cue :=
          if cueByte s (8 * number.toNat) = 0#8 then
            { s.cue with
              list := .idle, lastList := some ⟨number.toNat, .undefined, 8 * number.toNat⟩
              undefined := satInc s.cue.undefined, lastCue := some ⟨src, number, .undefined⟩ }
          else
            { s.cue with
              list := .running ⟨number.toNat, params, 8 * number.toNat⟩, lastCue := some ⟨src, number, .taken⟩ } } := by
  unfold startList
  dsimp only
  split <;> rfl

theorem countValid_cue (s : State) : (countValid s).cue = s.cue := by simp

/-- Settles O21: a running list is overtaken, then the new one set going or found undefined. -/
theorem cueTaken : Obligations.CueTaken := by
  intro src dst number params burst s station other kept short calm mode low
  have taken : cueRefusal s number = none := by
    have serving := (serving_iff s).2 mode
    simp [cueRefusal, State.inEmergency, calm, serving, Nat.not_lt.2 low]
  have byte : cueByte (overtakeList (countValid s)) (8 * number.toNat) = cueByte s (8 * number.toNat) := by
    simp only [cueByte, overtakeList_eq, overtake_memory, countValid_cue]
  dsimp only
  rw [exec_cue_taken station other kept short taken, startList_eq, byte, overtakeList_eq, countValid_cue]
  refine ⟨fun empty => ?_, fun begun => ?_⟩
  · rw [if_pos empty, runList_of_not_running (s := { countValid s with cue := _ }) (fun c => ListState.noConfusion)]
    unfold CueEngine.overtake
    split <;> simp_all
  · rw [if_neg begun]
    unfold CueEngine.overtake
    split <;> simp_all

/-! ### The run of a list (R145, R146) -/

/-- A list that is still RUNNING after an action stood within cue memory and has moved on. -/
theorem takeAction_advances {c c' : ListContext} (running : s.cue.list = .running c)
    (still : (takeAction s).cue.list = .running c') : c.position < 512 ∧ c.position < c'.position := by
  unfold takeAction at still
  rw [running] at still
  dsimp only at still
  split at still
  · cases still
  · next a decoded =>
    have within := (decodeAction_ok decoded).2
    have long : 1 ≤ a.length := by cases a <;> simp [Action.length]
    unfold advanceList at still
    split at still
    · cases still
    · cases still
    · cases still
      exact ⟨by omega, by show c.position < c.position + a.length; omega⟩

/-- So many actions bring a RUNNING list to its end: each moves it on, and beyond the memory it stops. -/
def Enough (n : Nat) (s : State) : Prop := ∀ c, s.cue.list = .running c → 1 ≤ n ∧ 513 ≤ n + c.position

theorem Enough.next {n : Nat} {c : ListContext} (enough : Enough (n + 1) s) (running : s.cue.list = .running c) :
    Enough n (event takeAction s) := by
  intro c' still
  obtain ⟨low, moved⟩ := takeAction_advances running (by simpa using still)
  have := (enough c running).2
  omega

theorem enough_run (s : State) : Enough 513 s := fun _ _ => ⟨by omega, by omega⟩

theorem runActions_of_not_running (idle : ∀ c, s.cue.list ≠ .running c) (n : Nat) (burst : Option Nat) :
    runActions n burst s = s := by
  cases n with
  | zero => rfl
  | succ n =>
    unfold runActions
    split
    · rfl
    · next c k running => exact absurd running (idle c)
    · next c running => exact absurd running (idle c)
    · rfl

theorem runActions_all {c : ListContext} (running : s.cue.list = .running c) (n : Nat) :
    runActions (n + 1) none s = runActions n none (event takeAction s) := by
  conv_lhs => unfold runActions
  rw [running]

theorem runActions_some {c : ListContext} (running : s.cue.list = .running c) (n k : Nat) :
    runActions (n + 1) (some (k + 1)) s = runActions n (some k) (event takeAction s) := by
  conv_lhs => unfold runActions
  rw [running]

theorem runActions_stop (n : Nat) (s : State) : runActions n (some 0) s = s := by
  cases n with
  | zero => rfl
  | succ n =>
    by_cases running : ∃ c, s.cue.list = .running c
    · obtain ⟨c, running⟩ := running
      unfold runActions
      rw [running]
    · exact runActions_of_not_running (fun c h => running ⟨c, h⟩) _ _

/-- With enough actions allowed, one more changes nothing. -/
theorem runActions_enough (n : Nat) (burst : Option Nat) (s : State) (enough : Enough n s) :
    runActions (n + 1) burst s = runActions n burst s := by
  induction n generalizing burst s with
  | zero =>
    have idle : ∀ c, s.cue.list ≠ .running c := fun c running => absurd (enough c running).1 (by omega)
    rw [runActions_of_not_running idle, runActions_of_not_running idle]
  | succ n ih =>
    by_cases runs : ∃ c, s.cue.list = .running c
    · obtain ⟨c, running⟩ := runs
      have later (rest : Option Nat) := ih rest (event takeAction s) (enough.next running)
      match burst with
      | some 0 => rw [runActions_stop, runActions_stop]
      | some (k + 1) => rw [runActions_some running, runActions_some running, later]
      | none => rw [runActions_all running, runActions_all running, later]
    · have idle : ∀ c, s.cue.list ≠ .running c := fun c running => runs ⟨c, running⟩
      rw [runActions_of_not_running idle, runActions_of_not_running idle]

theorem runActions_ends (n : Nat) (s : State) (enough : Enough n s) (c : ListContext) :
    (runActions n none s).cue.list ≠ .running c := by
  induction n generalizing s with
  | zero => exact fun running => absurd (enough c running).1 (by omega)
  | succ n ih =>
    by_cases runs : ∃ c, s.cue.list = .running c
    · obtain ⟨d, running⟩ := runs
      rw [runActions_all running]
      exact ih _ (enough.next running)
    · have idle : ∀ c, s.cue.list ≠ .running c := fun c running => runs ⟨c, running⟩
      rw [runActions_of_not_running idle]
      exact idle c

/-- A run is as many actions as it allows, of the 513 that any list ends within. -/
theorem runList_running {c : ListContext} (running : s.cue.list = .running c) (burst : Option Nat) :
    runList burst s = runActions 512 burst (event takeAction s) := by
  rw [runList, running]

theorem runActions_runList (burst : Option Nat) {n : Nat} (s : State) (enough : Enough n s) (allowed : n = 512) :
    runActions n (burst.map (· + 1)) s = runList burst s := by
  subst allowed
  by_cases runs : ∃ c, s.cue.list = .running c
  · obtain ⟨c, running⟩ := runs
    rw [runList_running running, runActions_enough 511 _ _ (enough.next running)]
    cases burst with
    | none => exact runActions_all running 511
    | some k => exact runActions_some running 511 k
  · have idle : ∀ c, s.cue.list ≠ .running c := fun c running => runs ⟨c, running⟩
    rw [runActions_of_not_running idle, runList_of_not_running idle]

/-- Settles O23: by the number of actions a list can still take. -/
theorem listRunEnds : Obligations.ListRunEnds := by
  intro s
  refine ⟨fun idle burst => runList_of_not_running idle burst, fun c running => ⟨?_, ?_, fun n => ?_⟩, fun c => ?_⟩
  · rw [runList_running running]
    exact runActions_runList none _ ((enough_run s).next running) rfl
  · rw [runList_running running, runActions_stop]
  · rw [runList_running running]
    exact runActions_runList (some n) _ ((enough_run s).next running) rfl
  · by_cases runs : ∃ c, s.cue.list = .running c
    · obtain ⟨d, running⟩ := runs
      rw [runList_running running]
      exact runActions_ends _ _ ((enough_run s).next running) c
    · have idle : ∀ c, s.cue.list ≠ .running c := fun c running => runs ⟨c, running⟩
      rw [runList_of_not_running idle]
      exact idle c

end Sys2Proof.Machine
end

section
/-! PROOFS. The transmit queue (R165 to R167) and the attempts on its head (R169 to R172). -/

namespace Sys2Proof.Machine

variable {s t : State} {f : Frame}

/-! ### Admission (R166, R167) -/

theorem handFrame_replaces (found : ∃ e ∈ s.bus.queue, f.body.replaces e.frame.body = true) :
    handFrame f s = s.modBus (replaceFrame f) := by
  have any : s.bus.queue.any (fun e => f.body.replaces e.frame.body) = true := List.any_eq_true.2 found
  unfold handFrame admission
  rw [any]
  rfl

theorem replaceFrame_attempt {b : Bus} {a : Attempt} (under : b.attempt = some a) :
    (replaceFrame f b).attempt =
      some (if b.queue.any (fun e => f.body.replaces e.frame.body && e.arrival == a.arrival) = true then
          { a with superseded := true }
        else a) := by
  simp only [replaceFrame, under, Option.map_some]

/-- The admission of a frame that replaces none. -/
theorem admission_new (new : ∀ e ∈ s.bus.queue, f.body.replaces e.frame.body = false) :
    admission s f.body =
      if (s.bus.txQuiet || s.stc.mode == .conflict) = true then .refused
      else if s.bus.queue.length < 8 then .joins
      else if displaceable s.bus f.body.cls = true then .displaces
      else .refused := by
  have any : s.bus.queue.any (fun e => f.body.replaces e.frame.body) = false :=
    List.any_eq_false.2 fun e mem => by simp [new e mem]
  unfold admission
  rw [any]
  rfl

theorem handFrame_refused (refused : admission s f.body = .refused) : handFrame f s = bump .txDropped s := by
  unfold handFrame
  rw [refused]

theorem handFrame_joins (joins : admission s f.body = .joins) : handFrame f s = s.modBus (joinFrame f) := by
  unfold handFrame
  rw [joins]

theorem handFrame_displaces (displaces : admission s f.body = .displaces) :
    handFrame f s = bump .txDropped (s.modBus fun b => joinFrame f { b with queue := b.queue.dropLast }) := by
  unfold handFrame
  rw [displaces]

/-- In a queue in order of class, a new entry stands between the classes up to its own and those beyond it (R165). -/
theorem insertByClass_eq (e : QueueEntry) {q : List QueueEntry} (order : q.Pairwise fun a b => a.cls ≤ b.cls) :
    insertByClass e q = q.filter (fun x => x.cls ≤ e.cls) ++ [e] ++ q.filter (fun x => e.cls < x.cls) := by
  induction q with
  | nil => rfl
  | cons x xs ih =>
    obtain ⟨least, order⟩ := List.pairwise_cons.1 order
    unfold insertByClass
    by_cases low : x.cls ≤ e.cls
    · rw [if_pos low, ih order]
      simp [low]
    · have none : xs.filter (fun y => decide (y.cls ≤ e.cls)) = [] :=
        List.filter_eq_nil_iff.2 fun y mem => by have := least y mem; simp; omega
      have all : xs.filter (fun y => decide (e.cls < y.cls)) = xs :=
        List.filter_eq_self.2 fun y mem => by have := least y mem; simp; omega
      have above : e.cls < x.cls := by omega
      rw [if_neg low]
      simp [low, none, all, above]

theorem QueueFit.classes {b : Bus} {round : Round} (h : QueueFit b round) : b.queue.Pairwise fun a b => a.cls ≤ b.cls :=
  h.order.imp fun before => by rcases before with less | ⟨same, -⟩ <;> omega

theorem cls_le (body : FrameBody) : body.cls ≤ 3 := by cases body <;> simp [FrameBody.cls]

theorem cls_of_reply {body : FrameBody} (reply : body.isReply = true) : body.cls = 3 := by
  cases body with
  | replyData | replyStatus => rfl
  | _ => cases reply

theorem displaceable_last {b : Bus} {keep : List QueueEntry} {last : QueueEntry} (queue : b.queue = keep ++ [last])
    (cls : Nat) :
    displaceable b cls = true ↔ cls < last.cls ∧ ∀ a, b.attempt = some a → a.arrival ≠ last.arrival := by
  have isLast : b.queue.getLast? = some last := by simp [queue]
  unfold displaceable underAttempt
  rw [isLast]
  cases b.attempt <;> simp

theorem displaceable_lowest {b : Bus} {cls : Nat} (lowest : 3 ≤ cls) : displaceable b cls = false := by
  unfold displaceable
  split
  · next v _ =>
    have := cls_le v.frame.body
    have : ¬cls < v.cls := by unfold QueueEntry.cls; omega
    simp [this]
  · rfl

/-- Settles O28: by the admission of the frame. -/
theorem queueAdmission : Obligations.QueueAdmission := by
  intro f s law
  have fit := (queueLaw_iff s).1 law
  refine ⟨fun found => ⟨_, rfl, ?_⟩, fun new => ?_⟩
  · rw [handFrame_replaces found]
    refine ⟨rfl, fun a under apart => ?_, fun a under entry => ?_, fun none => ?_, rfl⟩
    · have other : s.bus.queue.any (fun e => f.body.replaces e.frame.body && e.arrival == a.arrival) = false :=
        List.any_eq_false.2 fun e mem => by simpa using apart e mem
      show (replaceFrame f s.bus).attempt = _
      rw [replaceFrame_attempt under, other, if_neg Bool.false_ne_true]
    · have own : s.bus.queue.any (fun e => f.body.replaces e.frame.body && e.arrival == a.arrival) = true := by
        obtain ⟨e, mem, replaced, arrival⟩ := entry
        exact List.any_eq_true.2 ⟨e, mem, by simp [replaced, arrival]⟩
      show (replaceFrame f s.bus).attempt = _
      rw [replaceFrame_attempt under, own, if_pos rfl]
    · simp [State.modBus, replaceFrame, none]
  · have admitted := admission_new new
    refine ⟨fun silent => handFrame_refused ?_, fun quiet mode short => ?_, fun quiet mode full reply => handFrame_refused ?_,
      fun quiet mode full low keep last queue => ⟨fun stays => handFrame_refused ?_, fun lower apart => ?_⟩⟩
    · rw [admitted, if_pos]
      rcases silent with h | h <;> simp [h]
    all_goals
      have speaks : ¬(s.bus.txQuiet || s.stc.mode == .conflict) = true := by simp [quiet, mode]
      rw [if_neg speaks] at admitted
    · rw [if_pos short] at admitted
      rw [handFrame_joins admitted]
      unfold State.modBus joinFrame
      rw [insertByClass_eq _ fit.classes]
      rfl
    · rw [admitted, if_neg (by omega), displaceable_lowest (by rw [cls_of_reply reply])]
      rfl
    · rw [admitted, if_neg (by omega), if_neg]
      rw [displaceable_last queue]
      rintro ⟨lower, apart⟩
      rcases stays with high | ⟨a, under, arrival⟩
      · omega
      · exact apart a under arrival
    · rw [if_neg (by omega), if_pos ((displaceable_last queue _).2 ⟨lower, apart⟩)] at admitted
      have order : keep.Pairwise fun a b => a.cls ≤ b.cls := by
        have := fit.classes
        rw [queue] at this
        exact (List.pairwise_append.1 this).1
      have kept : s.bus.queue.dropLast = keep := by simp [queue]
      rw [handFrame_displaces admitted]
      unfold State.modBus joinFrame
      dsimp only
      rw [kept, insertByClass_eq _ order]
      rfl

/-! ### An attempt begins (R169) -/

theorem mayAttempt_iff (s : State) :
    mayAttempt s = true ↔ s.bus.txQuiet = false ∧ s.stc.mode ≠ .conflict ∧ s.bus.attempt = none := by
  simp [mayAttempt, and_assoc]

theorem exec_txAttempt_eq (s : State) :
    exec .txAttempt s =
      .next (match s.bus.queue with
        | [] => s
        | head :: rest =>
          if mayAttempt s then
            s.modBus fun b =>
              { beginAttempt head rest b with
                idleMicros := max b.idleMicros (startDelay s head.frame.body * s.characterTime) }
          else s) := rfl

/-- Settles O29: the head is attempted where nothing forbids it, and no two stations' start delays meet. -/
theorem attemptBegins : Obligations.AttemptBegins := by
  refine ⟨fun head rest s queue quiet mode free => ?_, fun s silent => ?_, fun s s' c c' station station' differ le le' y y' => ?_⟩
  · have delay : startDelay s head.frame.body = 3 + 64 * head.frame.body.cls + s.number +
        if s.bus.yieldOwed = true ∧ head.frame.body.isEvac = false then 192 else 0 := by
      simp [startDelay, gapChars]
    rw [exec_txAttempt_eq, queue]
    dsimp only
    rw [if_pos ((mayAttempt_iff s).2 ⟨quiet, mode, free⟩), delay]
    rfl
  · rw [exec_txAttempt_eq]
    split
    · rfl
    · next head rest queue =>
      rw [if_neg]
      rw [mayAttempt_iff]
      rintro ⟨quiet, mode, free⟩
      simp_all
  · simp only [isStation, Bool.and_eq_true, decide_eq_true_eq] at station station'
    cases y <;> cases y' <;> simp only [Bool.true_eq_false, Bool.false_eq_true, imp_false, if_true, if_false, implies_true] <;> omega

/-! ### An attempt ends (R171, R172) -/

/-- A state that differs at the line, in the round and in the counters publishes the same. -/
theorem published_line (line : t = { s with bus := t.bus, probe := t.probe, counters := t.counters }) :
    published t = published s := by
  rw [line]
  rfl

theorem abortRound_count (conflict : Bool) (s : State) (k : Counter) :
    (abortRound conflict s).count k = if k = .probeAborts then satInc (s.count k) else s.count k := by
  unfold abortRound
  rw [count_bump]
  rfl

theorem emptyQueue_count (s : State) (k : Counter) :
    (emptyQueue s).count k = if k = .txDropped then satIncBy s.bus.queue.length (s.count k) else s.count k :=
  count_bumpBy s.bus.queue.length .txDropped k s

/-- TX_QUIET before the round follows (R172). -/
def quieted (s : State) : State :=
  (bump .txQuietEntries (emptyQueue s)).modBus fun b => { b with txQuiet := true, recovery := 0 }

theorem quieted_count (s : State) (k : Counter) :
    (quieted s).count k =
      if k = .txQuietEntries then satInc (s.count k)
      else if k = .txDropped then satIncBy s.bus.queue.length (s.count k) else s.count k := by
  show (bump .txQuietEntries (emptyQueue s)).count k = _
  rw [count_bump, emptyQueue_count]
  by_cases entries : k = .txQuietEntries
  · subst entries
    rfl
  · rw [if_neg entries, if_neg entries]

theorem enterTxQuiet_aborts (waits : s.probe.round = .waking ∨ s.probe.round = .marking) :
    enterTxQuiet s = abortRound false (quieted s) := by
  unfold enterTxQuiet
  dsimp only
  split
  · rfl
  · rfl
  · next idle => rcases waits with h | h <;> cases h.symm.trans idle
  · next emitting => rcases waits with h | h <;> cases h.symm.trans emitting

theorem enterTxQuiet_stays (rests : s.probe.round = .idle ∨ s.probe.round = .emitting) : enterTxQuiet s = quieted s := by
  unfold enterTxQuiet
  dsimp only
  split
  · next waking => rcases rests with h | h <;> cases h.symm.trans waking
  · next marking => rcases rests with h | h <;> cases h.symm.trans marking
  · rfl
  · rfl

/-- With a MARK on the line, its entry is the one MARK that waits, and no other has its place of arrival. -/
theorem QueueFit.driven_iff {b : Bus} {round : Round} (h : QueueFit b round) {a : Attempt} (under : b.attempt = some a)
    (isMark : a.frame.body.isMark = true) {e : QueueEntry} (mem : e ∈ b.queue) :
    e.arrival = a.arrival ↔ e.frame.body.isMark = true := by
  refine ⟨fun same => ?_, h.onlyMark under isMark mem⟩
  obtain ⟨-, -, e', mem', mark, entry⟩ := h.driven a under isMark
  rw [h.unique mem mem' (same.trans entry.symm)]
  exact mark

theorem exec_txSuccess_eq {a : Attempt} (under : s.bus.attempt = some a) :
    exec .txSuccess s =
      .next (finishEvent s
        (if a.frame.body.isMark then ownEndOfMark s.timeBase (bump .txGood (s.modBus (attemptSucceeded a)))
         else bump .txGood (s.modBus (attemptSucceeded a)))) := by
  show Host.Outcome.next (finishEvent s _) = _
  dsimp only
  rw [under]
  rfl

/-- The queue after a success, said by the entries that leave. -/
theorem succeeded_queue (a : Attempt) (q : List QueueEntry) :
    (if a.superseded then q else q.filter fun e => e.arrival != a.arrival) =
      q.filter fun e => !(!a.superseded && e.arrival == a.arrival) := by
  cases a.superseded
  · rfl
  · simp

/-- Settles O30: the attempt leaves the line, and a MARK's end goes to the Probe Unit. -/
theorem attemptSucceeds : Obligations.AttemptSucceeds := by
  intro a s lawful under gone bus
  have succeeded : attemptSucceeded a s.bus = bus := by
    unfold attemptSucceeded
    rw [succeeded_queue]
    show Bus.mk .. = Bus.mk ..
    congr 1
  have good : s.modBus (attemptSucceeded a) = { s with bus := bus } := by
    unfold State.modBus
    rw [succeeded]
  rw [exec_txSuccess_eq under, good]
  refine ⟨fun other => ?_, fun isMark => ?_⟩
  · rw [other, if_neg Bool.false_ne_true, finishEvent_quiet (published_line rfl)]
  · have marking : s.probe.round = .marking := by
      obtain ⟨round, -⟩ := ((queueLaw_iff s).1 lawful.queue).driven a under isMark
      exact round
    rw [if_pos isMark]
    unfold ownEndOfMark
    rw [if_pos (show (bump .txGood { s with bus := bus }).probe.round = .marking from marking),
      finishEvent_quiet (published_line rfl)]
    refine ⟨_, rfl, rfl, fun k => ?_, rfl, rfl, rfl, rfl, rfl, rfl, rfl, fun i reserved => ?_, fun i other => ?_, rfl⟩
    · rw [count_bump]
      show (if k = .probeRounds then satInc ((bump .txGood _).count k) else (bump .txGood _).count k) = _
      rw [count_bump]
      by_cases rounds : k = .probeRounds
      · subst rounds
        rfl
      · simp only [rounds, if_false, or_false]
        rfl
    · show (mapVector (Slot.openSelf s.timeBase) s.probe.slots)[i] = _
      rw [mapVector_get, reserved]
      rfl
    · show (mapVector (Slot.openSelf s.timeBase) s.probe.slots)[i] = _
      obtain ⟨slots, -⟩ := lawful.slots
      have state := slots i
      rw [mapVector_get]
      cases slot : s.probe.slots[i] with
      | free => rfl
      | opened w => rfl
      | reserved o =>
        rw [slot] at state other
        exact absurd (congrArg Slot.reserved state.1) other

end Sys2Proof.Machine
end

section
/-! PROOFS. A failed attempt (R171, R172, R30, R32, R168): what a collision does, and TX_QUIET after too many of them. -/

namespace Sys2Proof.Machine

variable {s t : State} {a : Attempt}

/-- The state after a failure, with TX_QUIET where TFC has reached 64. -/
def failed (a : Attempt) (s : State) : State :=
  if 64 ≤ (collided a s).bus.tfc then enterTxQuiet (collided a s) else collided a s

theorem exec_txCollision_eq (under : s.bus.attempt = some a) : exec .txCollision s = .next (finishEvent s (failed a s)) := by
  show Host.Outcome.next (finishEvent s _) = _
  dsimp only
  rw [under]
  rfl

theorem collided_kept (keeps : a.dropOnFailure = false) :
    collided a s = bump .txCollision { s with bus := { s.bus with attempt := none, tfc := s.bus.tfc + 8 } } := by
  unfold collided
  dsimp only
  rw [keeps, if_neg Bool.false_ne_true]
  unfold State.modBus attemptFailed
  rw [keeps, if_neg Bool.false_ne_true]

theorem collided_dropped (drops : a.dropOnFailure = true) :
    collided a s = abortRound false (bump .txCollision (s.modBus (attemptFailed a))) := by
  unfold collided
  dsimp only
  rw [if_pos drops]

/-- The entries that a failure leaves. -/
def leftAfter (a : Attempt) (q : List QueueEntry) : List QueueEntry :=
  q.filter fun e => !(a.dropOnFailure && e.arrival == a.arrival)

theorem collided_count (a : Attempt) (s : State) (k : Counter) :
    (collided a s).count k =
      if k = .txCollision then satInc (s.count k)
      else if k = .probeAborts ∧ a.dropOnFailure = true then satInc (s.count k) else s.count k := by
  have counted : (bump .txCollision (s.modBus (attemptFailed a))).count k =
      if k = .txCollision then satInc (s.count k) else s.count k := count_bump .txCollision k _
  cases drops : a.dropOnFailure with
  | false =>
    rw [collided_kept drops, count_bump]
    simp only [Bool.false_eq_true, and_false, if_false]
    rfl
  | true =>
    rw [collided_dropped drops, abortRound_count, counted]
    by_cases aborts : k = .probeAborts
    · subst aborts
      rfl
    · simp [aborts]

theorem collided_bus (a : Attempt) (s : State) :
    (collided a s).bus.attempt = none ∧ (collided a s).bus.tfc = s.bus.tfc + 8 ∧
    (collided a s).bus.yieldOwed = s.bus.yieldOwed ∧ (collided a s).bus.assembly = s.bus.assembly ∧
    (collided a s).bus.txQuiet = s.bus.txQuiet := by
  cases drops : a.dropOnFailure with
  | false => rw [collided_kept drops]; exact ⟨rfl, rfl, rfl, rfl, rfl⟩
  | true => rw [collided_dropped drops]; exact ⟨rfl, rfl, rfl, rfl, rfl⟩

/-- What a dropped MARK leaves of the queue, said by kind or by place of arrival: it is the one MARK. -/
theorem collided_queue (fit : QueueFit s.bus s.probe.round) (under : s.bus.attempt = some a)
    (isMark : a.dropOnFailure = true → a.frame.body.isMark = true) :
    (collided a s).bus.queue = leftAfter a s.bus.queue ∧
    (a.dropOnFailure = true → leftAfter a s.bus.queue = s.bus.queue.filter fun e => !e.frame.body.isMark) := by
  cases drops : a.dropOnFailure with
  | false =>
    rw [collided_kept drops]
    refine ⟨?_, fun h => Bool.noConfusion h⟩
    unfold leftAfter
    rw [drops]
    simp [bump]
  | true =>
    have same {e : QueueEntry} (mem : e ∈ s.bus.queue) : (e.arrival == a.arrival) = e.frame.body.isMark := by
      rw [Bool.eq_iff_iff, beq_iff_eq]
      exact fit.driven_iff under (isMark drops) mem
    have left : leftAfter a s.bus.queue = s.bus.queue.filter fun e => !e.frame.body.isMark := by
      unfold leftAfter
      rw [drops]
      exact List.filter_congr fun e mem => by rw [Bool.true_and, same mem]
    refine ⟨?_, fun _ => left⟩
    rw [collided_dropped drops, left]
    show ((attemptFailed a s.bus).queue).filter (fun e => !e.frame.body.isMark) = _
    unfold attemptFailed
    rw [drops, if_pos rfl, List.filter_filter]
    exact List.filter_congr fun e mem => by rw [bne, same mem, Bool.and_self]

theorem collided_probe (drops : a.dropOnFailure = true) :
    (collided a s).probe.round = .idle ∧ (collided a s).probe.timer = some 5000000 := by
  rw [collided_dropped drops]
  exact ⟨rfl, rfl⟩

theorem collided_probe_kept (keeps : a.dropOnFailure = false) : (collided a s).probe = s.probe := by
  rw [collided_kept keeps]
  rfl

theorem collided_line (a : Attempt) (s : State) :
    collided a s =
      { s with bus := (collided a s).bus, counters := (collided a s).counters, probe := (collided a s).probe } := by
  cases drops : a.dropOnFailure with
  | false => rw [collided_kept drops]; rfl
  | true => rw [collided_dropped drops]; rfl

theorem enterTxQuiet_line (s : State) :
    enterTxQuiet s =
      { s with bus := (enterTxQuiet s).bus, counters := (enterTxQuiet s).counters, probe := (enterTxQuiet s).probe } := by
  cases round : s.probe.round with
  | idle => rw [enterTxQuiet_stays (.inl round)]; rfl
  | waking => rw [enterTxQuiet_aborts (.inl round)]; rfl
  | marking => rw [enterTxQuiet_aborts (.inr round)]; rfl
  | emitting => rw [enterTxQuiet_stays (.inr round)]; rfl

theorem failed_line (a : Attempt) (s : State) :
    failed a s = { s with bus := (failed a s).bus, counters := (failed a s).counters, probe := (failed a s).probe } := by
  unfold failed
  split
  · rw [enterTxQuiet_line, collided_line]
  · rw [collided_line]

/-- Fault confinement counts every entry, its own entry and the round that it aborts (R172). -/
theorem enterTxQuiet_count (s : State) (k : Counter) :
    (enterTxQuiet s).count k =
      if k = .txQuietEntries then satInc (s.count k)
      else if k = .txDropped then satIncBy s.bus.queue.length (s.count k)
      else if k = .probeAborts ∧ (s.probe.round = .waking ∨ s.probe.round = .marking) then satInc (s.count k)
      else s.count k := by
  by_cases waits : s.probe.round = .waking ∨ s.probe.round = .marking
  · rw [enterTxQuiet_aborts waits, abortRound_count, quieted_count]
    by_cases aborts : k = .probeAborts
    · subst aborts
      simp [waits]
    · simp [aborts]
  · have rests : s.probe.round = .idle ∨ s.probe.round = .emitting := by
      cases round : s.probe.round <;> simp_all
    rw [enterTxQuiet_stays rests, quieted_count]
    simp [waits]

theorem enterTxQuiet_bus (s : State) :
    (enterTxQuiet s).bus = { s.bus with queue := [], attempt := none, txQuiet := true, recovery := 0 } := by
  by_cases waits : s.probe.round = .waking ∨ s.probe.round = .marking
  · rw [enterTxQuiet_aborts waits]
    rfl
  · have rests : s.probe.round = .idle ∨ s.probe.round = .emitting := by
      cases round : s.probe.round <;> simp_all
    rw [enterTxQuiet_stays rests]
    rfl

/-- Settles O31: a collision, and the fault confinement that follows where TFC has reached 64. -/
theorem attemptFails : Obligations.AttemptFails := by
  intro a s lawful under
  have fit := (queueLaw_iff s).1 lawful.queue
  have isMark : a.dropOnFailure = true → a.frame.body.isMark = true := by
    obtain ⟨-, -, -, -, -, -, -, dropped⟩ := lawful.round
    exact dropped a under
  obtain ⟨attempt, tfc, yield, assembly, txQuiet⟩ := collided_bus a s
  obtain ⟨queue, marks⟩ := collided_queue fit under isMark
  obtain ⟨speaks, -, -⟩ := lawful.line.driving under
  have quiet : finishEvent s (failed a s) = failed a s := finishEvent_quiet (published_line (failed_line a s))
  refine ⟨failed a s, by rw [exec_txCollision_eq under, quiet], ?_⟩
  by_cases high : 64 ≤ s.bus.tfc + 8
  · have entered : failed a s = enterTxQuiet (collided a s) := if_pos (by rw [tfc]; exact high)
    have line := failed_line a s
    rw [entered] at line ⊢
    have aborts : (if a.dropOnFailure = true ∨ 64 ≤ s.bus.tfc + 8 ∧ (s.probe.round = .waking ∨ s.probe.round = .marking)
        then satInc (s.count .probeAborts) else s.count .probeAborts) =
        (enterTxQuiet (collided a s)).count .probeAborts := by
      rw [enterTxQuiet_count, collided_count]
      cases drops : a.dropOnFailure with
      | false => simp [collided_probe_kept drops, high]
      | true => simp [(collided_probe drops).1]
    refine ⟨by rw [enterTxQuiet_bus], by rw [enterTxQuiet_bus]; exact tfc, ?_, by rw [enterTxQuiet_bus]; exact yield,
      by rw [enterTxQuiet_bus]; exact assembly, ?_, aborts.symm, fun k h1 h2 h3 h4 => ?_, fun low => absurd high (by omega),
      fun low => absurd high (by omega), fun _ => ⟨?_, ?_, ?_, ?_, fun waits => ?_, fun rests => ?_⟩, line⟩
    · simp [enterTxQuiet_count, collided_count]
    · intro left
      rw [if_pos high, enterTxQuiet_count, queue]
      simp only [reduceCtorEq, if_false, if_true]
      rw [satIncBy_toNat, collided_count]
      simp only [reduceCtorEq, if_false, false_and]
      rfl
    · simp [enterTxQuiet_count, collided_count, h1, h2, h3, h4]
    · rw [enterTxQuiet_bus]
    · rw [enterTxQuiet_bus]
    · rw [enterTxQuiet_bus]
    · simp [enterTxQuiet_count, collided_count]
    · cases drops : a.dropOnFailure with
      | false =>
        rw [enterTxQuiet_aborts (by rw [collided_probe_kept drops]; exact waits)]
        exact ⟨rfl, rfl⟩
      | true =>
        rw [enterTxQuiet_stays (.inl (collided_probe drops).1)]
        exact collided_probe (s := s) drops
    · have keeps : a.dropOnFailure = false := by
        by_contra drops
        obtain ⟨marking, -⟩ := fit.driven a under (isMark (by simpa using drops))
        rw [marking] at rests
        rcases rests with h | h <;> cases h
      rw [enterTxQuiet_stays (by rw [collided_probe_kept keeps]; exact rests)]
      exact collided_probe_kept (s := s) keeps
  · have entered : failed a s = collided a s := if_neg (by rw [tfc]; exact high)
    have line := failed_line a s
    rw [entered] at line ⊢
    have aborts : (if a.dropOnFailure = true ∨ 64 ≤ s.bus.tfc + 8 ∧ (s.probe.round = .waking ∨ s.probe.round = .marking)
        then satInc (s.count .probeAborts) else s.count .probeAborts) = (collided a s).count .probeAborts := by
      rw [collided_count]
      simp [high]
    refine ⟨attempt, tfc, by simp [collided_count], yield, assembly, ?_, aborts.symm, fun k h1 h2 h3 h4 => ?_,
      fun _ keeps => ?_, fun _ drops => ⟨queue.trans (marks drops), (collided_probe drops).1, (collided_probe drops).2,
        txQuiet.trans speaks, ?_⟩, fun confined => absurd confined high, line⟩
    · intro left
      rw [if_neg high, collided_count]
      simp
    · simp [collided_count, h1, h3]
    · exact collided_kept keeps
    · simp [collided_count, drops]

end Sys2Proof.Machine
end

section
/-! PROOFS. The probe round follows its channel (R25, R26, R30, R31): what a change of power state hands to the Probe Unit,
and what a chain of such changes leaves of it. -/

namespace Sys2Proof.Machine

variable {s t u : State} {c : Fin 4} {p q : Power}

/-! ### A hand-over rests on the line and the mode -/

theorem handFrame_bus_congr (f : Frame) (bus : t.bus = s.bus) (stc : t.stc = s.stc) :
    (handFrame f t).bus = (handFrame f s).bus := by
  have same : admission t f.body = admission s f.body := by
    unfold admission
    rw [bus, stc]
  unfold handFrame
  rw [same]
  split
  · exact congrArg (replaceFrame f) bus
  · exact congrArg (joinFrame f) bus
  · exact congrArg (fun b : Bus => joinFrame f { b with queue := b.queue.dropLast }) bus
  · exact bus

/-- A hand-over counts at most one dropped frame. -/
theorem handFrame_count (f : Frame) (s : State) (k : Counter) :
    (handFrame f s).count k =
      if k = .txDropped ∧ (admission s f.body = .displaces ∨ admission s f.body = .refused) then satInc (s.count k)
      else s.count k := by
  unfold handFrame
  cases admission s f.body with
  | replaces => simp; rfl
  | joins => simp; rfl
  | displaces =>
    rw [count_bump]
    simp only [true_or, and_true]
    rfl
  | refused => simp

theorem handFrame_count_congr (f : Frame) {k : Counter} (bus : t.bus = s.bus) (stc : t.stc = s.stc)
    (count : t.count k = s.count k) : (handFrame f t).count k = (handFrame f s).count k := by
  have same : admission t f.body = admission s f.body := by
    unfold admission
    rw [bus, stc]
  rw [handFrame_count, handFrame_count, same, count]

/-! ### The abort of a round (R30 to R32) -/

/-- A round is aborted, with the self window of an emission. -/
def cutRound (conflict : Bool) (s : State) : State :=
  if s.probe.round = .emitting then cancelSelfWindow (abortRound conflict s) else abortRound conflict s

theorem toList_two {α : Type} (v : Vector α 2) : v.toList = [v[0], v[1]] := by
  apply List.ext_getElem
  · simp
  · intro n h1 h2
    match n, h2 with
    | 0, _ => simp
    | 1, _ => simp

theorem abortRound_cancelled (conflict : Bool) (s : State) :
    ((abortRound conflict s).probe.slots.toList.filter (·.openFor (· == s.number))).length =
      s.probe.slots.toList.countP fun slot => slot.openFor (· == s.number) := by
  show ((mapVector Slot.freeReserved s.probe.slots).toList.filter _).length = _
  rw [← List.countP_eq_length_filter, toList_two, toList_two]
  have freed (slot : Slot) : slot.freeReserved.openFor (· == s.number) = slot.openFor (· == s.number) := by
    cases slot <;> rfl
  have zero : (mapVector Slot.freeReserved s.probe.slots)[0] = s.probe.slots[0].freeReserved := mapVector_get _ _ (0 : Fin 2)
  have one : (mapVector Slot.freeReserved s.probe.slots)[1] = s.probe.slots[1].freeReserved := mapVector_get _ _ (1 : Fin 2)
  rw [zero, one]
  simp only [List.countP_cons, List.countP_nil, freed]

theorem selfWindows_emitting (emitting : s.probe.round = .emitting) :
    selfWindows s = s.probe.slots.toList.countP fun slot => slot.openFor (· == s.number) := by
  unfold selfWindows
  congr 1
  funext slot
  cases slot with
  | opened w => simp [emitting, Slot.openFor]
  | _ => rfl

theorem selfWindows_other (other : s.probe.round ≠ .emitting) : selfWindows s = 0 := by
  unfold selfWindows
  rw [List.countP_eq_zero]
  intro slot _
  cases slot with
  | opened w => simp [other]
  | _ => simp

theorem cutRound_count (conflict : Bool) (s : State) (k : Counter) :
    (cutRound conflict s).count k =
      if k = .probeAborts then satInc (s.count k)
      else if k = .capturesCancelled then satIncBy (selfWindows s) (s.count k) else s.count k := by
  unfold cutRound
  split
  · next emitting =>
    have cut : (cancelSelfWindow (abortRound conflict s)).count k =
        if k = .capturesCancelled then satIncBy (selfWindows s) ((abortRound conflict s).count k)
        else (abortRound conflict s).count k := by
      rw [selfWindows_emitting emitting, ← abortRound_cancelled conflict s]
      exact count_bumpBy _ .capturesCancelled k _
    rw [cut, abortRound_count]
    by_cases aborts : k = .probeAborts
    · subst aborts
      rfl
    · simp only [aborts, if_false]
  · next other =>
    rw [abortRound_count, selfWindows_other other]
    simp only [satIncBy, ite_self]

theorem cutRound_bus (conflict : Bool) (s : State) :
    (cutRound conflict s).bus =
      { s.bus with
        queue := s.bus.queue.filter fun e => !e.frame.body.isMark
        attempt := s.bus.attempt.filter fun a => !a.frame.body.isMark } := by
  unfold cutRound
  split <;> rfl

theorem cutRound_line (conflict : Bool) (s : State) :
    cutRound conflict s =
      { s with
        bus := (cutRound conflict s).bus, probe := (cutRound conflict s).probe
        counters := (cutRound conflict s).counters } := by
  unfold cutRound
  split <;> rfl

/-- The Probe Unit after an abort. -/
def ProbeUnit.cut (conflict : Bool) (number : Nat) (u : ProbeUnit) : ProbeUnit :=
  { u with
    round := .idle
    timer := if conflict then none else some 5000000
    deadline := none
    startsAt := none
    started := false
    lag := 0
    position := 0
    slots :=
      if u.round = .emitting then mapVector (Slot.cancel (· == number)) (mapVector Slot.freeReserved u.slots)
      else mapVector Slot.freeReserved u.slots }

theorem cutRound_probe (conflict : Bool) (s : State) : (cutRound conflict s).probe = s.probe.cut conflict s.number := by
  unfold cutRound ProbeUnit.cut
  by_cases emitting : s.probe.round = .emitting
  · rw [if_pos emitting, if_pos emitting]
    rfl
  · rw [if_neg emitting, if_neg emitting]
    rfl

/-- What an abort leaves in a slot. -/
theorem cutRound_slot (conflict : Bool) (s : State) (i : Fin 2) :
    (cutRound conflict s).probe.slots[i] =
      if s.probe.round = .emitting then Slot.cancel (· == s.number) s.probe.slots[i].freeReserved
      else s.probe.slots[i].freeReserved := by
  unfold cutRound
  split
  · show (mapVector (Slot.cancel (· == s.number)) (mapVector Slot.freeReserved s.probe.slots))[i] = _
    rw [mapVector_get, mapVector_get]
  · exact mapVector_get _ _ i

theorem cutRound_aborted (conflict : Bool) (s : State) :
    RoundAborted (if conflict then none else some 5000000) s (cutRound conflict s) := by
  refine ⟨by rw [cutRound_probe]; rfl, fun i => ?_, fun e mem => ?_, fun a under => ?_, ?_, ?_⟩
  · refine ⟨fun free => ?_, fun o reserved => ?_, fun w opened => ?_⟩
    · rw [cutRound_slot, free]
      split <;> rfl
    · rw [cutRound_slot, reserved]
      split <;> rfl
    · rw [cutRound_slot, opened]
      by_cases emitting : s.probe.round = .emitting
      · rw [if_pos emitting]
        simp [emitting, Slot.freeReserved, Slot.cancel]
      · rw [if_neg emitting, if_neg fun both => emitting both.2]
        rfl
  · rw [cutRound_bus] at mem
    simpa using (List.mem_filter.1 mem).2
  · rw [cutRound_bus] at under
    simpa using (Option.filter_eq_some_iff.1 under).2
  · simp [cutRound_count]
  · rw [cutRound_count]
    simp only [reduceCtorEq, if_false, if_true]
    exact satIncBy_toNat _ _

/-! ### What the round does -/

/-- What a power state of the probe channel makes of a round (R25, R31). -/
inductive RoundMove where
  | stays
  | marks
  | cuts

/-- The move of a round when its channel enters a power state. -/
def roundMove (p : Power) : Round → RoundMove
  | .idle => .stays
  | .waking =>
    match p with
    | .active | .watch => .marks
    | .fault | .forcedOff => .cuts
    | .standby | .waking => .stays
  | .marking | .emitting => if p.gateOpen then .stays else .cuts

theorem roundMove_marks_iff {round : Round} : roundMove p round = .marks ↔ round = .waking ∧ p.gateOpen = true := by
  cases round with
  | idle => simp [roundMove]
  | waking => cases p <;> simp [roundMove, Power.gateOpen]
  | marking => cases gate : p.gateOpen <;> simp [roundMove, gate]
  | emitting => cases gate : p.gateOpen <;> simp [roundMove, gate]

theorem probeFollows_eq (p : Power) (s : State) :
    probeFollows p s =
      match roundMove p s.probe.round with
      | .stays => s
      | .marks => enterMarking s
      | .cuts => cutRound false s := by
  unfold probeFollows
  cases round : s.probe.round with
  | idle => rfl
  | waking =>
    have cut : cutRound false s = abortRound false s := if_neg (by simp [round])
    cases p <;> simp [roundMove, cut]
  | marking =>
    have cut : cutRound false s = abortRound false s := if_neg (by simp [round])
    cases gate : p.gateOpen <;> simp [roundMove, gate, cut]
  | emitting =>
    have cut : cutRound false s = cancelSelfWindow (abortRound false s) := if_pos round
    cases gate : p.gateOpen <;> simp [roundMove, gate, cut]

theorem enterMarking_bus (s : State) : (enterMarking s).bus = (handFrame ⟨s.number, 63, .mark⟩ s).bus :=
  handFrame_bus_congr _ rfl rfl

theorem enterMarking_count (s : State) (k : Counter) :
    (enterMarking s).count k = (handFrame ⟨s.number, 63, .mark⟩ s).count k :=
  handFrame_count_congr _ rfl rfl rfl

theorem enterMarking_line (s : State) :
    enterMarking s =
      { s with
        bus := (enterMarking s).bus, probe := (enterMarking s).probe, counters := (enterMarking s).counters } := by
  conv_lhs => rw [enterMarking, handFrame_eq]
  rw [enterMarking_probe]
  rfl

theorem probeFollows_line (p : Power) (s : State) :
    probeFollows p s =
      { s with
        bus := (probeFollows p s).bus, probe := (probeFollows p s).probe
        counters := (probeFollows p s).counters } := by
  rw [probeFollows_eq]
  split
  · rfl
  · exact enterMarking_line s
  · exact cutRound_line false s

/-- The round rests on the line, the Probe Unit and the own number alone. -/
theorem probeFollows_congr (p : Power) (bus : t.bus = s.bus) (probe : t.probe = s.probe) (stc : t.stc = s.stc) :
    (probeFollows p t).bus = (probeFollows p s).bus ∧ (probeFollows p t).probe = (probeFollows p s).probe ∧
    ∀ k, t.count k = s.count k → (probeFollows p t).count k = (probeFollows p s).count k := by
  have number : t.number = s.number := by rw [State.number, stc, State.number]
  rw [probeFollows_eq, probeFollows_eq, probe]
  split
  · exact ⟨bus, probe, fun _ count => count⟩
  · refine ⟨?_, by rw [enterMarking_probe, enterMarking_probe, probe], fun k count => ?_⟩
    · rw [enterMarking_bus, enterMarking_bus, number]
      exact handFrame_bus_congr _ bus stc
    · rw [enterMarking_count, enterMarking_count, number]
      exact handFrame_count_congr _ bus stc count
  · have windows : selfWindows t = selfWindows s := by
      unfold selfWindows
      rw [probe, number]
    refine ⟨by rw [cutRound_bus, cutRound_bus, bus], by rw [cutRound_probe, cutRound_probe, probe, number], fun k count => ?_⟩
    rw [cutRound_count, cutRound_count, windows, count]

/-! ### A channel moves, and the round with it -/

/-- The round follows a channel's entry into a power state, where it is the probe channel. -/
def followed (c : Fin 4) (p : Power) (s : State) : State := if s.probeChannel = some c then probeFollows p s else s

theorem followed_line (c : Fin 4) (p : Power) (s : State) :
    followed c p s =
      { s with bus := (followed c p s).bus, probe := (followed c p s).probe, counters := (followed c p s).counters } := by
  unfold followed
  split
  · exact probeFollows_line p s
  · rfl

theorem followed_congr (c : Fin 4) (p : Power) (bus : t.bus = s.bus) (probe : t.probe = s.probe) (stc : t.stc = s.stc)
    (image : t.image = s.image) :
    (followed c p t).bus = (followed c p s).bus ∧ (followed c p t).probe = (followed c p s).probe ∧
    ∀ k, t.count k = s.count k → (followed c p t).count k = (followed c p s).count k := by
  unfold followed State.probeChannel
  rw [image]
  split
  · exact probeFollows_congr p bus probe stc
  · exact ⟨bus, probe, fun _ count => count⟩

theorem followed_count_other (c : Fin 4) (p : Power) (s : State) {k : Counter} (dropped : k ≠ .txDropped)
    (aborts : k ≠ .probeAborts) (cancelled : k ≠ .capturesCancelled) : (followed c p s).count k = s.count k := by
  unfold followed
  split
  · rw [probeFollows_eq]
    split
    · rfl
    · simp [enterMarking_count, handFrame_count, dropped]
    · simp [cutRound_count, aborts, cancelled]
  · rfl

/-- From `s` to `t` one channel has moved, at last into a power state, and the round has followed it. -/
structure Follows (c : Fin 4) (p : Power) (s t : State) : Prop where
  bus : t.bus = (followed c p s).bus
  probe : t.probe = (followed c p s).probe
  count : ∀ k, k ≠ .wakeLosses → t.count k = (followed c p s).count k
  others : ∀ d : Fin 4, d ≠ c → t.channels[d] = s.channels[d]
  frame : t = { s with channels := t.channels, probe := t.probe, bus := t.bus, counters := t.counters }

theorem repowered_count (c : Fin 4) (p : Power) (cause : Option FaultCause) (s : State) (k : Counter) :
    (repowered c p cause s).count k =
      if k = .wakeLosses ∧ s.channels[c].power = .waking ∧ s.channels[c].wakeLoss = true then satInc (s.count k)
      else s.count k := by
  unfold repowered
  split
  · next lost =>
    rw [count_bumpBy]
    simp only [lost, and_true, satIncBy_one]
    rfl
  · next kept =>
    rw [bumpBy_zero]
    simp only [kept, and_false, if_false]
    rfl

theorem setPower_followed {cause : Option FaultCause} (differ : s.channels[c].power ≠ p) :
    setPower c p cause s = followed c p (repowered c p cause s) := setPower_eq cause differ

theorem setPower_channel_self {cause : Option FaultCause} (differ : s.channels[c].power ≠ p) :
    (setPower c p cause s).channels[c] =
      s.channels[c].toPower p cause (s.standbyDelay * 1000000) (s.wakeLimit c * 1000) := by
  rw [setPower_followed differ, followed_line]
  exact repowered_self c p cause s

theorem setPower_wakeLosses {cause : Option FaultCause} (differ : s.channels[c].power ≠ p) :
    (setPower c p cause s).count .wakeLosses =
      if s.channels[c].power = .waking ∧ s.channels[c].wakeLoss = true then satInc (s.count .wakeLosses)
      else s.count .wakeLosses := by
  rw [setPower_followed differ, followed_count_other _ _ _ (by decide) (by decide) (by decide), repowered_count]
  simp only [true_and]

/-- One change of power state. -/
theorem Follows.setPower {cause : Option FaultCause} (differ : s.channels[c].power ≠ p) :
    Follows c p s (setPower c p cause s) := by
  obtain ⟨bus, probe, count⟩ :=
    followed_congr (s := s) (t := repowered c p cause s) c p rfl rfl rfl rfl
  rw [setPower_followed differ]
  refine ⟨bus, probe, fun k other => count k ?_, fun d elsewhere => ?_, ?_⟩
  · rw [repowered_count]
    simp [other]
  · rw [followed_line]
    exact repowered_other elsewhere p cause s
  · rw [followed_line]
    rfl

theorem Follows.image (h : Follows c p s t) : t.image = s.image := by rw [h.frame]
theorem Follows.stc (h : Follows c p s t) : t.stc = s.stc := by rw [h.frame]

/-- A move that the round lets pass, or starts it, and a further one that then changes nothing of it. -/
theorem Follows.trans (first : Follows c p s t) (second : Follows c q t u)
    (passes : s.probeChannel = some c →
      roundMove p s.probe.round = .stays ∨ roundMove p s.probe.round = .marks ∧ q.gateOpen = true) :
    Follows c q s u := by
  have same : (followed c q t).bus = (followed c q s).bus ∧ (followed c q t).probe = (followed c q s).probe ∧
      ∀ k, k ≠ .wakeLosses → (followed c q t).count k = (followed c q s).count k := by
    have stays (bus : t.bus = s.bus) (probe : t.probe = s.probe) (count : ∀ k, k ≠ .wakeLosses → t.count k = s.count k) :
        (followed c q t).bus = (followed c q s).bus ∧ (followed c q t).probe = (followed c q s).probe ∧
        ∀ k, k ≠ .wakeLosses → (followed c q t).count k = (followed c q s).count k := by
      obtain ⟨bus, probe, counts⟩ := followed_congr c q bus probe first.stc first.image
      exact ⟨bus, probe, fun k other => counts k (count k other)⟩
    obtain ⟨bus, probe, count, -, -⟩ := first
    by_cases here : s.probeChannel = some c
    · have after : followed c p s = probeFollows p s := if_pos here
      rw [after, probeFollows_eq] at bus probe
      simp only [after, probeFollows_eq] at count
      rcases passes here with rests | ⟨marks, opens⟩
      · rw [rests] at bus probe count
        exact stays bus probe count
      · rw [marks] at bus probe count
        dsimp only at bus probe count
        have onward : followed c q s = enterMarking s := by
          obtain ⟨waking, -⟩ := roundMove_marks_iff.1 marks
          unfold followed
          rw [if_pos here, probeFollows_eq, roundMove_marks_iff.2 ⟨waking, opens⟩]
        have marking : t.probe.round = .marking := by
          rw [probe, enterMarking_probe]
        have rests : followed c q t = t := by
          unfold followed
          split
          · rw [probeFollows_eq, marking]
            show (match (if q.gateOpen then RoundMove.stays else RoundMove.cuts) with
              | .stays => t | .marks => enterMarking t | .cuts => cutRound false t) = t
            rw [if_pos opens]
          · rfl
        rw [rests, onward]
        exact ⟨bus, probe, count⟩
    · have after : followed c p s = s := if_neg here
      rw [after] at bus probe count
      exact stays bus probe count
  obtain ⟨bus, probe, count⟩ := same
  refine ⟨second.bus.trans bus, second.probe.trans probe, fun k other => (second.count k other).trans (count k other),
    fun d elsewhere => (second.others d elsewhere).trans (first.others d elsewhere), ?_⟩
  rw [second.frame, first.frame]

theorem Follows.roundAborted (h : Follows c p s t) (here : s.probeChannel = some c)
    (cuts : roundMove p s.probe.round = .cuts) : RoundAborted (some 5000000) s t := by
  obtain ⟨bus, probe, count, -, -⟩ := h
  have after : followed c p s = cutRound false s := by
    unfold followed
    rw [if_pos here, probeFollows_eq, cuts]
  rw [after] at bus probe count
  obtain ⟨unit, slots, queue, attempt, aborts, cancelled⟩ := cutRound_aborted false s
  unfold RoundAborted
  rw [bus, probe, count _ (by decide), count _ (by decide)]
  exact ⟨unit, slots, queue, attempt, aborts, cancelled⟩

/-- The round follows as R25 and R31 say. -/
theorem Follows.round (h : Follows c p s t) : RoundFollows c p s t := by
  have rests (stays : s.probeChannel = some c → roundMove p s.probe.round = .stays) : t.probe = s.probe := by
    rw [h.probe]
    unfold followed
    split
    · next here => rw [probeFollows_eq, stays here]
    · rfl
  refine ⟨fun quiet => rests fun here => ?_, fun here waking => ⟨fun gate => ?_, fun off => ?_, fun low => ?_⟩,
    fun here runs => ⟨fun gate => ?_, fun notActive notWatch => ?_⟩⟩
  · rcases quiet with elsewhere | idle
    · exact absurd here elsewhere
    · rw [idle]
      rfl
  · have after : followed c p s = enterMarking s := by
      unfold followed
      rw [if_pos here, probeFollows_eq, waking]
      rcases gate with rfl | rfl <;> rfl
    rw [h.probe, h.bus, after]
    exact ⟨enterMarking_probe s, enterMarking_bus s⟩
  · exact h.roundAborted here (by rw [waking]; rcases off with rfl | rfl <;> rfl)
  · exact rests fun _ => by rw [waking]; rcases low with rfl | rfl <;> rfl
  · exact rests fun _ => by rcases runs with round | round <;> rcases gate with rfl | rfl <;> rw [round] <;> rfl
  · refine h.roundAborted here ?_
    have closed : p.gateOpen = false := by
      cases p with
      | active => exact absurd rfl notActive
      | watch => exact absurd rfl notWatch
      | _ => rfl
    rcases runs with round | round <;> rw [round] <;> unfold roundMove <;> rw [closed] <;> rfl

end Sys2Proof.Machine
end

section
/-! PROOFS. Entering ACTIVE, WAKING and STANDBY (R112 to R114): where the channel ends and what the round makes of it. -/

namespace Sys2Proof.Machine

variable {s t u : State} {c : Fin 4} {p q : Power}

/-! ### What a change of power state leaves of a channel -/

/-- The amplifier lines, SLEEP, the target, the gain and the preset of a channel stay. -/
structure SameLines (a b : Channel) : Prop where
  ready : b.ready = a.ready
  faultLine : b.faultLine = a.faultLine
  forcedOff : b.forcedOff = a.forcedOff
  target : b.target = a.target
  gainTarget : b.gainTarget = a.gainTarget
  preset : b.preset = a.preset

theorem SameLines.refl (a : Channel) : SameLines a a := ⟨rfl, rfl, rfl, rfl, rfl, rfl⟩

theorem SameLines.trans {a b d : Channel} (h : SameLines a b) (h' : SameLines b d) : SameLines a d :=
  ⟨h'.ready.trans h.ready, h'.faultLine.trans h.faultLine, h'.forcedOff.trans h.forcedOff, h'.target.trans h.target,
    h'.gainTarget.trans h.gainTarget, h'.preset.trans h.preset⟩

theorem completeSlew_lines (ch : Channel) : SameLines ch ch.completeSlew := by
  unfold Channel.completeSlew
  split <;> exact ⟨rfl, rfl, rfl, rfl, rfl, rfl⟩

theorem completeCrossfade_lines (ch : Channel) : SameLines ch ch.completeCrossfade := by
  unfold Channel.completeCrossfade
  split <;> exact ⟨rfl, rfl, rfl, rfl, rfl, rfl⟩

theorem completeRamp_lines (ch : Channel) : SameLines ch ch.completeRamp := by
  unfold Channel.completeRamp
  split <;> exact ⟨rfl, rfl, rfl, rfl, rfl, rfl⟩

theorem silenced_lines (ch : Channel) : SameLines ch ch.silenced :=
  ((completeSlew_lines ch).trans (completeCrossfade_lines _)).trans (completeRamp_lines _)

theorem toPower_lines (p : Power) (cause : Option FaultCause) (x y : Nat) (ch : Channel) :
    SameLines ch (ch.toPower p cause x y) := by
  unfold Channel.toPower
  dsimp only
  split
  · exact (silenced_lines ch).trans ⟨rfl, rfl, rfl, rfl, rfl, rfl⟩
  · exact ⟨rfl, rfl, rfl, rfl, rfl, rfl⟩

theorem moved_lines (s : State) (p : Power) (cause : Option FaultCause) (c : Fin 4) (ch : Channel) :
    SameLines ch (ch.moved s p cause c) := by
  unfold Channel.moved
  split
  · exact .refl ch
  · exact toPower_lines ..

/-! ### Where the channel ends -/

/-- The state that an entry into ACTIVE ends in (R112). -/
def Channel.activePower (s : State) (c : Fin 4) (ch : Channel) : Power := if ch.wants s c = true then .watch else .active

/-- The state that an entry into WAKING ends in (R114). -/
def Channel.wakingPower (s : State) (c : Fin 4) (ch : Channel) : Power :=
  if ch.ready = true then ch.activePower s c else .waking

theorem activePower_open (s : State) (c : Fin 4) (ch : Channel) : (ch.activePower s c).gateOpen = true := by
  unfold Channel.activePower
  split <;> rfl

theorem wants_congr {a b : Channel} (gain : b.gainTarget = a.gainTarget) : b.wants s c = a.wants s c := by
  rw [Bool.eq_iff_iff, Channel.wants_iff, Channel.wants_iff, gain]

theorem activated_power (s : State) (c : Fin 4) (ch : Channel) : (ch.activated s c).power = ch.activePower s c := by
  have wants : (Channel.moved s .active none c ch).wants s c = ch.wants s c := wants_congr (moved_gainTarget ..)
  unfold Channel.activated Channel.activePower
  dsimp only
  rw [wants]
  split
  · exact moved_power ..
  · exact moved_power ..

theorem woken_power (s : State) (c : Fin 4) (ch : Channel) : (ch.woken s c).power = ch.wakingPower s c := by
  have ready : (Channel.moved s .waking none c ch).ready = ch.ready := (moved_lines ..).ready
  unfold Channel.woken Channel.wakingPower
  dsimp only
  rw [ready]
  split
  · rw [activated_power]
    unfold Channel.activePower
    rw [wants_congr (moved_gainTarget ..)]
  · exact moved_power ..

theorem enterActive_power (s : State) (c : Fin 4) :
    (enterActive c s).channels[c].power = s.channels[c].activePower s c := by
  rw [((enterActive_acts s).one (SameView.refl s) c).1]
  exact activated_power s c _

theorem enterWaking_power (s : State) (c : Fin 4) :
    (enterWaking c s).channels[c].power = s.channels[c].wakingPower s c := by
  rw [((enterWaking_acts s).one (SameView.refl s) c).1]
  exact woken_power s c _

/-! ### What the round makes of it -/

theorem roundMove_open (gate : p.gateOpen = true) (round : Round) :
    roundMove p round = .stays ∨ roundMove p round = .marks := by
  cases round with
  | idle => exact .inl rfl
  | waking => exact .inr (roundMove_marks_iff.2 ⟨rfl, gate⟩)
  | marking => exact .inl (by unfold roundMove; rw [gate]; rfl)
  | emitting => exact .inl (by unfold roundMove; rw [gate]; rfl)

theorem Follows.enterActive (differ : s.channels[c].power ≠ .active) :
    Follows c (s.channels[c].activePower s c) s (enterActive c s) := by
  have first : Follows c .active s (Machine.setPower c .active none s) := .setPower differ
  have wants : wantsWatch (Machine.setPower c .active none s) c = s.channels[c].wants s c := by
    rw [wantsWatch_view s ((setPower_acts s .active none) c s (SameView.refl s)).1]
    rw [setPower_channel_self differ]
    exact wants_congr (toPower_lines ..).gainTarget
  unfold Machine.enterActive Channel.activePower
  dsimp only
  rw [wants]
  split
  · refine first.trans (.setPower ?_) fun _ => (roundMove_open rfl _).imp id fun marks => ⟨marks, rfl⟩
    rw [setPower_channel_self differ]
    exact Power.noConfusion
  · exact first

theorem enterWaking_unready (unready : s.channels[c].ready = false) : enterWaking c s = setPower c .waking none s := by
  have ready : (setPower c .waking none s).channels[c].ready = s.channels[c].ready := by
    rw [((setPower_acts s .waking none).one (SameView.refl s) c).1]
    exact (moved_lines ..).ready
  unfold enterWaking
  dsimp only
  rw [ready, unready, if_neg Bool.false_ne_true]

theorem enterWaking_ready (ready : s.channels[c].ready = true) :
    enterWaking c s = enterActive c (setPower c .waking none s) := by
  have same : (setPower c .waking none s).channels[c].ready = s.channels[c].ready := by
    rw [((setPower_acts s .waking none).one (SameView.refl s) c).1]
    exact (moved_lines ..).ready
  unfold enterWaking
  dsimp only
  rw [same, ready, if_pos rfl]

/-- A round that waits for its channel, or none, sees the channel wake. -/
theorem Follows.enterWaking (differ : s.channels[c].power ≠ .waking)
    (round : s.probeChannel = some c → s.probe.round = .idle ∨ s.probe.round = .waking) :
    Follows c (s.channels[c].wakingPower s c) s (enterWaking c s) := by
  have first : Follows c .waking s (Machine.setPower c .waking none s) := .setPower differ
  unfold Channel.wakingPower
  cases ready : s.channels[c].ready with
  | false =>
    rw [enterWaking_unready ready, if_neg Bool.false_ne_true]
    exact first
  | true =>
    have waking : (Machine.setPower c .waking none s).channels[c].power = .waking := by
      rw [setPower_channel_self differ]
      rfl
    have wants : (Machine.setPower c .waking none s).channels[c].activePower (Machine.setPower c .waking none s) c =
        s.channels[c].activePower s c := by
      unfold Channel.activePower
      rw [setPower_channel_self differ, wants_congr (toPower_lines ..).gainTarget]
      have view : SameView s (Machine.setPower c .waking none s) :=
        ((setPower_acts s .waking none) c s (SameView.refl s)).1
      unfold Channel.wants
      rw [serving_view s view, autoStandby_view s view, inEmergency_view s view, view.2.2.1]
    rw [enterWaking_ready ready, if_pos rfl, ← wants]
    refine first.trans (.enterActive (by rw [waking]; exact Power.noConfusion)) fun here => .inl ?_
    rcases round here with idle | waits
    · rw [idle]; rfl
    · rw [waits]; rfl

/-- In a power state that is no fault, before and after, nothing published moves with the channel. -/
theorem Follows.published (h : Follows c p s t) (fault : t.channels[c].power = .fault ↔ s.channels[c].power = .fault) :
    published t = published s := by
  have faults (d : Fin 4) : t.channels[d].power = .fault ↔ s.channels[d].power = .fault := by
    by_cases here : d = c
    · rw [here]
      exact fault
    · rw [h.others d here]
  refine published_same ?_ ?_ ?_ ?_ ?_ ?_ faults ?_
  all_goals rw [h.frame]
  · exact ⟨rfl, rfl⟩
  · exact ⟨rfl, rfl, rfl, rfl, rfl⟩
  · rfl
  · exact fun _ => ⟨rfl, rfl⟩
  · rfl

end Sys2Proof.Machine
end

section
/-! PROOFS. The round of the Probe Unit (R23 to R30), flights in µs (R42, R61) and the flight record (R14 to R16). -/

namespace Sys2Proof.Machine

variable {s t : State} {c : Fin 4} {i : Fin 2}

/-! ### The start of a round (R23, R24) -/

theorem exec_probeTimer_eq (running : s.probe.timer.isSome = true) :
    exec .probeTimerExpiry s =
      .next (finishEvent s
        (if startConditions s then startRound s else s.modProbe fun u => { u with timer := some 1000000 })) := by
  show Host.Outcome.next (finishEvent s _) = _
  dsimp only
  rw [if_pos running]

theorem freeSlot_isSome : (∃ i, freeSlot s = some i) ↔ ∃ i : Fin 2, s.probe.slots[i] = .free := by
  constructor
  · rintro ⟨i, found⟩
    exact ⟨i, freeSlot_some found⟩
  · rintro ⟨i, free⟩
    by_contra none
    have absent : freeSlot s = Option.none := Option.eq_none_iff_forall_not_mem.2 fun j found => none ⟨j, found⟩
    unfold freeSlot at absent
    have held := List.find?_eq_none.1 absent i (List.mem_finRange i)
    exact held ((isFree_iff _).2 free)

theorem probePowerAllows_iff (p : Power) : probePowerAllows p = true ↔ p ≠ .forcedOff ∧ p ≠ .fault := by
  cases p <;> simp [probePowerAllows]

/-- The Probe Unit with a slot reserved and its timer stopped, before the round goes on (R24). -/
def reserved (i : Fin 2) (s : State) : State :=
  (setSlot i (.reserved s.number) s).modProbe fun u => { u with timer := none }

theorem startRound_eq {img : Image} (image : s.image = some img) (free : freeSlot s = some i) :
    startRound s =
      match s.channels[img.probeChannel].power with
      | .active | .watch => enterMarking (reserved i s)
      | .standby => enterWaking img.probeChannel (roundWaits i s)
      | .waking => roundWaits i s
      | .forcedOff | .fault => reserved i s := by
  have channel : s.probeChannel = some img.probeChannel := by
    unfold State.probeChannel
    rw [image]
    rfl
  unfold startRound
  rw [channel, free]
  rfl

/-- The channel of a round that waits for it leaves STANDBY. -/
theorem roundWaits_follows {img : Image} (i : Fin 2) (standby : s.channels[img.probeChannel].power = .standby) :
    Follows img.probeChannel (s.channels[img.probeChannel].wakingPower s img.probeChannel) (roundWaits i s)
      (enterWaking img.probeChannel (roundWaits i s)) :=
  .enterWaking (s := roundWaits i s) (by rw [show (roundWaits i s).channels = s.channels from rfl, standby]; exact Power.noConfusion)
    fun _ => .inr rfl

theorem wakingPower_not_fault (s : State) (c : Fin 4) (ch : Channel) : ch.wakingPower s c ≠ .fault := by
  unfold Channel.wakingPower Channel.activePower
  repeat' split
  all_goals exact Power.noConfusion

theorem startRound_published (conditions : startConditions s = true) : published (startRound s) = published s := by
  obtain ⟨-, -, -, -, -, ⟨i, free⟩, c, channel, allows⟩ := (startConditions_iff s).1 conditions
  obtain ⟨img, image, rfl⟩ := Option.map_eq_some_iff.1 channel
  rw [startRound_eq image free]
  cases power : s.channels[img.probeChannel].power with
  | active => exact published_line (enterMarking_line (reserved i s))
  | watch => exact published_line (enterMarking_line (reserved i s))
  | standby =>
    refine (roundWaits_follows i power).published ?_
    rw [show (roundWaits i s).channels = s.channels from rfl, power, enterWaking_power]
    exact iff_of_false (wakingPower_not_fault (roundWaits i s) _ _) Power.noConfusion
  | waking => rfl
  | forcedOff => rfl
  | fault => rfl

theorem bump_counters_congr (k : Counter) (counters : t.counters = s.counters) :
    (bump k t).counters = (bump k s).counters := by
  simp only [bump, bumpBy, State.modCounters, counters]

theorem handFrame_counters_congr (f : Frame) (bus : t.bus = s.bus) (stc : t.stc = s.stc)
    (counters : t.counters = s.counters) : (handFrame f t).counters = (handFrame f s).counters := by
  have same : admission t f.body = admission s f.body := by
    unfold admission
    rw [bus, stc]
  unfold handFrame
  rw [same]
  split
  · exact counters
  · exact counters
  · exact bump_counters_congr _ counters
  · exact bump_counters_congr _ counters

/-- A round whose channel sounds goes on to MARKING at once (R24, R26). -/
theorem marked_spec (i : Fin 2) (s : State) :
    let t := enterMarking (reserved i s)
    t.probe = { s.probe with
        round := .marking, deadline := some 50000, timer := none, slots := s.probe.slots.set i (.reserved s.number) } ∧
      t.bus = (handFrame ⟨s.number, 63, .mark⟩ s).bus ∧ t.counters = (handFrame ⟨s.number, 63, .mark⟩ s).counters ∧
      t = { s with probe := t.probe, bus := t.bus, counters := t.counters } :=
  ⟨enterMarking_probe _, handFrame_bus_congr _ rfl rfl, handFrame_counters_congr _ rfl rfl rfl, enterMarking_line _⟩

/-- A round whose channel stands by wakes it, and goes on where it wakes at once (R24, R25, R114). -/
theorem waited_spec {img : Image} (i : Fin 2) (image : s.image = some img)
    (standby : s.channels[img.probeChannel].power = .standby) :
    let t := enterWaking img.probeChannel (roundWaits i s)
    t.probe.timer = none ∧ t.probe.slots = s.probe.slots.set i (.reserved s.number) ∧
    (s.channels[img.probeChannel].ready = false →
      t.probe.round = .waking ∧ t.channels[img.probeChannel].power = .waking) ∧
    (s.channels[img.probeChannel].ready = true →
      t.probe.round = .marking ∧ t.channels[img.probeChannel].power.gateOpen = true) ∧
    t = { s with channels := t.channels, probe := t.probe, bus := t.bus, counters := t.counters } := by
  intro t
  have channel : (roundWaits i s).probeChannel = some img.probeChannel := by
    rw [State.probeChannel, show (roundWaits i s).image = s.image from rfl, image]
    rfl
  have follows := roundWaits_follows i standby
  obtain ⟨-, waits, -⟩ := follows.round
  obtain ⟨opens, -, rests⟩ := waits channel rfl
  have power : t.channels[img.probeChannel].power = s.channels[img.probeChannel].wakingPower s img.probeChannel :=
    enterWaking_power (roundWaits i s) img.probeChannel
  have frame : t = { s with channels := t.channels, probe := t.probe, bus := t.bus, counters := t.counters } := by
    conv_lhs => rw [show t = _ from follows.frame]
    rfl
  cases ready : s.channels[img.probeChannel].ready with
  | false =>
    have ends : s.channels[img.probeChannel].wakingPower s img.probeChannel = .waking := by
      unfold Channel.wakingPower
      rw [ready, if_neg Bool.false_ne_true]
    have probe := rests (.inr ends)
    exact ⟨congrArg (·.timer) probe, congrArg (·.slots) probe, fun _ => ⟨congrArg (·.round) probe, power.trans ends⟩,
      Bool.noConfusion, frame⟩
  | true =>
    have ends : s.channels[img.probeChannel].wakingPower s img.probeChannel =
        s.channels[img.probeChannel].activePower s img.probeChannel := by
      unfold Channel.wakingPower
      rw [ready, if_pos rfl]
    have gate := activePower_open s img.probeChannel s.channels[img.probeChannel]
    rw [← ends, ← power] at gate
    have open_iff {p : Power} (gate : p.gateOpen = true) : p = .active ∨ p = .watch := by
      cases p with
      | active => exact .inl rfl
      | watch => exact .inr rfl
      | _ => cases gate
    obtain ⟨probe, -⟩ := opens (open_iff (power ▸ gate))
    exact ⟨congrArg (·.timer) probe, congrArg (·.slots) probe, Bool.noConfusion, fun _ => ⟨congrArg (·.round) probe, gate⟩,
      frame⟩

/-- Settles O32: a refused attempt sets the timer alone; a round goes on by the power state of its channel. -/
theorem probeTimerStartsRound : Obligations.ProbeTimerStartsRound := by
  intro left s running conditions
  have isSome : s.probe.timer.isSome = true := by rw [running]; rfl
  have holds : startConditions s = true ↔ conditions := by
    rw [startConditions_iff, freeSlot_isSome]
    refine and_congr_right fun _ => and_congr_right fun _ => and_congr_right fun _ => and_congr_right fun _ =>
      and_congr_right fun _ => and_congr_right fun _ => ⟨?_, ?_⟩
    · rintro ⟨c, channel, allows⟩
      obtain ⟨img, image, rfl⟩ := Option.map_eq_some_iff.1 channel
      exact ⟨img, image, (probePowerAllows_iff _).1 allows⟩
    · rintro ⟨img, image, allows⟩
      exact ⟨img.probeChannel, by rw [State.probeChannel, image]; rfl, (probePowerAllows_iff _).2 allows⟩
  rw [exec_probeTimer_eq isSome]
  refine ⟨fun fails => ?_, fun all img i image free first => ?_⟩
  · rw [if_neg (mt holds.1 fails), finishEvent_quiet (modProbe_published _ _)]
    rfl
  · have started := holds.2 all
    rw [if_pos started, finishEvent_quiet (startRound_published started)]
    have eq := startRound_eq image (freeSlot_eq_some free first)
    refine ⟨_, rfl, ?_⟩
    obtain ⟨-, -, -, -, -, -, img', image', notOff, notFault⟩ := all
    cases image.symm.trans image'
    by_cases gate : s.channels[img.probeChannel].power = .active ∨ s.channels[img.probeChannel].power = .watch
    · have marks : startRound s = enterMarking (reserved i s) := by
        rw [eq]
        rcases gate with power | power <;> rw [power]
      rw [marks]
      obtain ⟨probe, bus, counters, frame⟩ := marked_spec i s
      have only {p : Power} (power : s.channels[img.probeChannel].power = p) (other : p.gateOpen = false) : False := by
        subst power
        rcases gate with h | h <;> rw [h] at other <;> cases other
      refine ⟨by rw [probe], by rw [probe], fun _ => ⟨by rw [probe], by rw [probe], by rw [frame], bus, counters⟩,
        fun h => (only h rfl).elim, fun h => (only h rfl).elim, ?_⟩
      rw [frame]
      exact ⟨rfl, rfl, rfl, rfl, rfl⟩
    · rw [eq]
      cases power : s.channels[img.probeChannel].power with
      | active => exact absurd (.inl power) gate
      | watch => exact absurd (.inr power) gate
      | standby =>
        obtain ⟨timer, slots, unready, ready, frame⟩ := waited_spec i image power
        refine ⟨timer, slots, (by rintro (h | h) <;> cases h), Power.noConfusion, fun _ => ⟨unready, ready⟩, ?_⟩
        rw [frame]
        exact ⟨rfl, rfl, rfl, rfl, rfl⟩
      | waking =>
        exact ⟨rfl, rfl, (by rintro (h | h) <;> cases h), fun _ => ⟨rfl, rfl⟩, Power.noConfusion, rfl, rfl, rfl, rfl, rfl⟩
      | forcedOff => exact absurd power notOff
      | fault => exact absurd power notFault

/-! ### The round runs or is aborted (R27, R28, R30) -/

theorem markUnderAttempt_iff : markUnderAttempt s = true ↔ ∃ a, s.bus.attempt = some a ∧ a.frame.body.isMark = true := by
  unfold markUnderAttempt
  exact Option.any_eq_true _ _

theorem abortRound_slot (conflict : Bool) (s : State) (i : Fin 2) :
    (abortRound conflict s).probe.slots[i] = s.probe.slots[i].freeReserved :=
  mapVector_get Slot.freeReserved s.probe.slots i

/-- Settles O33: the emission's two ends, and the MARK's deadline with its MARK on the line or not. -/
theorem roundRunsOrAborts : Obligations.RoundRunsOrAborts := by
  refine ⟨fun s emitting => ⟨?_, fun img image => ?_⟩, fun left s running => ⟨fun a under isMark => ?_, fun none => ?_⟩⟩
  · show Host.Outcome.next (finishEvent s _) = _
    dsimp only
    rw [if_pos emitting, finishEvent_quiet (modProbe_published _ _)]
    rfl
  · show Host.Outcome.next (finishEvent s _) = _
    dsimp only
    rw [if_pos emitting, finishEvent_quiet (published_line rfl)]
    have interval : s.image.elim 0 (·.probeInterval) = img.probeInterval := by
      rw [image]
      rfl
    unfold endEmission
    rw [interval]
    rfl
  · have marked : markUnderAttempt s = true := markUnderAttempt_iff.2 ⟨a, under, isMark⟩
    show Host.Outcome.next (finishEvent s _) = _
    dsimp only
    rw [if_pos (show s.probe.deadline.isSome = true by rw [running]; rfl)]
    rw [if_pos (show markUnderAttempt (s.modProbe fun u => { u with deadline := Option.none }) = true from marked),
      finishEvent_quiet (published_line rfl)]
    have attempt : s.bus.attempt.map (fun a => { a with dropOnFailure := true }) = some { a with dropOnFailure := true } := by
      rw [under]
      rfl
    rw [← attempt]
    rfl
  · have unmarked : ¬markUnderAttempt (s.modProbe fun u => { u with deadline := Option.none }) = true := by
      intro marked
      obtain ⟨a, under, isMark⟩ := markUnderAttempt_iff.1 marked
      exact Bool.noConfusion (isMark.symm.trans (none a under))
    have attempt : s.bus.attempt.filter (fun a => !a.frame.body.isMark) = s.bus.attempt := by
      cases under : s.bus.attempt with
      | none => rfl
      | some a => exact Option.filter_some_pos (by rw [none a under]; rfl)
    refine ⟨abortRound false (s.modProbe fun u => { u with deadline := Option.none }), ?_, rfl, rfl, rfl, rfl, rfl, rfl, rfl,
      fun i reserved => ?_, fun i other => ?_, ?_, abortRound_count false _, rfl⟩
    · show Host.Outcome.next (finishEvent s _) = _
      dsimp only
      rw [if_pos (show s.probe.deadline.isSome = true by rw [running]; rfl), if_neg unmarked,
        finishEvent_quiet (published_line rfl)]
    · obtain ⟨o, held⟩ := reserved
      rw [abortRound_slot]
      show s.probe.slots[i].freeReserved = _
      rw [held]
      rfl
    · rw [abortRound_slot]
      show s.probe.slots[i].freeReserved = _
      cases slot : s.probe.slots[i] with
      | reserved o => exact absurd slot (other o)
      | free => rfl
      | opened w => rfl
    · show Bus.mk .. = Bus.mk ..
      congr 1

/-! ### Flights (R42, R61) -/

theorem roundHalfUp_eq_iff {a b n : Int} (positive : 0 < b) :
    roundHalfUp a b = n ↔ (2 * n - 1) * b ≤ 2 * a ∧ 2 * a < (2 * n + 1) * b := by
  have quotient : roundHalfUp a b = (2 * a + b) / (2 * b) := by
    unfold roundHalfUp
    dsimp only
    rw [if_neg (not_lt.2 positive.le), if_neg (not_lt.2 positive.le)]
  rw [quotient]
  have twice : 0 < 2 * b := by omega
  have lower : n ≤ (2 * a + b) / (2 * b) ↔ n * (2 * b) ≤ 2 * a + b := Int.le_ediv_iff_mul_le twice
  have upper : (2 * a + b) / (2 * b) < n + 1 ↔ 2 * a + b < (n + 1) * (2 * b) := Int.ediv_lt_iff_lt_mul twice
  constructor
  · intro eq
    have low := lower.1 eq.ge
    have high := upper.1 (eq ▸ Int.lt_succ _)
    constructor <;> linarith
  · rintro ⟨low, high⟩
    have least := lower.2 (by linarith)
    have most := upper.2 (by linarith)
    omega

/-- Settles O36: both conversions are one rounded quotient. -/
theorem flightsRoundedHalfUp : Obligations.FlightsRoundedHalfUp := by
  refine ⟨fun flight t nonneg => ?_, fun flight t n positive => ⟨?_, ?_⟩⟩
  · unfold normalisedFlight
    dsimp only
    rw [if_neg (by omega)]
  · unfold referenceFlight
    rw [roundHalfUp_eq_iff (by decide)]
    unfold soundSpeed referenceSpeed
    rw [← mul_assoc]
  · unfold presentFlight
    rw [roundHalfUp_eq_iff (by unfold soundSpeed; omega)]
    unfold soundSpeed referenceSpeed
    rw [← mul_assoc]

/-! ### The flight record (R14 to R16) -/

theorem pushFlight_eq {l : List Nat} (short : l.length ≤ 3) (r : Nat) :
    pushFlight l r = (l ++ [r]).drop ((l ++ [r]).length - 3) := by
  unfold pushFlight
  rw [List.length_append, List.length_singleton]
  split
  · next room =>
    rw [show l.length + 1 - 3 = 0 by omega, List.drop_zero]
  · next full =>
    rw [show l.length + 1 - 3 = 1 by omega, List.drop_append_of_le_length (by omega)]

theorem suspectsAgree_iff (limit : Nat) (l : List Nat) (short : l.length ≤ 3) :
    suspectsAgree limit l = true ↔ l.length = 3 ∧ ∀ x ∈ l, ∀ y ∈ l, x ≤ y + limit := by
  match l, short with
  | [], _ => simp [suspectsAgree]
  | [_], _ => simp [suspectsAgree]
  | [_, _], _ => simp [suspectsAgree]
  | [a, b, c], _ =>
    simp only [suspectsAgree, decide_eq_true_eq, List.length_cons, List.length_nil, List.mem_cons, List.not_mem_nil,
      or_false, forall_eq_or_imp, forall_eq]
    grind

theorem takeDetection_first {limit r : Nat} {f : FlightRecord} (empty : f.history = []) :
    takeDetection limit r f = ⟨{ f with history := [r], misses := 0, stale := false }, true, false⟩ := by
  unfold takeDetection
  rw [empty]
  rfl

theorem takeDetection_near {limit r e : Nat} {f : FlightRecord} (effective : effectiveFlight f.history = some e)
    (near : flightDistance r e ≤ limit) :
    takeDetection limit r f =
      ⟨{ history := pushFlight f.history r, suspects := [], misses := 0, stale := false }, true, false⟩ := by
  unfold takeDetection
  rw [effective]
  exact if_pos near

theorem takeDetection_far {limit r e : Nat} {f : FlightRecord} (effective : effectiveFlight f.history = some e)
    (far : ¬flightDistance r e ≤ limit) :
    takeDetection limit r f =
      if suspectsAgree limit (pushFlight f.suspects r) then
        ⟨{ history := pushFlight f.suspects r, suspects := [], misses := 0, stale := false }, true, true⟩
      else ⟨{ f with suspects := pushFlight f.suspects r, misses := 0, stale := false }, false, false⟩ := by
  unfold takeDetection
  rw [effective]
  exact if_neg far

/-- Settles O38: the history takes a near flight, three agreeing suspects become the history, a miss counts. -/
theorem resultTakenByRecord : Obligations.ResultTakenByRecord := by
  rintro limit r f ⟨history, suspects, misses⟩ last3
  have pushed {l : List Nat} (short : l.length ≤ 3) : pushFlight l r = last3 l := pushFlight_eq short r
  have length {l : List Nat} : (last3 l).length ≤ 3 := by
    show ((l ++ [r]).drop ((l ++ [r]).length - 3)).length ≤ 3
    rw [List.length_drop]
    omega
  refine ⟨takeDetection_first, fun e effective near => ?_, fun e effective far => ?_, ?_⟩
  · rw [takeDetection_near effective near, pushed history]
  · rw [takeDetection_far effective (Nat.not_le.2 far), pushed suspects]
    have agree := suspectsAgree_iff limit (last3 f.suspects) length
    refine ⟨fun full close => if_pos (agree.2 ⟨full, close⟩), fun apart => if_neg fun holds => ?_⟩
    obtain ⟨full, close⟩ := agree.1 holds
    rcases apart with short | ⟨x, hx, y, hy, wide⟩
    · omega
    · exact absurd (close x hx y hy) (by omega)
  · unfold takeMiss
    have four : (min 255 (f.misses + 1) == 4) = (f.misses + 1 == 4) := by
      rw [Bool.eq_iff_iff, beq_iff_eq, beq_iff_eq]
      omega
    dsimp only
    rw [four]

end Sys2Proof.Machine
end

section
/-! PROOFS. A window's result (R40 to R43), and the candidate that wins a solve pass (R60 to R63). -/

namespace Sys2Proof.Machine

variable {s t : State} {i : Fin 2} {w : Window}

/-! ### The close of a window -/

/-- The state at a window's close, its slot FREE. -/
def windowFreed (i : Fin 2) (s : State) : State := { s with probe := { s.probe with slots := s.probe.slots.set i .free } }

theorem exec_windowClose_eq (opened : s.probe.slots[i] = .opened w) :
    exec (.windowClose i) s =
      .next (finishEvent s
        (if w.discard && w.owner != s.number then windowFreed i s
         else deliverResult w.owner (windowResult s w) (windowFreed i s))) := by
  show Host.Outcome.next (finishEvent s _) = _
  dsimp only
  rw [opened]
  rfl

theorem afterDetection_eq (c : FlightChange) (v : State) :
    afterDetection c v =
      (let u := if c.relocated then bump .relocations v else v
       if c.changed = true ∧ v.serving = true ∧ v.stc.kind = some .delay then
         { u with solver := { v.solver with settle := some (v.solver.settle.getD 200000) } }
       else u) := by
  unfold afterDetection
  have kept (u : State) (serving : u.serving = v.serving) (kind : u.stc.kind = v.stc.kind) (solver : u.solver = v.solver) :
      (if c.changed then trigger u else u) =
        if c.changed = true ∧ v.serving = true ∧ v.stc.kind = some .delay then
          { u with solver := { v.solver with settle := some (v.solver.settle.getD 200000) } }
        else u := by
    rw [trigger_eq, serving, kind, solver]
    by_cases changed : c.changed = true
    · by_cases takes : v.stc.kind = some .delay ∧ v.serving = true
      · rw [if_pos changed, if_pos takes, if_pos ⟨changed, takes.2, takes.1⟩]
      · rw [if_pos changed, if_neg takes, if_neg fun h => takes ⟨h.2.2, h.2.1⟩, ← solver]
    · rw [if_neg changed, if_neg fun h => changed h.1]
  exact kept (if c.relocated then bump .relocations v else v) (by split <;> rfl) (by split <;> rfl) (by split <;> rfl)

/-- A miss goes to its record, where there is one, and is counted. -/
theorem deliverResult_miss (owner : Nat) (s : State) :
    (owner = s.number → deliverResult owner .miss s = bump .captureMisses { s with selfRec := takeMiss s.selfRec }) ∧
    (owner ≠ s.number → ∀ e : Fin 16, s.holder owner = some e →
      deliverResult owner .miss s =
        bump .captureMisses { s with peers := s.peers.set e { s.peers[e] with flights := takeMiss s.peers[e].flights } }) ∧
    (owner ≠ s.number → s.holder owner = none → deliverResult owner .miss s = bump .captureMisses s) := by
  unfold deliverResult
  dsimp only
  rw [if_pos rfl]
  have number : (bump .captureMisses s).number = s.number := rfl
  refine ⟨fun own => ?_, fun other e held => ?_, fun other free => ?_⟩
  · rw [if_pos (own.trans number.symm)]
    rfl
  · rw [if_neg (fun h => other (h.trans number))]
    unfold takePeerResult
    rw [show (bump .captureMisses s).holder owner = s.holder owner from rfl, held]
    rfl
  · rw [if_neg (fun h => other (h.trans number))]
    unfold takePeerResult
    rw [show (bump .captureMisses s).holder owner = s.holder owner from rfl, free]

/-- A detection goes to its record, where there is one. -/
theorem deliverResult_detection (owner r : Nat) (s : State) :
    let taken := takeDetection (jumpLimit s) r
    (owner = s.number → deliverResult owner (.detection r) s =
      afterDetection (taken s.selfRec) { s with selfRec := (taken s.selfRec).record }) ∧
    (owner ≠ s.number → ∀ e : Fin 16, s.holder owner = some e → deliverResult owner (.detection r) s =
      afterDetection (taken s.peers[e].flights)
        { s with peers := s.peers.set e { s.peers[e] with flights := (taken s.peers[e].flights).record } }) ∧
    (owner ≠ s.number → s.holder owner = none → deliverResult owner (.detection r) s = s) := by
  unfold deliverResult
  dsimp only
  rw [if_neg (show FlightResult.detection r ≠ .miss from FlightResult.noConfusion)]
  refine ⟨fun own => if_pos own, fun other e held => ?_, fun other free => ?_⟩
  · rw [if_neg other]
    unfold takePeerResult
    rw [held]
    rfl
  · rw [if_neg other]
    unfold takePeerResult
    rw [free]

theorem windowResult_miss {latency : Nat} (is : micLatency s = latency)
    (miss : w.best = 0 ∨ w.peaks = [] ∨ ∃ p rest, w.peaks = p :: rest ∧ p.offset ≤ latency) :
    windowResult s w = .miss := by
  unfold windowResult
  cases peaks : w.peaks with
  | nil => rfl
  | cons p rest =>
    refine if_pos (miss.imp id fun late => ?_)
    rcases late with none | ⟨p', rest', same, late⟩
    · rw [none] at peaks
      cases peaks
    · rw [peaks] at same
      cases same
      rw [is]
      exact late

theorem windowResult_detection {p : Peak} {rest : List Peak} (best : w.best ≠ 0) (peaks : w.peaks = p :: rest)
    (after : micLatency s < p.offset) :
    windowResult s w = .detection (normalisedFlight (p.offset - micLatency s) (windowTemperature s w)) := by
  unfold windowResult
  rw [peaks]
  exact if_neg fun h => h.elim best (by omega)

theorem windowTemperature_own (own : w.owner = s.number) : windowTemperature s w = s.air.temperature := if_pos own

theorem windowTemperature_peer (other : w.owner ≠ s.number) {e : Fin 16} (held : s.holder w.owner = some e) :
    windowTemperature s w = pathTemperature s.air.temperature s.peers[e].record := by
  unfold windowTemperature
  rw [if_neg other, held]
  rfl

theorem pathTemperature_known {own : Int} {record : AlignRecord} {t : BitVec 16} (known : record.temperature = some t) :
    pathTemperature own (some record) = (t.toInt + own + 1) / 2 := by
  unfold pathTemperature
  rw [Option.bind_some, known]
  rfl

theorem pathTemperature_unknown {own : Int} {record : Option AlignRecord}
    (unknown : ∀ r, record = some r → r.temperature = none) : pathTemperature own record = own := by
  unfold pathTemperature
  cases record with
  | none => rfl
  | some r => rw [Option.bind_some, unknown r rfl]

/-- Settles O35: the slot becomes FREE, and the earliest peak or its absence goes to the owner's record. -/
theorem windowCloses : Obligations.WindowCloses := by
  intro i w img s opened image latency freed gives after
  have is : micLatency s = latency := by
    unfold micLatency
    rw [image]
    rfl
  have limit : jumpLimit freed = img.jumpLimit * 1000 := by
    show s.image.elim 0 (·.jumpLimit) * 1000 = _
    rw [image]
    rfl
  have delivers (kept : w.discard = false ∨ w.owner = s.number) {v : State}
      (result : deliverResult w.owner (windowResult s w) freed = v) : gives v := by
    show exec (.windowClose i) s = _
    rw [exec_windowClose_eq opened, if_neg ?_]
    · exact congrArg (fun u => Host.Outcome.next (finishEvent s u)) result
    · rw [Bool.and_eq_true, bne_iff_ne]
      rintro ⟨discard, other⟩
      rcases kept with keeps | own
      · rw [keeps] at discard
        cases discard
      · exact other own
  refine ⟨fun table e held => holder_of_held table held, holder_of_unheld, fun discard other => ?_,
    fun kept => ⟨fun miss => ?_, fun p rest best peaks late => ?_⟩⟩
  · show exec (.windowClose i) s = _
    rw [exec_windowClose_eq opened, discard, if_pos (by rw [Bool.true_and, bne_iff_ne]; exact other)]
    rfl
  · have result := windowResult_miss is miss
    obtain ⟨own, peer, absent⟩ := deliverResult_miss w.owner freed
    exact ⟨fun h => delivers kept (by rw [result]; exact own h), fun h e held => delivers kept (by rw [result]; exact peer h e held),
      fun h free => delivers kept (by rw [result]; exact absent h free)⟩
  · have result := windowResult_detection best peaks (is ▸ late)
    rw [is] at result
    obtain ⟨own, peer, absent⟩ :=
      deliverResult_detection w.owner (normalisedFlight (p.offset - latency) (windowTemperature s w)) freed
    rw [limit] at own peer
    refine ⟨fun h => delivers kept ?_, fun h free => delivers kept (by rw [result]; exact absent h free), fun h e held => ?_⟩
    · rw [result, own h, afterDetection_eq, windowTemperature_own h]
      rfl
    · intro into
      have reached {temperature : Int} (same : windowTemperature s w = temperature) : into temperature := by
        refine delivers kept ?_
        rw [result, peer h e held, afterDetection_eq, same]
        rfl
      have path := windowTemperature_peer h held
      refine ⟨fun record t has known => reached ?_, fun unknown => reached ?_⟩
      · rw [path, has, pathTemperature_known known]
      · rw [path, pathTemperature_unknown unknown]

/-! ### Candidates (R60 to R63) -/

theorem candidateOf_eq_some {e : Fin 16} {c : Candidate} :
    candidateOf s e = some c ↔ ∃ r flight selfFlight, usableRecord s.peers[e] = some r ∧
      effectiveFlight s.peers[e].flights.history = some flight ∧ effectiveFlight s.selfRec.history = some selfFlight ∧
      c = { entry := e
            sum := r.delay.toNat + presentFlight flight (pathTemperature s.ownTemperature (some r)) -
              presentFlight selfFlight s.ownTemperature + s.precedence
            rank := r.rank.toNat + 1
            path := r.path.toNat + presentFlight flight (pathTemperature s.ownTemperature (some r)) } := by
  constructor
  · intro found
    unfold candidateOf at found
    dsimp only at found
    split at found
    · next r flight selfFlight usable has hasSelf =>
      cases found
      exact ⟨r, flight, selfFlight, usable, has, hasSelf, rfl⟩
    · cases found
  · rintro ⟨r, flight, selfFlight, usable, has, hasSelf, rfl⟩
    unfold candidateOf
    dsimp only
    rw [usable, has, hasSelf]

theorem usableRecord_eq_some {e : PeerEntry} {r : AlignRecord} :
    usableRecord e = some r ↔
      (e.state = .fresh ∨ e.state = .stale) ∧ e.record = some r ∧ r.solver ≠ .fallback ∧ r.rank.toNat ≤ 13 := by
  unfold usableRecord
  by_cases live : e.state = .fresh ∨ e.state = .stale
  · rw [if_pos live, Option.filter_eq_some_iff]
    simp [live]
  · rw [if_neg live]
    simp [live]

theorem effectiveFlight_some {l : List Nat} : (∃ f, effectiveFlight l = some f) ↔ l ≠ [] := by
  match l with
  | [] => simp [effectiveFlight]
  | [_] => simp [effectiveFlight]
  | [_, _] => simp [effectiveFlight]
  | _ :: _ :: _ :: _ => simp [effectiveFlight]

theorem mem_candidates {c : Candidate} : c ∈ candidates s ↔ candidateOf s c.entry = some c := by
  unfold candidates
  rw [List.mem_filterMap]
  constructor
  · rintro ⟨e, -, found⟩
    have entry : c.entry = e := by
      obtain ⟨_, _, _, -, -, -, rfl⟩ := candidateOf_eq_some.1 found
      rfl
    rw [entry]
    exact found
  · intro found
    exact ⟨c.entry, List.mem_finRange _, found⟩

theorem winnerOf_eq_none {l : List Candidate} : winnerOf l = none ↔ l = [] := by
  cases l with
  | nil => simp [winnerOf]
  | cons c cs =>
    unfold winnerOf
    cases winnerOf cs with
    | none => simp
    | some d =>
      dsimp only
      split <;> simp

/-- In a list in order of entries, the winner has the largest value and the lowest entry of those that have it (R63). -/
theorem winnerOf_largest {l : List Candidate} (order : l.Pairwise fun a b => a.entry < b.entry) {d : Candidate}
    (wins : winnerOf l = some d) : ∀ c ∈ l, c.value < d.value ∨ c.value = d.value ∧ d.entry ≤ c.entry := by
  induction l generalizing d with
  | nil => cases wins
  | cons a as ih =>
    obtain ⟨least, order⟩ := List.pairwise_cons.1 order
    unfold winnerOf at wins
    cases rest : winnerOf as with
    | none =>
      rw [rest] at wins
      cases wins
      rw [winnerOf_eq_none.1 rest]
      simp
    | some b =>
      rw [rest] at wins
      dsimp only at wins
      have best := ih order rest
      split at wins
      · next larger =>
        cases wins
        intro c mem
        rcases List.mem_cons.1 mem with rfl | mem
        · exact .inl larger
        · exact best c mem
      · next notLarger =>
        cases wins
        intro c mem
        rcases List.mem_cons.1 mem with rfl | mem
        · exact .inr ⟨rfl, le_refl _⟩
        · have later := (least c mem).le
          rcases best c mem with less | ⟨same, -⟩
          · exact .inl (by omega)
          · rcases Nat.lt_or_ge c.value a.value with less | more
            · exact .inl less
            · exact .inr ⟨by omega, later⟩

theorem candidates_order (s : State) : (candidates s).Pairwise fun a b => a.entry < b.entry := by
  unfold candidates
  refine List.Pairwise.filterMap _ (fun a b before c found d found' => ?_) (List.pairwise_lt_finRange 16)
  obtain ⟨_, _, _, -, -, -, rfl⟩ := candidateOf_eq_some.1 found
  obtain ⟨_, _, _, -, -, -, rfl⟩ := candidateOf_eq_some.1 found'
  exact before

/-- Settles O41: the candidates stand in order of their entries, and the winner is the first of the largest. -/
theorem largestCandidateWins : Obligations.LargestCandidateWins := by
  refine ⟨fun _ => rfl, fun s => ⟨winnerOf_eq_none.symm, fun w wins => ⟨winnerOf_mem wins,
    winnerOf_largest (candidates_order s) wins⟩, fun e => ?_, fun c mem => ?_⟩⟩
  · constructor
    · rintro ⟨c, mem, rfl⟩
      obtain ⟨r, flight, selfFlight, usable, has, hasSelf, -⟩ := candidateOf_eq_some.1 (mem_candidates.1 mem)
      obtain ⟨live, held, solver, rank⟩ := usableRecord_eq_some.1 usable
      exact ⟨live, ⟨r, held, solver, rank⟩, effectiveFlight_some.1 ⟨flight, has⟩, effectiveFlight_some.1 ⟨selfFlight, hasSelf⟩⟩
    · rintro ⟨live, ⟨r, held, solver, rank⟩, peer, own⟩
      obtain ⟨flight, has⟩ := effectiveFlight_some.2 peer
      obtain ⟨selfFlight, hasSelf⟩ := effectiveFlight_some.2 own
      have found : candidateOf s e = some _ := candidateOf_eq_some.2
        ⟨r, flight, selfFlight, usableRecord_eq_some.2 ⟨live, held, solver, rank⟩, has, hasSelf, rfl⟩
      exact ⟨_, List.mem_filterMap.2 ⟨e, List.mem_finRange e, found⟩, rfl⟩
  · obtain ⟨r, flight, selfFlight, usable, has, hasSelf, eq⟩ := candidateOf_eq_some.1 (mem_candidates.1 mem)
    obtain ⟨-, held, -, -⟩ := usableRecord_eq_some.1 usable
    refine ⟨r, flight, selfFlight, held, has, hasSelf, ?_⟩
    have temperature : pathTemperature s.ownTemperature (some r) =
        match r.temperature with
        | some t => (t.toInt + s.air.temperature + 1) / 2
        | none => s.air.temperature := by
      cases known : r.temperature with
      | none => exact pathTemperature_unknown fun _ h => by cases h; exact known
      | some t => exact pathTemperature_known known
    rw [temperature] at eq
    rw [eq]
    exact ⟨rfl, rfl, rfl⟩

end Sys2Proof.Machine
end

section
/-! PROOFS. One channel's delay, equaliser and gain (R75 to R80, R95 to R98, R102, R121, R122). -/

namespace Sys2Proof.Machine

variable {s t : State} {c : Fin 4}

/-! ### Changes of one channel -/

/-- A change of a channel that keeps its power state publishes nothing. -/
theorem modChannel_published {f : Channel → Channel} (power : (f s.channels[c]).power = s.channels[c].power) :
    published (s.modChannel c f) = published s :=
  published_same ⟨rfl, rfl⟩ ⟨rfl, rfl, rfl, rfl, rfl⟩ rfl (fun _ => ⟨rfl, rfl⟩) rfl rfl
    (fun d => by rw [modChannel_power c d power]) rfl

theorem event_modChannel {f : Channel → Channel} (power : (f s.channels[c]).power = s.channels[c].power) :
    event (fun s => s.modChannel c f) s = { s with channels := s.channels.set c (f s.channels[c]) } :=
  event_quiet (modChannel_published power)

/-! ### Targets and slews -/

theorem takeTarget_silent {target : Nat} {ch : Channel} (new : target ≠ ch.target) (silent : ch.power.sounding = false) :
    ch.takeTarget target =
      { ch with target := target, applied := target * 4096, slew := .settled, jumps := satInc ch.jumps } := by
  unfold Channel.takeTarget
  rw [if_neg new, silent, if_neg Bool.false_ne_true]

theorem takeTarget_sounding {target : Nat} {ch : Channel} (new : target ≠ ch.target) (sounds : ch.power.sounding = true) :
    ch.takeTarget target =
      { ch with
        target := target
        slew := if ch.applied = target * 4096 then .settled else if ch.applied < target * 4096 then .up else .down } := by
  unfold Channel.takeTarget
  rw [if_neg new, sounds, if_pos rfl]

theorem sounding_iff (p : Power) : p.sounding = true ↔ p = .active ∨ p = .watch ∨ p = .waking := by
  cases p <;> simp [Power.sounding]

theorem silent_iff (p : Power) : p.sounding = false ↔ p = .standby ∨ p = .forcedOff ∨ p = .fault := by
  cases p <;> simp [Power.sounding]

theorem slewOnce_up {step : Nat} {ch : Channel} (up : ch.slew = .up) :
    ch.slewOnce step =
      { ch with
        applied := min (ch.applied + step) (ch.target * 4096)
        slew := if min (ch.applied + step) (ch.target * 4096) = ch.target * 4096 then .settled else .up } := by
  unfold Channel.slewOnce
  rw [up]

theorem slewOnce_down {step : Nat} {ch : Channel} (down : ch.slew = .down) :
    ch.slewOnce step =
      { ch with
        applied := max (ch.applied - step) (ch.target * 4096)
        slew := if max (ch.applied - step) (ch.target * 4096) = ch.target * 4096 then .settled else .down } := by
  unfold Channel.slewOnce
  rw [down]

/-- The slew step that lands on the target is the event of its end. -/
theorem exec_slewComplete_near (near : s.channels[c].nearTarget s.slewStep = true)
    (lands : s.channels[c].slewOnce s.slewStep =
      { s.channels[c] with applied := s.channels[c].target * 4096, slew := .settled }) :
    exec (.slewComplete c) s = .next
      { s with
        channels := s.channels.set c
          { s.channels[c] with applied := s.channels[c].target * 4096, slew := .settled } } := by
  show Host.Outcome.next (event _ s) = _
  rw [← lands, ← event_modChannel (f := (·.slewOnce s.slewStep)) (slewOnce_frame _ _).1]
  unfold event
  dsimp only
  rw [if_pos near]

/-- Settles O44: a target, and the steps toward it. -/
theorem targetTakenAndSlewed : Obligations.TargetTakenAndSlewed := by
  refine ⟨fun target ch => ⟨fun same => takeTarget_same same.symm, fun new silent => takeTarget_silent new ((silent_iff _).2 silent),
    fun new sounds => ?_⟩, fun c img s image law => ?_, fun step ch => ⟨fun settled => ?_, fun up far => ?_, fun down far => ?_⟩⟩
  · rw [takeTarget_sounding new ((sounding_iff _).2 sounds)]
    refine ⟨fun at' => by rw [if_pos at'], fun below => ?_, fun above => ?_⟩
    · rw [if_neg below.ne, if_pos below]
    · rw [if_neg above.ne', if_neg above.asymm]
  · intro step
    have is : s.slewStep = step := by
      unfold State.slewStep State.slewCode
      rw [image]
      rfl
    obtain ⟨-, -, -, below, above, -⟩ := law
    refine ⟨fun up near => ?_, fun down near => ?_, fun settled => ?_⟩
    · have near' : s.channels[c].nearTarget s.slewStep = true := by
        have := below up
        unfold Channel.nearTarget flightDistance
        rw [up, is, Bool.and_eq_true, decide_eq_true_eq]
        exact ⟨rfl, by omega⟩
      have lands : min (s.channels[c].applied + s.slewStep) (s.channels[c].target * 4096) = s.channels[c].target * 4096 :=
        Nat.min_eq_right (is ▸ near)
      exact exec_slewComplete_near near' (by rw [slewOnce_up up, lands, if_pos rfl])
    · have near' : s.channels[c].nearTarget s.slewStep = true := by
        have := above down
        unfold Channel.nearTarget flightDistance
        rw [down, is, Bool.and_eq_true, decide_eq_true_eq]
        exact ⟨rfl, by omega⟩
      have lands : max (s.channels[c].applied - s.slewStep) (s.channels[c].target * 4096) = s.channels[c].target * 4096 :=
        Nat.max_eq_right (by rw [is]; omega)
      exact exec_slewComplete_near near' (by rw [slewOnce_down down, lands, if_pos rfl])
    · show Host.Outcome.next (finishEvent s _) = _
      dsimp only
      have rests : s.channels[c].nearTarget s.slewStep = false := by
        unfold Channel.nearTarget
        rw [settled]
        rfl
      rw [rests, if_neg Bool.false_ne_true, finishEvent_quiet rfl]
  · unfold Channel.slewOnce
    rw [settled]
  · rw [slewOnce_up up, Nat.min_eq_left far.le, if_neg far.ne, ← up]
  · rw [slewOnce_down down, Nat.max_eq_left (by omega), if_neg (by omega), ← down]

/-! ### Requests, crossfades, ramps, fades -/

theorem request_running {a b : Setting} {k : Nat} (w : Setting) {ch : Channel} (runs : ch.crossfade = .running a b k) :
    ch.request w = { ch with waiting := some w } := by
  unfold Channel.request
  rw [runs]

theorem request_idle {w : Setting} {ch : Channel} (idle : ch.crossfade = .idle) (new : w ≠ ch.active) :
    ch.request w =
      if ch.power.sounding then { ch with crossfade := .running ch.active w 0, nextStages := StageMemories.silent }
      else { ch with active := w } := by
  unfold Channel.request
  rw [idle]
  exact if_neg new

theorem request_power (w : Setting) (ch : Channel) : (ch.request w).power = ch.power := by
  unfold Channel.request
  repeat' split
  all_goals rfl

theorem endCrossfade_power (ch : Channel) : ch.endCrossfade.power = ch.power := by
  unfold Channel.endCrossfade
  split
  · rfl
  · dsimp only
    split
    · exact request_power ..
    · rfl

theorem exec_lostSample_eq (c : Fin 4) (s : State) :
    exec (.lostSample c) s = .next
      (if s.channels[c].power = .waking ∧ s.channels[c].muted = false then
        { s with channels := s.channels.set c { s.channels[c] with wakeLoss := true } }
       else s) := by
  show Host.Outcome.next (finishEvent s _) = _
  dsimp only
  split
  · exact congrArg Host.Outcome.next (event_modChannel (f := fun ch => { ch with wakeLoss := true }) rfl)
  · rw [finishEvent_quiet rfl]

/-- Settles O45: each effect ends at its own channel. -/
theorem runningEffectsEnd : Obligations.RunningEffectsEnd := by
  refine ⟨fun c s => ⟨congrArg Host.Outcome.next (event_modChannel rfl), fun waking loud => ?_, fun spared => ?_⟩,
    fun w ch => ⟨fun a b k runs => request_running w runs, fun idle same => ?_, fun idle new silent => ?_,
      fun idle new sounds => ?_⟩, fun c s => ?_⟩
  · refine (exec_lostSample_eq c s).trans ?_
    rw [if_pos ⟨waking, by rw [← Bool.not_eq_true, muted_iff]; exact loud⟩]
  · refine (exec_lostSample_eq c s).trans (congrArg Host.Outcome.next (if_neg ?_))
    rintro ⟨waking, unmuted⟩
    rw [← Bool.not_eq_true, muted_iff] at unmuted
    exact spared.elim (fun other => other waking) unmuted
  · rw [same]; exact request_active rfl idle
  · rw [request_idle idle new, (silent_iff _).2 silent, if_neg Bool.false_ne_true]
  · rw [request_idle idle new, (sounding_iff _).2 sounds, if_pos rfl]
  · intro put
    have ends : exec (.crossfadeEnd c) s = .next (put s.channels[c].endCrossfade) :=
      congrArg Host.Outcome.next (event_modChannel (endCrossfade_power _))
    refine ⟨fun a b k runs => ⟨fun none => ends.trans ?_, fun w waits => ends.trans ?_⟩, fun f k runs => ?_⟩
    · unfold Channel.endCrossfade
      rw [runs, none]
    · unfold Channel.endCrossfade
      rw [runs, waits]
    · have done : exec (.rampEnd c) s = .next (put s.channels[c].completeRamp) :=
        congrArg Host.Outcome.next (event_modChannel (by simp))
      rw [done]
      unfold Channel.completeRamp
      rw [runs]

end Sys2Proof.Machine
end

section
/-! PROOFS. The contact pins and the refresh of EVAC (R125, R135, R136). -/

namespace Sys2Proof.Machine

variable {s : State}

theorem mayHandEvac_iff :
    mayHandEvac s = true ↔ s.stc.mode ≠ .conflict ∧ s.bus.txQuiet = false ∧ isStation s.number = true := by
  unfold mayHandEvac
  simp only [Bool.and_eq_true, bne_iff_ne, Bool.not_eq_true', and_assoc]

/-- A hand-over publishes nothing. -/
theorem handFrame_published (f : Frame) (s : State) : published (handFrame f s) = published s := by
  rw [handFrame_eq]
  rfl

theorem exec_evacRefresh_eq (runs : s.emc.refresh.isSome = true) (alarm : s.ownAlarm = true) :
    exec .evacRefreshExpiry s = .next (sendSet s) := by
  have quiet : published (sendSet s) = published s := by
    unfold sendSet handEvac
    split
    · rw [handFrame_published]
      rfl
    · rfl
  show Host.Outcome.next (finishEvent s _) = _
  dsimp only
  rw [if_pos ⟨runs, alarm⟩, finishEvent_quiet quiet]

theorem debounceSpan_contact (s : State) (level : Bool) :
    debounceSpan (contactAsserted s level) s.emc.contact =
      if (level = s.stc.straps.activeHigh ↔ s.emc.contact = true) then none else some 20000 := by
  unfold debounceSpan contactAsserted
  cases level <;> cases s.stc.straps.activeHigh <;> cases s.emc.contact <;> rfl

/-- Settles O50: a pin that changes starts its span anew, and a refresh hands one EVAC SET. -/
theorem pinsDebouncedAndEvacRefreshed : Obligations.PinsDebouncedAndEvacRefreshed := by
  refine ⟨fun left s runs alarm => ?_,
    fun level s => ⟨fun same => ?_, fun differ => ?_, fun same => ?_, fun differ => ?_⟩⟩
  · intro u
    rw [exec_evacRefresh_eq (by rw [runs]; rfl) alarm]
    refine ⟨fun mode quiet station => congrArg Host.Outcome.next (if_pos (mayHandEvac_iff.2 ⟨mode, quiet, station⟩)),
      fun barred => congrArg Host.Outcome.next (if_neg fun may => ?_)⟩
    obtain ⟨mode, quiet, station⟩ := mayHandEvac_iff.1 may
    rcases barred with conflict | silent | other
    · exact mode conflict
    · exact Bool.noConfusion (quiet.symm.trans silent)
    · exact Bool.noConfusion (station.symm.trans other)
  · exact congrArg Host.Outcome.next (if_pos same.symm)
  · refine (congrArg Host.Outcome.next (if_neg (Ne.symm differ))).trans ?_
    rw [← debounceSpan_contact]
    rfl
  · exact congrArg Host.Outcome.next (if_pos same.symm)
  · exact congrArg Host.Outcome.next (if_neg (Ne.symm differ))

end Sys2Proof.Machine
end

section
/-! PROOFS. The path band, the humidity band, the air shelf and the targets (R75, R90 to R93): what follows when D, the path
time or the humidity changes. -/

namespace Sys2Proof.Machine

variable {s t u : State} {img : Image} {c : Fin 4}

/-! ### The look-up of the air shelf (R92) -/

/-- The cell found is the first that holds a shelf, from the row down. -/
theorem findCell_of_first {rows : List (List (Option Shelf))} {h r : Nat} {sh : Shelf}
    (found : absorptionCell rows r h = some sh) {p : Nat} (low : r ≤ p)
    (empty : ∀ q, r < q → q ≤ p → absorptionCell rows q h = none) : findCell rows h p = some (sh, r) := by
  induction p with
  | zero =>
    obtain rfl : r = 0 := by omega
    unfold findCell
    rw [found]
    rfl
  | succ p ih =>
    unfold findCell
    by_cases here : r = p + 1
    · subst here
      rw [found]
    · rw [empty (p + 1) (by omega) (le_refl _)]
      exact ih (by omega) fun q above below => empty q above (by omega)

theorem findCell_of_empty {rows : List (List (Option Shelf))} {h p : Nat}
    (empty : ∀ q, q ≤ p → absorptionCell rows q h = none) : findCell rows h p = none := by
  induction p with
  | zero =>
    unfold findCell
    rw [empty 0 (le_refl _)]
    rfl
  | succ p ih =>
    unfold findCell
    rw [empty (p + 1) (le_refl _)]
    exact ih fun q below => empty q (by omega)

theorem lookupShelf_eq {p h : Nat} (image : s.image = some img) (path : s.eq.pathBand = some p)
    (humidity : s.eq.humidityBand = some h) :
    lookupShelf s = (findCell img.absorption h p).map fun (sh, row) => (sh, row, h) := by
  unfold lookupShelf
  rw [image, path, humidity]

/-! ### The shelf is looked up anew (R93) -/

theorem requestAll_line (s : State) : requestAll s = { s with channels := (requestAll s).channels } := rfl

theorem refreshShelf_line (s : State) :
    refreshShelf s = { s with eq := (refreshShelf s).eq, channels := (refreshShelf s).channels } := by
  unfold refreshShelf
  dsimp only
  split
  · rfl
  · exact requestAll_line _

theorem refreshShelf_eq (s : State) :
    (refreshShelf s).eq =
      { s.eq with
        shelf := (lookupShelf s).map (·.1)
        cell := if (lookupShelf s).map (·.1) = s.eq.shelf then s.eq.cell else (lookupShelf s).map (·.2) } := by
  unfold refreshShelf
  dsimp only
  split
  · next same => rw [same]
  · rfl

/-- A channel where the shelf may be new: a new one makes a request (R93, R94). -/
def Channel.shelved (s t : State) (c : Fin 4) (ch : Channel) : Channel :=
  if t.eq.shelf = s.eq.shelf then ch else ch.request (ch.wanted t c)

theorem refreshShelf_channel (s : State) (c : Fin 4) :
    (refreshShelf s).channels[c] = s.channels[c].shelved s (refreshShelf s) c := by
  have shelf : (refreshShelf s).eq.shelf = (lookupShelf s).map (·.1) := by rw [refreshShelf_eq]
  unfold Channel.shelved
  rw [shelf]
  unfold refreshShelf
  dsimp only
  split
  · rfl
  · rw [requestAll_get]
    rfl

/-- After new bands the shelf follows them. -/
theorem refreshShelf_follows {bands : EqStation} (image : s.image = some img)
    (moved : bands.pathBand ≠ s.eq.pathBand ∨ bands.humidityBand ≠ s.eq.humidityBand)
    (held : bands.shelf = s.eq.shelf ∧ bands.cell = s.eq.cell) :
    ShelfFollowsBands img s (refreshShelf { s with eq := bands }) := by
  obtain ⟨shelf, cell⟩ := held
  have stay : (refreshShelf { s with eq := bands }).eq.pathBand = bands.pathBand ∧
      (refreshShelf { s with eq := bands }).eq.humidityBand = bands.humidityBand := by
    rw [refreshShelf_eq]
    exact ⟨rfl, rfl⟩
  obtain ⟨path, humidity⟩ := stay
  unfold ShelfFollowsBands
  rw [path, humidity]
  refine ⟨fun samePath sameHumidity => absurd moved (by simp [samePath, sameHumidity]), fun same => ?_,
    fun _ p h hp hh => ?_⟩
  · rw [refreshShelf_eq] at same ⊢
    exact (if_pos (same.trans shelf.symm)).trans cell
  · have looked := lookupShelf_eq (s := { s with eq := bands }) image hp hh
    rw [refreshShelf_eq]
    dsimp only
    rw [looked, shelf]
    refine ⟨fun r sh low found empty => ?_, fun empty => ?_⟩
    · rw [findCell_of_first found low empty]
      exact ⟨rfl, fun differ => if_neg differ⟩
    · rw [findCell_of_empty empty]
      exact ⟨rfl, fun differ => if_neg differ⟩

theorem shelfFollowsBands_of_same (same : t.eq = s.eq) : ShelfFollowsBands img s t := by
  unfold ShelfFollowsBands
  rw [same]
  exact ⟨fun _ _ => rfl, fun _ => rfl, fun moved => absurd moved (by simp)⟩

theorem shelved_of_same {ch : Channel} (same : t.eq.shelf = s.eq.shelf) : ch.shelved s t c = ch := if_pos same

/-! ### The path band (R90) -/

theorem plainPathBand_kept (path : Nat) : keepsPathBand (plainPathBand path) path = true := by
  unfold keepsPathBand plainPathBand
  simp only [Bool.and_eq_true, Bool.or_eq_true, beq_iff_eq, decide_eq_true_eq]
  omega

/-- The path band after a path time has been handed over. -/
def bandAfter (path b : Nat) : Nat := if keepsPathBand b path then b else plainPathBand path

theorem bandAfter_eq (path b : Nat) :
    bandAfter path b =
      if (b = 0 ∨ 100000 * b ≤ path + 5000) ∧ (b = 7 ∨ path ≤ 100000 * (b + 1) + 5000) then b
      else if 700000 ≤ path then 7 else path / 100000 := by
  have keeps : keepsPathBand b path = true ↔
      (b = 0 ∨ 100000 * b ≤ path + 5000) ∧ (b = 7 ∨ path ≤ 100000 * (b + 1) + 5000) := by
    unfold keepsPathBand
    simp only [Bool.and_eq_true, Bool.or_eq_true, beq_iff_eq, decide_eq_true_eq]
  unfold bandAfter
  simp only [keeps]
  congr 1
  unfold plainPathBand
  split <;> omega

/-- What a change of a band leaves: the shelf follows the bands, and each channel follows the shelf. -/
structure Shelved (img : Image) (s t : State) : Prop where
  follows : ShelfFollowsBands img s t
  channel : ∀ c : Fin 4, t.channels[c] = s.channels[c].shelved s t c
  frame : t = { s with solver := t.solver, eq := t.eq, channels := t.channels }

theorem Shelved.refl (img : Image) (s : State) : Shelved img s s :=
  ⟨shelfFollowsBands_of_same rfl, fun _ => (shelved_of_same rfl).symm, rfl⟩

/-- A look-up for new bands. -/
theorem Shelved.refresh {bands : EqStation} (image : s.image = some img)
    (moved : bands.pathBand ≠ s.eq.pathBand ∨ bands.humidityBand ≠ s.eq.humidityBand)
    (held : bands.shelf = s.eq.shelf ∧ bands.cell = s.eq.cell) :
    Shelved img s (refreshShelf { s with eq := bands }) := by
  have line := refreshShelf_line { s with eq := bands }
  have solver : (refreshShelf { s with eq := bands }).solver = s.solver := by rw [line]
  refine ⟨refreshShelf_follows image moved held, fun c => ?_, ?_⟩
  · rw [refreshShelf_channel]
    unfold Channel.shelved
    dsimp only
    rw [held.1]
  · rw [solver]
    exact line

theorem testPathBand_shelved (path : Nat) (image : s.image = some img) :
    Shelved img s (testPathBand path s) ∧ (testPathBand path s).eq.pathBand = s.eq.pathBand.map (bandAfter path) ∧
    (testPathBand path s).eq.humidityBand = s.eq.humidityBand := by
  unfold testPathBand
  cases band : s.eq.pathBand with
  | none => exact ⟨.refl img s, band, rfl⟩
  | some b =>
    dsimp only
    cases keeps : keepsPathBand b path with
    | true =>
      rw [if_pos rfl, band, Option.map_some, bandAfter, keeps, if_pos rfl]
      exact ⟨.refl img s, rfl, rfl⟩
    | false =>
      rw [if_neg Bool.false_ne_true, Option.map_some, bandAfter, keeps, if_neg Bool.false_ne_true]
      have other : plainPathBand path ≠ b := by
        rintro rfl
        rw [plainPathBand_kept] at keeps
        cases keeps
      refine ⟨.refresh (bands := { s.eq with pathBand := some (plainPathBand path) }) image (.inl ?_) ⟨rfl, rfl⟩, ?_, ?_⟩
      · rw [band]
        exact fun same => other (Option.some.inj same)
      · rw [refreshShelf_eq]
        rfl
      · rw [refreshShelf_eq]
        rfl

theorem setPathTime_shelved (path : Nat) (image : s.image = some img) :
    Shelved img s (setPathTime path s) ∧
    BandFollowsPath s (setPathTime path s) ∧ (setPathTime path s).eq.humidityBand = s.eq.humidityBand := by
  have solver := setPathTime_solver path s
  unfold BandFollowsPath
  rw [solver]
  unfold setPathTime
  by_cases same : path = s.solver.path
  · rw [if_pos same]
    subst same
    exact ⟨.refl img s, ⟨fun _ => rfl, fun differ => absurd rfl differ⟩, rfl⟩
  · rw [if_neg same]
    obtain ⟨shelved, band, humidity⟩ :=
      testPathBand_shelved (s := s.modSolver fun v => { v with path := path }) path image
    refine ⟨⟨shelved.follows, shelved.channel, shelved.frame⟩, ⟨fun rests => ?_, fun _ b held => ?_⟩, humidity⟩
    · rw [band]
      rcases rests with equal | none
      · exact absurd equal same
      · show s.eq.pathBand.map _ = _
        rw [none]
        rfl
    · rw [band]
      show s.eq.pathBand.map _ = _
      rw [held, ← bandAfter_eq]
      rfl

/-! ### A new target with a new path time -/

theorem formTargets_line (s : State) : formTargets s = { s with channels := (formTargets s).channels } := rfl

theorem formedTarget_eq (image : s.image = some img) (c : Fin 4) :
    formedTarget s c =
      if s.stc.mode = .configFault then 0 else (s.solver.delay * 48 + 500) / 1000 + img.channels[c].trim := by
  unfold formedTarget State.trim
  rw [image]
  rfl

theorem setDelayTarget_channel (d : Nat) (image : s.image = some img) (c : Fin 4) :
    (setDelayTarget d s).channels[c] =
      if d = s.solver.delay then s.channels[c]
      else s.channels[c].takeTarget
        (if s.stc.mode = .configFault then 0 else (d * 48 + 500) / 1000 + img.channels[c].trim) := by
  unfold setDelayTarget
  split
  · rfl
  · rw [formTargets_get, formedTarget_eq (s := s.modSolver fun v => { v with delay := d }) image]
    rfl

theorem setDelayTarget_line (d : Nat) (s : State) :
    setDelayTarget d s =
      { s with solver := { s.solver with delay := d }, channels := (setDelayTarget d s).channels } := by
  unfold setDelayTarget
  split
  · next same =>
    rw [same]
  · rw [formTargets_line]
    rfl

/-- The channel with its delay written anew. -/
def Channel.delayed (target applied : Nat) (slew : Slew) (jumps : BitVec 16) (ch : Channel) : Channel :=
  { ch with target := target, applied := applied, slew := slew, jumps := jumps }

/-- A request does not meet the delay of the channel. -/
theorem request_delayed (w : Setting) (ch : Channel) (target applied : Nat) (slew : Slew) (jumps : BitVec 16) :
    (ch.delayed target applied slew jumps).request w = (ch.request w).delayed target applied slew jumps := by
  cases runs : ch.crossfade with
  | running _ _ _ =>
    rw [request_running w runs, request_running w (ch := ch.delayed target applied slew jumps) runs]
    rfl
  | idle =>
    by_cases same : w = ch.active
    · rw [request_active same.symm runs, request_active (ch := ch.delayed target applied slew jumps) same.symm runs]
    · rw [request_idle runs same, request_idle (ch := ch.delayed target applied slew jumps) runs same]
      show (if ch.power.sounding = true then _ else _) = _
      split <;> rfl

theorem request_keepsDelay (w : Setting) (ch : Channel) :
    (ch.request w).target = ch.target ∧ (ch.request w).applied = ch.applied ∧ (ch.request w).slew = ch.slew ∧
    (ch.request w).jumps = ch.jumps := by
  unfold Channel.request
  repeat' split
  all_goals exact ⟨rfl, rfl, rfl, rfl⟩

theorem takeTarget_eq (target : Nat) (ch : Channel) :
    ch.takeTarget target =
      if target = ch.target then ch
      else if ch.power.sounding then
        ch.delayed target ch.applied
          (if ch.applied = target * 4096 then .settled else if ch.applied < target * 4096 then .up else .down) ch.jumps
      else ch.delayed target (target * 4096) .settled (satInc ch.jumps) := rfl

/-- A target and a request do not meet. -/
theorem takeTarget_request (target : Nat) (w : Setting) (ch : Channel) :
    (ch.takeTarget target).request w = (ch.request w).takeTarget target := by
  obtain ⟨held, applied, slew, jumps⟩ := request_keepsDelay w ch
  rw [takeTarget_eq, takeTarget_eq target (ch.request w), held, request_power, applied, jumps]
  split
  · rfl
  · split <;> exact request_delayed ..

theorem wanted_eq (image : t.image = some img) (stc : t.stc = s.stc) (emc : t.emc = s.emc) (ch : Channel) :
    ch.wanted t c =
      if s.serving then .eq (if s.emc.emergency then img.channels[c].evacPreset else ch.preset) t.eq.shelf else .flat := by
  unfold Channel.wanted State.serving State.inEmergency
  rw [image, stc, emc]
  split
  · split <;> rfl
  · rfl

theorem takeTarget_preset (target : Nat) (ch : Channel) : (ch.takeTarget target).preset = ch.preset := by
  rw [takeTarget_eq]
  repeat' split
  all_goals rfl

theorem shelved_eq (image : t.image = some img) (stc : t.stc = s.stc) (emc : t.emc = s.emc) :
    s.channels[c].shelved s t c = afterShelf img s t c := by
  unfold Channel.shelved afterShelf
  rw [wanted_eq image stc emc]

theorem takeTarget_shelved (target : Nat) (ch : Channel) :
    (ch.takeTarget target).shelved s t c = (ch.shelved s t c).takeTarget target := by
  unfold Channel.shelved Channel.wanted
  rw [takeTarget_preset]
  split
  · rfl
  · exact takeTarget_request ..

theorem retargeted_frame {v : State} {x : Solver} {y : Vector Channel 4}
    (first : v = { s with solver := x, channels := y })
    (second : t = { v with solver := t.solver, eq := t.eq, channels := t.channels }) :
    t = { s with solver := t.solver, eq := t.eq, channels := t.channels } := by
  subst first
  exact second

/-- A new target and a new path time: bands, shelf and channels follow, by what stood before. -/
theorem retargeted_spec (d path : Nat) (image : s.image = some img) :
    let t := setPathTime path (setDelayTarget d s)
    t.solver = { s.solver with delay := d, path := path } ∧ BandFollowsPath s t ∧
    t.eq.humidityBand = s.eq.humidityBand ∧ ShelfFollowsBands img s t ∧ (∀ c : Fin 4, t.channels[c] = afterPass img s t c) ∧
    t = { s with solver := t.solver, eq := t.eq, channels := t.channels } := by
  intro t
  have line := setDelayTarget_line d s
  have image' : (setDelayTarget d s).image = some img := by rw [line]; exact image
  have eq : (setDelayTarget d s).eq = s.eq := by rw [line]
  obtain ⟨⟨follows, channel, frame⟩, band, humidity⟩ := setPathTime_shelved path image'
  have solver : t.solver = { s.solver with delay := d, path := path } := by
    show (setPathTime path (setDelayTarget d s)).solver = _
    rw [setPathTime_solver, setDelayTarget_solver]
  refine ⟨solver, ?_, humidity.trans (by rw [eq]), ?_, fun c => ?_, ?_⟩
  · have path' : (setDelayTarget d s).solver.path = s.solver.path := by rw [line]
    unfold BandFollowsPath at band
    rw [eq, path'] at band
    exact band
  · unfold ShelfFollowsBands at follows
    rw [eq] at follows
    exact follows
  · have shelf (ch : Channel) : ch.shelved (setDelayTarget d s) t c = ch.shelved s t c := by
      unfold Channel.shelved
      rw [eq]
    have stc : t.stc = s.stc := by
      show (setPathTime path (setDelayTarget d s)).stc = _
      rw [frame, line]
    have emc : t.emc = s.emc := by
      show (setPathTime path (setDelayTarget d s)).emc = _
      rw [frame, line]
    have holds : t.image = some img := by
      show (setPathTime path (setDelayTarget d s)).image = _
      rw [frame]
      exact image'
    unfold afterPass
    rw [channel c, shelf, setDelayTarget_channel d image, solver, ← shelved_eq holds stc emc]
    dsimp only
    split
    · rfl
    · exact takeTarget_shelved ..
  · exact retargeted_frame line frame

end Sys2Proof.Machine
end

section
/-! PROOFS. The solve pass (R57, R59, R63 to R66), and the ends of the hold timer and of the refresh timer (R67, R70). -/

namespace Sys2Proof.Machine

variable {s t : State} {img : Image}

/-! ### The fall to FALLBACK, and the refresh -/

theorem exec_holdTimer_eq {left : Nat} (runs : s.solver.hold = .running left) :
    exec .holdTimerExpiry s = .next (finishEvent s (holdExpired s)) := by
  show Host.Outcome.next (finishEvent s _) = _
  dsimp only
  rw [runs]
  rfl

/-- Settles O43: the fall to FALLBACK is a new target and a new path time; a refresh composes its ALIGN over the state. -/
theorem holdAndRefreshExpire : Obligations.HoldAndRefreshExpire := by
  intro img s image
  refine ⟨fun left runs => ⟨_, exec_holdTimer_eq runs, ?_, ?_⟩, fun run pending => ⟨composeAlign s, composeAlign_composed s, ?_⟩,
    fun other => congrArg Host.Outcome.next (if_neg fun h => other h.1)⟩
  · rw [holdExpired_solver, image]
    rfl
  · have fallback : s.image.elim 0 (·.fallbackDelay) = img.fallbackDelay := by
      rw [image]
      rfl
    obtain ⟨-, band, humidity, shelf, channels, frame⟩ :=
      retargeted_spec (s := s.modSolver fun v =>
        { v with state := .fallback, rank := 15, range := false, hold := .stopped }) img.fallbackDelay img.fallbackDelay image
    unfold holdExpired
    rw [fallback]
    exact ⟨band, humidity, shelf, channels, frame⟩
  · have refresh : s.image.elim 0 (·.refresh) = img.refresh := by
      rw [image]
      rfl
    refine (congrArg Host.Outcome.next (if_pos ⟨run, pending⟩)).trans ?_
    rw [handAlign_eq, refresh]

/-! ### The solve pass -/

/-- The state of a pass whose values have been computed (R57, R59). -/
def passComputed (s : State) : State := computePass (s.modSolver fun v => { v with settle := none })

theorem exec_settle_eq {left : Nat} (runs : s.solver.settle = some left) :
    exec .settleExpiry s =
      .next (finishEvent s
        (if s.frozen then passComputed s
         else match winnerOf (candidates s) with
          | some c => applyWinner c (passComputed s)
          | none => applyNone (passComputed s))) := by
  show Host.Outcome.next (finishEvent s _) = _
  dsimp only
  rw [runs]
  rfl

/-- What every pass sets, and what none touches (R7, R57, R59). -/
structure PassComputed (s t : State) : Prop where
  settle : t.solver.settle = none
  peers : ∀ i : Fin 16, t.peers[i] = { s.peers[i] with unread := false }
  computed : t.solver.computed = (winnerOf (candidates s)).map fun w => min w.value 1340000
  temperature : t.solver.lastTemperature = some s.air.temperature
  clamps : t.solver.lowClamps.toNat =
    min 65535 (s.solver.lowClamps.toNat + (candidates s).countP fun c => decide (c.sum < 0))
  offset : t.solver.offset = s.solver.offset
  cueFreeze : t.solver.cueFreeze = s.solver.cueFreeze
  emergencyFreeze : t.solver.emergencyFreeze = s.solver.emergencyFreeze
  seq : t.solver.seq = s.solver.seq
  handed : t.solver.handed = s.solver.handed
  refresh : t.solver.refresh = s.solver.refresh

theorem passComputed_spec (s : State) : PassComputed s (passComputed s) where
  settle := rfl
  peers i := mapVector_get _ _ i
  computed := rfl
  temperature := rfl
  clamps := by
    rw [List.countP_eq_length_filter]
    exact satIncBy_toNat _ _
  offset := rfl
  cueFreeze := rfl
  emergencyFreeze := rfl
  seq := rfl
  handed := rfl
  refresh := rfl

/-- What an applied pass sets beyond that is the target with its state and its hold timer. -/
theorem PassComputed.applied {u : State} (h : PassComputed s u)
    (solver : t.solver =
      { u.solver with
        state := t.solver.state, delay := t.solver.delay, rank := t.solver.rank, path := t.solver.path
        winner := t.solver.winner, range := t.solver.range, hold := t.solver.hold })
    (peers : t.peers = u.peers) : PassComputed s t where
  settle := by rw [solver]; exact h.settle
  peers := by rw [peers]; exact h.peers
  computed := by rw [solver]; exact h.computed
  temperature := by rw [solver]; exact h.temperature
  clamps := by rw [solver]; exact h.clamps
  offset := by rw [solver]; exact h.offset
  cueFreeze := by rw [solver]; exact h.cueFreeze
  emergencyFreeze := by rw [solver]; exact h.emergencyFreeze
  seq := by rw [solver]; exact h.seq
  handed := by rw [solver]; exact h.handed
  refresh := by rw [solver]; exact h.refresh

theorem bandFollowsPath_of_same (path : t.solver.path = s.solver.path) (eq : t.eq = s.eq) : BandFollowsPath s t :=
  ⟨fun _ => by rw [eq], fun differ => absurd path differ⟩

theorem afterPass_of_same (delay : t.solver.delay = s.solver.delay) (eq : t.eq = s.eq) (c : Fin 4) :
    afterPass img s t c = s.channels[c] := by
  unfold afterPass afterShelf
  rw [if_pos delay, if_pos (by rw [eq])]

/-- A pass that moves neither D nor the path time leaves bands, shelf and channels. -/
theorem pass_rests (delay : t.solver.delay = s.solver.delay) (path : t.solver.path = s.solver.path) (eq : t.eq = s.eq)
    (channels : t.channels = s.channels) :
    BandFollowsPath s t ∧ t.eq.humidityBand = s.eq.humidityBand ∧ ShelfFollowsBands img s t ∧
    ∀ c : Fin 4, t.channels[c] = afterPass img s t c :=
  ⟨bandFollowsPath_of_same path eq, by rw [eq], shelfFollowsBands_of_same eq, fun c => by
    rw [afterPass_of_same delay eq, channels]⟩

/-- A pass without a candidate (R66). -/
theorem applyNone_eq (s : State) :
    applyNone s =
      { s with
        solver :=
          { s.solver with
            state := if s.solver.state = .aligned then .hold else s.solver.state
            winner := if s.solver.state = .aligned then none else s.solver.winner
            hold := if s.solver.state = .aligned then .running (s.image.elim 0 (·.holdLimit) * 1000000) else s.solver.hold } } := by
  unfold applyNone
  split
  · rfl
  · rfl

/-- D after an applied pass (R64, R65). -/
theorem passDelay_eq (image : s.image = some img) (target : Nat) :
    passDelay s target =
      if s.solver.state = .aligned ∧ max target s.solver.delay - min target s.solver.delay < img.deadband then s.solver.delay
      else target := by
  unfold passDelay
  rw [image]
  rfl

theorem newPath_eq {c : Candidate} (nonneg : 0 ≤ c.path) : c.newPath = min c.path.toNat 16777215 := by
  unfold Candidate.newPath
  rw [if_neg (not_lt.2 nonneg)]
  rfl

/-- An applied pass with its winner: the channels and bands follow from before the pass, which has computed only. -/
theorem applyWinner_spec (image : s.image = some img) (c : Candidate) :
    let t := applyWinner c (passComputed s)
    BandFollowsPath s t ∧ t.eq.humidityBand = s.eq.humidityBand ∧ ShelfFollowsBands img s t ∧
    (∀ d : Fin 4, t.channels[d] = afterPass img s t d) ∧
    t = { s with peers := t.peers, solver := t.solver, eq := t.eq, channels := t.channels } ∧
    t.peers = (passComputed s).peers := by
  obtain ⟨-, band, humidity, shelf, channels, frame⟩ :=
    retargeted_spec (s := (passComputed s).modSolver fun v =>
      { v with
        state := .aligned
        winner := some c.entry
        rank := c.rank
        range := decide (maxDelay < c.value)
        hold := if v.state = .aligned then v.hold else .stopped })
      (passDelay (passComputed s) c.target) c.newPath image
  have peers : (applyWinner c (passComputed s)).peers = (passComputed s).peers := by
    unfold applyWinner
    rw [frame]
    rfl
  refine ⟨band, humidity, shelf, channels, ?_, peers⟩
  rw [peers]
  exact frame

/-- Settles O42: a pass computes, and where nothing is frozen its winner or the lack of one is applied. -/
theorem solvePassRuns : Obligations.SolvePassRuns := by
  intro left img s runs image winner negative
  have computed := passComputed_spec s
  rw [exec_settle_eq runs]
  cases frozen : s.frozen with
  | true =>
    refine ⟨_, rfl, computed.settle, computed.peers, computed.computed, computed.temperature, computed.clamps,
      computed.offset, computed.cueFreeze, computed.emergencyFreeze, computed.seq, computed.handed, computed.refresh,
      fun _ => ⟨rfl, rfl, rfl, rfl, rfl, rfl, rfl, rfl, rfl⟩, Bool.noConfusion, Bool.noConfusion, ?_⟩
    obtain ⟨band, humidity, shelf, channels⟩ :=
      pass_rests (img := img) (s := s) (t := passComputed s) rfl rfl rfl rfl
    exact ⟨band, humidity, shelf, channels, rfl⟩
  | false =>
    cases wins : winnerOf (candidates s) with
    | none =>
      have solver := applyNone_eq (passComputed s)
      have applied : PassComputed s (applyNone (passComputed s)) :=
        computed.applied (by rw [solver]) (by rw [solver])
      refine ⟨applyNone (passComputed s), rfl, applied.settle, applied.peers, ?_, applied.temperature, applied.clamps,
        applied.offset, applied.cueFreeze, applied.emergencyFreeze, applied.seq, applied.handed, applied.refresh,
        Bool.noConfusion, fun _ w won => ?_, fun _ _ => ?_, ?_⟩
      · exact applied.computed
      · exact nomatch wins.symm.trans won
      · rw [solver]
        refine ⟨rfl, rfl, rfl, rfl, fun aligned => ?_, fun other => ?_⟩
        · have hold : s.image.elim 0 (·.holdLimit) = img.holdLimit := by
            rw [image]
            rfl
          have aligned' : (passComputed s).solver.state = .aligned := aligned
          dsimp only
          rw [if_pos aligned', if_pos aligned', if_pos aligned', ← hold]
          exact ⟨rfl, rfl, rfl⟩
        · exact ⟨if_neg other, if_neg other⟩
      · obtain ⟨band, humidity, shelf, channels⟩ :=
          pass_rests (img := img) (s := s) (t := applyNone (passComputed s)) (by rw [solver]; rfl) (by rw [solver]; rfl)
            (by rw [solver]; rfl) (by rw [solver]; rfl)
        refine ⟨band, humidity, shelf, channels, ?_⟩
        rw [solver]
        rfl
    | some c =>
      have solver := applyWinner_solver c (passComputed s)
      obtain ⟨band, humidity, shelf, channels, frame, peers⟩ := applyWinner_spec image c
      have applied : PassComputed s (applyWinner c (passComputed s)) := computed.applied (by rw [solver]) peers
      have delay := passDelay_eq (s := passComputed s) image c.target
      refine ⟨applyWinner c (passComputed s), rfl, applied.settle, applied.peers, applied.computed, applied.temperature,
        applied.clamps, applied.offset, applied.cueFreeze, applied.emergencyFreeze, applied.seq, applied.handed,
        applied.refresh, Bool.noConfusion, fun _ w won => ?_, fun _ none => ?_, band, humidity, shelf, channels, frame⟩
      · cases wins.symm.trans won
        rw [solver, delay]
        exact ⟨rfl, rfl, rfl, newPath_eq, rfl, fun aligned near => if_pos ⟨aligned, near⟩,
          fun free => if_neg fun both => free.elim (fun other => other both.1) (fun far => absurd both.2 (Nat.not_lt.2 far)),
          fun aligned => if_pos aligned, fun other => if_neg other⟩
      · exact nomatch wins.symm.trans none

end Sys2Proof.Machine
end

section
/-! PROOFS. The sensor's reply (R47 to R49, R56, R91): the temperature, the humidity band and the misses. -/

namespace Sys2Proof.Machine

variable {s t : State} {img : Image}

/-! ### The humidity band (R91) -/

theorem setHumidityBand_shelved (b : Nat) (image : s.image = some img) :
    Shelved img s (setHumidityBand b s) ∧ (setHumidityBand b s).eq.pathBand = s.eq.pathBand ∧
    (setHumidityBand b s).eq.humidityBand = some b := by
  unfold setHumidityBand
  by_cases same : s.eq.humidityBand = some b
  · rw [if_pos same]
    exact ⟨.refl img s, rfl, same⟩
  · rw [if_neg same]
    refine ⟨.refresh (bands := { s.eq with humidityBand := some b }) image (.inr (Ne.symm same)) ⟨rfl, rfl⟩, ?_, ?_⟩
    · rw [refreshShelf_eq]
      rfl
    · rw [refreshShelf_eq]
      rfl

/-- The humidity band after a humidity has been tested. -/
def humidityAfter (h b : Nat) : Nat := if keepsHumidityBand b h then b else plainHumidityBand h

theorem testHumidityBand_shelved (h : Nat) (image : s.image = some img) :
    Shelved img s (testHumidityBand h s) ∧ (testHumidityBand h s).eq.pathBand = s.eq.pathBand ∧
    (testHumidityBand h s).eq.humidityBand = s.eq.humidityBand.map (humidityAfter h) := by
  unfold testHumidityBand
  cases band : s.eq.humidityBand with
  | none => exact ⟨.refl img s, rfl, band⟩
  | some b =>
    dsimp only
    cases keeps : keepsHumidityBand b h with
    | true =>
      rw [if_pos rfl, band, Option.map_some, humidityAfter, keeps, if_pos rfl]
      exact ⟨.refl img s, rfl, rfl⟩
    | false =>
      rw [if_neg Bool.false_ne_true, Option.map_some, humidityAfter, keeps, if_neg Bool.false_ne_true]
      exact setHumidityBand_shelved _ image

/-- The plain humidity band of a humidity in %. -/
theorem plainHumidityBand_eq {h : Int} (nonneg : 0 ≤ h) :
    plainHumidityBand h.toNat = if h < 30 then 0 else if h < 50 then 1 else if h < 70 then 2 else 3 := by
  unfold plainHumidityBand
  repeat' split
  all_goals omega

theorem humidityAfter_eq {h : Int} (nonneg : 0 ≤ h) (b : Nat) :
    humidityAfter h.toNat b =
      if (b = 0 ∨ 10 + 20 * (b : Int) - 2 ≤ h) ∧ (b = 3 ∨ h ≤ 30 + 20 * (b : Int) + 2) then b
      else plainHumidityBand h.toNat := by
  have keeps : keepsHumidityBand b h.toNat = true ↔
      (b = 0 ∨ 10 + 20 * (b : Int) - 2 ≤ h) ∧ (b = 3 ∨ h ≤ 30 + 20 * (b : Int) + 2) := by
    unfold keepsHumidityBand
    simp only [Bool.and_eq_true, Bool.or_eq_true, beq_iff_eq, decide_eq_true_eq]
    omega
  unfold humidityAfter
  simp only [keeps]

/-! ### The own temperature (R48, R56) -/

/-- The own temperature has moved 0.5 °C or more from the one at the last solve. -/
def Drifts (s : State) (t : Int) : Prop := ∃ old, s.solver.lastTemperature = some old ∧ 5 ≤ (t - old).natAbs

/-- What the settle timer makes of a temperature (R55 to R57). -/
def SettleAfter (s : State) (t : Int) (settle : Option Nat) : Prop :=
  (t ≠ s.air.temperature → Drifts s t → s.serving = true → s.stc.kind = some .delay →
    settle = some (s.solver.settle.getD 200000)) ∧
  (t = s.air.temperature ∨ ¬Drifts s t ∨ s.serving = false ∨ s.stc.kind ≠ some .delay → settle = s.solver.settle)

theorem temperatureTrigger_eq (s : State) :
    temperatureTrigger s = trigger s ∧ Drifts s s.air.temperature ∨
    temperatureTrigger s = s ∧ ¬Drifts s s.air.temperature := by
  unfold temperatureTrigger Drifts
  cases last : s.solver.lastTemperature with
  | none => exact .inr ⟨rfl, by simp⟩
  | some old =>
    dsimp only
    by_cases far : 5 ≤ (s.ownTemperature - old).natAbs
    · exact .inl ⟨if_pos far, old, rfl, far⟩
    · refine .inr ⟨if_neg far, ?_⟩
      rintro ⟨old', same, far'⟩
      cases same
      exact far far'

/-- A temperature is taken, and the settle timer alone may follow. -/
theorem setTemperature_spec (t : Int) (s : State) :
    ∃ settle, setTemperature t s =
        { s with air := { s.air with temperature := t }, solver := { s.solver with settle := settle } } ∧
      SettleAfter s t settle := by
  unfold setTemperature
  by_cases same : s.air.temperature = t
  · refine ⟨s.solver.settle, ?_, fun differ => absurd same.symm differ, fun _ => rfl⟩
    rw [if_pos same, ← same]
  · rw [if_neg same]
    rcases temperatureTrigger_eq (s.modAir fun a => { a with temperature := t }) with ⟨eq, drifts⟩ | ⟨eq, rests⟩
    · rw [eq, trigger_eq]
      refine ⟨_, rfl, fun _ _ serves kind => if_pos ⟨kind, serves⟩, fun spared => if_neg fun both => ?_⟩
      obtain ⟨kind, serves⟩ := both
      rcases spared with equal | still | silent | other
      · exact same equal.symm
      · exact still drifts
      · exact Bool.noConfusion (silent.symm.trans serves)
      · exact other kind
    · exact ⟨s.solver.settle, eq, fun _ drifts => absurd drifts rests, fun _ => rfl⟩

/-! ### The request is judged (R47 to R49) -/

/-- What a judged request may change: the air data, the settle timer, and the air shelf with its requests. -/
def JudgedFrame (img : Image) (s t : State) : Prop :=
  t = { s with air := t.air, solver := { s.solver with settle := t.solver.settle }, eq := t.eq, channels := t.channels } ∧
  t.eq.pathBand = s.eq.pathBand ∧ ShelfFollowsBands img s t ∧ ∀ c : Fin 4, t.channels[c] = afterShelf img s t c

theorem judgedFrame_of_shelved {w : State} {air : Air} {settle : Option Nat} (image : s.image = some img)
    (before : w = { s with air := air, solver := { s.solver with settle := settle } }) (shelved : Shelved img w t)
    (path : t.eq.pathBand = w.eq.pathBand) (solver : t.solver = w.solver) :
    JudgedFrame img s t ∧ t.air = air ∧ t.solver.settle = settle := by
  subst before
  obtain ⟨follows, channel, frame⟩ := shelved
  have air' : t.air = air := by rw [frame]
  have settle' : t.solver.settle = settle := by rw [solver]
  refine ⟨⟨?_, path, follows, fun c => ?_⟩, air', settle'⟩
  · rw [air', settle']
    rw [solver] at frame
    exact frame
  · have installed : t.image = some img := by rw [frame]; exact image
    have stc : t.stc = s.stc := by rw [frame]
    have emc : t.emc = s.emc := by rw [frame]
    rw [channel c]
    exact shelved_eq (s := s) installed stc emc

theorem sensorReply_good_iff (r : SensorReply) :
    SensorReply.good r = true ↔
      r.checkAgrees = true ∧ -300 ≤ r.temperature ∧ r.temperature ≤ 600 ∧ 0 ≤ r.humidity ∧ r.humidity ≤ 100 := by
  unfold Machine.SensorReply.good
  simp only [Bool.and_eq_true, decide_eq_true_eq, and_assoc]

/-- The state whose request is being judged. -/
def unrequested (s : State) : State := s.modAir fun a => { a with request := none }

theorem exec_airReply_eq {left : Nat} (pending : s.air.request = some left) (r : SensorReply) :
    exec (.airReply r) s =
      .next (finishEvent s
        (if SensorReply.good r then takeGoodReply r.temperature r.humidity.toNat (unrequested s) else takeAirMiss (unrequested s))) := by
  show Host.Outcome.next (finishEvent s (judgeRequest _ s)) = _
  unfold judgeRequest
  rw [pending]
  rfl

theorem exec_airTimeout_eq {left : Nat} (pending : s.air.request = some left) :
    exec .airReplyTimeout s = .next (finishEvent s (takeAirMiss (unrequested s))) := by
  show Host.Outcome.next (finishEvent s (judgeRequest _ s)) = _
  unfold judgeRequest
  rw [pending]
  rfl

/-- A good reply (R48, R91). -/
theorem takeGoodReply_spec (image : s.image = some img) (temperature : Int) (humidity : Nat) :
    let t := takeGoodReply temperature humidity (unrequested s)
    JudgedFrame img s t ∧
    t.air = { state := .valid, temperature := temperature, humidity := some humidity, misses := 0, request := none } ∧
    SettleAfter s temperature t.solver.settle ∧
    t.eq.humidityBand =
      if s.air.state = .lost then some (plainHumidityBand humidity)
      else if s.air.humidity = some humidity then s.eq.humidityBand
      else s.eq.humidityBand.map (humidityAfter humidity) := by
  intro t
  obtain ⟨settle, warm, after⟩ := setTemperature_spec temperature
    ((unrequested s).modAir fun a => { a with state := .valid, humidity := some humidity, misses := 0 })
  let w := setTemperature temperature
    ((unrequested s).modAir fun a => { a with state := .valid, humidity := some humidity, misses := 0 })
  have before : w = { s with
      air := { state := .valid, temperature := temperature, humidity := some humidity, misses := 0, request := none }
      solver := { s.solver with settle := settle } } := warm
  have image' : w.image = some img := by rw [before]; exact image
  have eq : w.eq = s.eq := by rw [before]
  have ends {v : State} (is : t = v) (shelved : Shelved img w v) (path : v.eq.pathBand = w.eq.pathBand)
      (solver : v.solver = w.solver) : JudgedFrame img s t ∧
      t.air = { state := .valid, temperature := temperature, humidity := some humidity, misses := 0, request := none } ∧
      SettleAfter s temperature t.solver.settle := by
    obtain ⟨frame, air, settled⟩ := judgedFrame_of_shelved image before shelved path solver
    rw [is]
    exact ⟨frame, air, by rw [settled]; exact after⟩
  by_cases lost : s.air.state = .lost
  · have is : t = setHumidityBand (plainHumidityBand humidity) w := if_pos (beq_iff_eq.2 lost)
    obtain ⟨shelved, path, band⟩ := setHumidityBand_shelved (plainHumidityBand humidity) image'
    obtain ⟨frame, air, settled⟩ := ends is shelved path (by simp)
    exact ⟨frame, air, settled, by rw [if_pos lost, is, band]⟩
  · have valid : (s.air.state == .lost) = true → False := fun h => lost (beq_iff_eq.1 h)
    by_cases same : s.air.humidity = some humidity
    · have is : t = w := (if_neg valid).trans (if_pos same)
      obtain ⟨frame, air, settled⟩ := ends is (.refl img w) rfl rfl
      exact ⟨frame, air, settled, by rw [if_neg lost, if_pos same, is, eq]⟩
    · have is : t = testHumidityBand humidity w := (if_neg valid).trans (if_neg same)
      obtain ⟨shelved, path, band⟩ := testHumidityBand_shelved humidity image'
      obtain ⟨frame, air, settled⟩ := ends is shelved path (by simp)
      exact ⟨frame, air, settled, by rw [if_neg lost, if_neg same, is, band, eq]⟩

/-- A miss, and the tenth of them while VALID (R49, R91). -/
theorem takeAirMiss_spec (image : s.image = some img) :
    let t := takeAirMiss (unrequested s)
    JudgedFrame img s t ∧
    (min 255 (s.air.misses + 1) ≠ 10 ∨ s.air.state = .lost →
      t = { s with air := { s.air with request := none, misses := min 255 (s.air.misses + 1) } }) ∧
    (s.air.misses = 9 → s.air.state = .valid →
      t.air = { state := .lost, temperature := img.defaultTemp, humidity := none, misses := 10, request := none } ∧
      t.eq.humidityBand = some img.defaultBand ∧ SettleAfter s img.defaultTemp t.solver.settle) := by
  intro t
  let missed := (unrequested s).modAir fun a => { a with misses := min 255 (s.air.misses + 1) }
  by_cases tenth : min 255 (s.air.misses + 1) = 10 ∧ s.air.state = .valid
  · have temperature : s.defaultTemperature = img.defaultTemp := by
      unfold State.defaultTemperature
      rw [image]
      rfl
    have band : s.image.elim 0 (·.defaultBand) = img.defaultBand := by
      rw [image]
      rfl
    obtain ⟨settle, warm, after⟩ := setTemperature_spec img.defaultTemp
      (missed.modAir fun a => { a with state := .lost, humidity := none })
    let w := setTemperature img.defaultTemp (missed.modAir fun a => { a with state := .lost, humidity := none })
    have before : w = { s with
        air := { state := .lost, temperature := img.defaultTemp, humidity := none,
                 misses := min 255 (s.air.misses + 1), request := none }
        solver := { s.solver with settle := settle } } := warm
    have installed : w.image.elim 0 (·.defaultBand) = img.defaultBand := by
      rw [before]
      exact band
    have is : t = setHumidityBand img.defaultBand w := by
      show takeAirMiss (unrequested s) = _
      unfold takeAirMiss
      refine (if_pos tenth).trans ?_
      show setHumidityBand ((setTemperature s.defaultTemperature (missed.modAir _)).image.elim 0 (·.defaultBand))
        (setTemperature s.defaultTemperature (missed.modAir _)) = _
      rw [temperature]
      show setHumidityBand (w.image.elim 0 (·.defaultBand)) w = _
      rw [installed]
    obtain ⟨shelved, path, humidity⟩ := setHumidityBand_shelved (s := w) img.defaultBand (by rw [before]; exact image)
    obtain ⟨frame, air, settled⟩ := judgedFrame_of_shelved image before shelved path (by simp)
    rw [is]
    refine ⟨frame, fun spared => ?_, fun nine valid => ⟨?_, humidity, by rw [settled]; exact after⟩⟩
    · rcases spared with other | lost
      · exact absurd tenth.1 other
      · exact nomatch lost.symm.trans tenth.2
    · rw [air, nine]
      rfl
  · have is : t = { s with air := { s.air with request := none, misses := min 255 (s.air.misses + 1) } } := if_neg tenth
    rw [is]
    refine ⟨⟨rfl, rfl, shelfFollowsBands_of_same rfl, fun c => ?_⟩, fun _ => rfl, fun nine valid => absurd ⟨?_, valid⟩ tenth⟩
    · exact (if_pos rfl).symm
    · omega

/-- Settles O40: a request is judged once, by the reply or by its limit. -/
theorem sensorRequestJudged : Obligations.SensorRequestJudged := by
  intro left img s pending image good drift settleAfter band frame
  have judged {v : State} (h : JudgedFrame img s v) : frame v := h
  refine ⟨fun r holds => ?_, fun miss is => ?_⟩
  · obtain ⟨shelf, air, settled, humidity⟩ := takeGoodReply_spec image r.temperature r.humidity.toNat
    have ⟨_, _, _, nonneg, _⟩ := holds
    refine ⟨_, (exec_airReply_eq pending r).trans (by rw [if_pos ((sensorReply_good_iff r).2 holds)]), air,
      fun lost => ?_, fun valid same => ?_, fun b valid differ held => ?_, settled, judged shelf⟩
    · rw [humidity, if_pos lost, plainHumidityBand_eq nonneg]
    · rw [humidity, if_neg (by rw [valid]; exact AirState.noConfusion), if_pos same]
    · rw [humidity, if_neg (by rw [valid]; exact AirState.noConfusion), if_neg differ, held, Option.map_some,
        humidityAfter_eq nonneg, plainHumidityBand_eq nonneg]
      split <;> rfl
  · obtain ⟨shelf, spared, tenth⟩ := takeAirMiss_spec image
    refine ⟨takeAirMiss (unrequested s), ?_, spared, tenth, judged shelf⟩
    rcases is with rfl | ⟨r, bad, rfl⟩
    · exact exec_airTimeout_eq pending
    · exact (exec_airReply_eq pending r).trans (by rw [if_neg (mt (sensorReply_good_iff r).1 bad)])

end Sys2Proof.Machine
end

section
/-! PROOFS. SLEEP and WAKE at one channel (R116, R117), and the amplifier's lines and timers (R112, R114, R115). -/

namespace Sys2Proof.Machine

variable {s t u : State} {c : Fin 4} {p : Power} {ch : Channel}

/-! ### Lines stay, and where a rested channel ends -/

theorem activated_lines (s : State) (c : Fin 4) (ch : Channel) : SameLines ch (ch.activated s c) := by
  unfold Channel.activated
  dsimp only
  split
  · exact (moved_lines ..).trans (moved_lines ..)
  · exact moved_lines ..

theorem woken_lines (s : State) (c : Fin 4) (ch : Channel) : SameLines ch (ch.woken s c) := by
  unfold Channel.woken
  dsimp only
  split
  · exact (moved_lines ..).trans (activated_lines ..)
  · exact moved_lines ..

theorem rested_lines (s : State) (c : Fin 4) (ch : Channel) : SameLines ch (ch.rested s c) := by
  unfold Channel.rested
  dsimp only
  split
  · exact (moved_lines ..).trans (woken_lines ..)
  · exact moved_lines ..

theorem wakingPower_congr {a b : Channel} (same : SameLines a b) : b.wakingPower s c = a.wakingPower s c := by
  unfold Channel.wakingPower Channel.activePower
  rw [same.ready, wants_congr same.gainTarget]

/-- A channel that enters STANDBY stays there in effective silence, or before the station serves (R113). -/
theorem rested_power (s : State) (c : Fin 4) (ch : Channel) :
    (ch.rested s c).power =
      if s.serving = false ∨ s.level.present = false ∨ ch.gainTarget = .silence then .standby else ch.wakingPower s c := by
  have lines := moved_lines s .standby none c ch
  have loud : (s.serving && !(!s.level.present || (Channel.moved s .standby none c ch).muted)) = true ↔
      ¬(s.serving = false ∨ s.level.present = false ∨ ch.gainTarget = .silence) := by
    rw [Bool.and_eq_true, Bool.not_eq_true', ← Bool.not_eq_true, silence_iff, lines.gainTarget, not_or, not_or, not_or,
      Bool.not_eq_false, Bool.not_eq_false]
  unfold Channel.rested
  dsimp only
  by_cases stays : s.serving = false ∨ s.level.present = false ∨ ch.gainTarget = .silence
  · rw [if_neg (mt loud.1 (not_not.2 stays)), if_pos stays]
    exact moved_power ..
  · rw [if_pos (loud.2 stays), if_neg stays, woken_power, wakingPower_congr lines]

/-! ### A channel written before it moves -/

/-- What a move makes of the round does not rest on the channel as it was. -/
theorem Follows.before {f : Channel → Channel} (h : Follows c p (s.modChannel c f) t) : Follows c p s t := by
  obtain ⟨bus, probe, count, others, frame⟩ := h
  obtain ⟨bus', probe', count'⟩ := followed_congr (s := s) (t := s.modChannel c f) c p rfl rfl rfl rfl
  exact ⟨bus.trans bus', probe.trans probe', fun k other => (count k other).trans (count' k rfl),
    fun d elsewhere => (others d elsewhere).trans (modChannel_get_other s elsewhere f), frame⟩

/-! ### SLEEP and WAKE -/

theorem sleepChannel_get (s : State) (c : Fin 4) : (sleepChannel c s).channels[c] = s.channels[c].slept s c :=
  ((sleepChannel_acts s).one (SameView.refl s) c).1

theorem wakeChannel_get (s : State) (c : Fin 4) : (wakeChannel c s).channels[c] = s.channels[c].roused s c :=
  ((wakeChannel_acts s).one (SameView.refl s) c).1

theorem sleepChannel_silent (silent : s.channels[c].power = .fault ∨ s.channels[c].power = .forcedOff) :
    sleepChannel c s = s.modChannel c fun ch => { ch with forcedOff := true } := by
  have power : (s.modChannel c fun ch => { ch with forcedOff := true }).channels[c].power = s.channels[c].power := by
    rw [modChannel_get_self]
  unfold sleepChannel
  dsimp only
  rw [power]
  rcases silent with h | h <;> rw [h]

theorem sleepChannel_moves (notFault : s.channels[c].power ≠ .fault) (notOff : s.channels[c].power ≠ .forcedOff) :
    sleepChannel c s = setPower c .forcedOff none (s.modChannel c fun ch => { ch with forcedOff := true }) := by
  have power : (s.modChannel c fun ch => { ch with forcedOff := true }).channels[c].power = s.channels[c].power := by
    rw [modChannel_get_self]
  unfold sleepChannel
  dsimp only
  rw [power]
  cases h : s.channels[c].power with
  | fault => exact absurd h notFault
  | forcedOff => exact absurd h notOff
  | _ => rfl

theorem slept_power (ch : Channel) : (ch.slept s c).power = if ch.power = .fault then .fault else .forcedOff := by
  unfold Channel.slept
  dsimp only
  by_cases silent : ch.power = .forcedOff ∨ ch.power = .fault
  · rw [if_pos silent]
    rcases silent with h | h
    · rw [h, if_neg Power.noConfusion]
    · rw [h, if_pos rfl]
  · rw [if_neg silent, if_neg fun h => silent (.inr h)]
    exact moved_power ..

theorem slept_forcedOff (ch : Channel) : (ch.slept s c).forcedOff = true := by
  unfold Channel.slept
  dsimp only
  split
  · rfl
  · rw [(moved_lines ..).forcedOff]

theorem roused_forcedOff (ch : Channel) : (ch.roused s c).forcedOff = false := by
  unfold Channel.roused
  dsimp only
  split
  · split
    · rw [(rested_lines ..).forcedOff]
    · rw [(woken_lines ..).forcedOff]
  · split
    · rw [(woken_lines ..).forcedOff]
    · rfl

theorem wakeChannel_stays (stays : s.channels[c].power ≠ .forcedOff)
    (held : s.channels[c].power = .fault → s.channels[c].faultLine = true) :
    wakeChannel c s = s.modChannel c fun ch => { ch with forcedOff := false } := by
  have power : (s.modChannel c fun ch => { ch with forcedOff := false }).channels[c].power = s.channels[c].power := by
    rw [modChannel_get_self]
  have line : (s.modChannel c fun ch => { ch with forcedOff := false }).channels[c].faultLine = s.channels[c].faultLine := by
    rw [modChannel_get_self]
  unfold wakeChannel
  dsimp only
  rw [power, line]
  cases h : s.channels[c].power with
  | forcedOff => exact absurd h stays
  | fault =>
    dsimp only
    rw [held h, if_pos rfl]
  | _ => rfl

/-- A channel in FAULT whose line is released wakes, and one in FORCED_OFF rests or wakes (R117). -/
theorem roused_power (ch : Channel) :
    (ch.power = .fault → ch.faultLine = false → (ch.roused s c).power = ch.wakingPower s c) ∧
    (ch.power = .forcedOff → (ch.roused s c).power =
      if s.autoStandby c = true ∧ (s.serving = false ∨ s.level.present = false ∨ ch.gainTarget = .silence) then .standby
      else ch.wakingPower s c) := by
  have same : ({ ch with forcedOff := false } : Channel).wakingPower s c = ch.wakingPower s c := rfl
  unfold Channel.roused
  dsimp only
  refine ⟨fun fault line => ?_, fun off => ?_⟩
  · rw [if_neg (by rw [fault]; exact Power.noConfusion), if_pos ⟨fault, line⟩, woken_power, same]
  · rw [if_pos off]
    by_cases auto : s.autoStandby c = true
    · rw [if_pos auto, rested_power, same]
      simp only [auto, true_and]
    · rw [if_neg auto, woken_power, same, if_neg fun both => auto both.1]

/-- Settles O49: each power state at SLEEP and at WAKE. -/
theorem sleepAndWakeAtChannel : Obligations.SleepAndWakeAtChannel := by
  intro c s ch silent
  have sleeps := sleepChannel_get s c
  have wakes := wakeChannel_get s c
  obtain ⟨fromFault, fromOff⟩ := roused_power (s := s) (c := c) ch
  have unready (h : ch.ready = false) : ch.wakingPower s c = .waking := by
    unfold Channel.wakingPower
    rw [h, if_neg Bool.false_ne_true]
  have ready (h : ch.ready = true) : ch.wakingPower s c = ch.activePower s c := by
    unfold Channel.wakingPower
    rw [h, if_pos rfl]
  have active : ch.activePower s c =
      if s.serving = true ∧ s.autoStandby c = true ∧ silent ∧ s.emc.emergency = false then .watch else .active := by
    unfold Channel.activePower
    simp only [Channel.wants_iff]
    rfl
  refine ⟨by rw [sleeps, slept_forcedOff], by rw [sleeps, slept_power], fun notFault notOff => ?_,
    fun still => sleepChannel_silent still, by rw [wakes, roused_forcedOff], fun sounding => ?_, fun fault held => ?_,
    fun h fault line => by rw [wakes, fromFault fault line, unready h],
    fun h fault line => by rw [wakes, fromFault fault line, ready h, active],
    fun h off => by rw [wakes, fromOff off, unready h], fun h off => ?_, fun d elsewhere => ?_⟩
  · have moves := sleepChannel_moves notFault notOff
    have differ : (s.modChannel c fun ch => { ch with forcedOff := true }).channels[c].power ≠ .forcedOff := by
      rw [modChannel_get_self]
      exact notOff
    rw [moves, setPower_channel_self differ]
    exact ⟨rfl, rfl, rfl, (Follows.setPower differ).before.round⟩
  · refine wakeChannel_stays ?_ ?_
    · rcases sounding with h | h | h | h <;> rw [h] <;> exact Power.noConfusion
    · intro fault
      rcases sounding with h | h | h | h <;> cases h.symm.trans fault
  · exact wakeChannel_stays (by rw [show s.channels[c].power = _ from fault]; exact Power.noConfusion) fun _ => held
  · rw [wakes, fromOff off, ready h, active]
    by_cases rests : s.autoStandby c = true ∧ (s.serving = false ∨ silent)
    · rw [if_pos rests, if_pos rests]
    · rw [if_neg rests, if_neg rests, if_neg]
      rintro ⟨-, auto, isSilent, -⟩
      exact rests ⟨auto, .inr isSilent⟩
  · exact ⟨((sleepChannel_acts s).one (SameView.refl s) c).2 d elsewhere,
      ((wakeChannel_acts s).one (SameView.refl s) c).2 d elsewhere⟩

end Sys2Proof.Machine
end

section
/-! PROOFS. The silence and wake timers and the amplifier's lines (R111, R112, R114, R115, R122): each moves one channel. -/

namespace Sys2Proof.Machine

variable {s t u : State} {c : Fin 4} {p : Power} {cause : Option FaultCause} {ch : Channel} {f : Channel → Channel}

/-! ### What the round has done, read from where it stands -/

theorem roundMove_idle (p : Power) : roundMove p .idle = .stays := rfl

/-- Where the Probe Unit stands as before, the line stands as before. -/
theorem Follows.quiet (h : Follows c p s t) (same : t.probe = s.probe) :
    t.bus = s.bus ∧ ∀ k : Counter, k ≠ .wakeLosses → t.count k = s.count k := by
  obtain ⟨bus, probe, count, -, -⟩ := h
  have rests : followed c p s = s := by
    unfold followed at probe ⊢
    split
    · next here =>
      rw [if_pos here, same, probeFollows_eq] at probe
      rw [probeFollows_eq]
      cases move : roundMove p s.probe.round with
      | stays => rfl
      | marks =>
        rw [move] at probe
        dsimp only at probe
        obtain ⟨waking, -⟩ := roundMove_marks_iff.1 move
        rw [enterMarking_probe] at probe
        exact nomatch waking.symm.trans (congrArg (·.round) probe)
      | cuts =>
        rw [move] at probe
        dsimp only at probe
        rw [cutRound_probe] at probe
        have idle : s.probe.round = .idle := congrArg (·.round) probe
        rw [idle] at move
        cases move
    · rfl
  rw [rests] at bus
  exact ⟨bus, fun k other => by rw [count k other, rests]⟩

/-- Where a round has ended, its MARK is withdrawn. -/
theorem Follows.cutBus (h : Follows c p s t) (runs : s.probe.round ≠ .idle) (ends : t.probe.round = .idle) :
    t.bus =
      { s.bus with
        queue := s.bus.queue.filter fun e => !e.frame.body.isMark
        attempt := s.bus.attempt.filter fun a => !a.frame.body.isMark } := by
  obtain ⟨bus, probe, -, -, -⟩ := h
  rw [probe] at ends
  rw [bus]
  unfold followed at ends ⊢
  split
  · next here =>
    rw [if_pos here, probeFollows_eq] at ends
    rw [probeFollows_eq]
    cases move : roundMove p s.probe.round with
    | stays =>
      rw [move] at ends
      exact absurd ends runs
    | marks =>
      rw [move] at ends
      dsimp only at ends
      rw [enterMarking_probe] at ends
      cases ends
    | cuts => exact cutRound_bus false s
  · next elsewhere =>
    rw [if_neg elsewhere] at ends
    exact absurd ends runs

/-! ### One channel moves -/

theorem gateOpen_iff (p : Power) : p.gateOpen = true ↔ p = .active ∨ p = .watch := by
  cases p <;> simp [Power.gateOpen]

/-- From `s` to `t` a channel, its lines written by `f`, has moved into a power state. -/
structure Shifts (c : Fin 4) (p : Power) (cause : Option FaultCause) (f : Channel → Channel) (s t : State) : Prop where
  follows : Follows c p s t
  channel : ∃ y, SameLines (f s.channels[c]) y ∧ (p.sounding = false → y = f s.channels[c]) ∧
    t.channels[c] = y.toPower p cause (s.standbyDelay * 1000000) (s.wakeLimit c * 1000)
  losses : t.count .wakeLosses =
    if s.channels[c].power = .waking ∧ s.channels[c].wakeLoss = true ∧ p ≠ .waking then satInc (s.count .wakeLosses)
    else s.count .wakeLosses

/-- A channel whose lines are written and that then changes its power state. -/
theorem Shifts.setPower (differ : (f s.channels[c]).power ≠ p)
    (power : (f s.channels[c]).power = s.channels[c].power) (loss : (f s.channels[c]).wakeLoss = s.channels[c].wakeLoss) :
    Shifts c p cause f s (setPower c p cause (s.modChannel c f)) := by
  have differ' : (s.modChannel c f).channels[c].power ≠ p := by
    rw [modChannel_get_self]
    exact differ
  refine ⟨(Follows.setPower differ').before, ⟨_, .refl _, fun _ => rfl, ?_⟩, ?_⟩
  · rw [setPower_channel_self differ', modChannel_get_self]
    rfl
  · rw [setPower_wakeLosses differ', modChannel_get_self, power, loss]
    rw [power] at differ
    refine ite_congr (propext ⟨fun ⟨waking, lost⟩ => ⟨waking, lost, fun same => differ (waking.trans same.symm)⟩,
      fun ⟨waking, lost, _⟩ => ⟨waking, lost⟩⟩) (fun _ => rfl) fun _ => rfl

theorem enterActive_wakeLosses (differ : s.channels[c].power ≠ .active) :
    (enterActive c s).count .wakeLosses =
      if s.channels[c].power = .waking ∧ s.channels[c].wakeLoss = true then satInc (s.count .wakeLosses)
      else s.count .wakeLosses := by
  have power : (Machine.setPower c .active none s).channels[c].power = .active := by
    rw [setPower_channel_self differ]
    rfl
  rw [← setPower_wakeLosses (cause := none) differ]
  unfold enterActive
  dsimp only
  split
  · rw [setPower_wakeLosses (by rw [power]; exact Power.noConfusion), if_neg]
    rintro ⟨waking, -⟩
    exact nomatch waking.symm.trans power
  · rfl

theorem activated_toPower (s : State) (differ : ch.power ≠ .active) :
    ∃ y, SameLines ch y ∧
      ch.activated s c = y.toPower (ch.activePower s c) none (s.standbyDelay * 1000000) (s.wakeLimit c * 1000) := by
  have first : Channel.moved s .active none c ch = ch.toPower .active none (s.standbyDelay * 1000000) (s.wakeLimit c * 1000) :=
    if_neg differ
  have wants : (Channel.moved s .active none c ch).wants s c = ch.wants s c := wants_congr (moved_gainTarget ..)
  unfold Channel.activated Channel.activePower
  dsimp only
  rw [wants]
  split
  · refine ⟨_, moved_lines s .active none c ch, if_neg ?_⟩
    rw [moved_power]
    exact Power.noConfusion
  · exact ⟨ch, .refl ch, first⟩

/-- A channel whose lines are written and that then enters ACTIVE. -/
theorem Shifts.enterActive (differ : (f s.channels[c]).power ≠ .active)
    (power : (f s.channels[c]).power = s.channels[c].power) (loss : (f s.channels[c]).wakeLoss = s.channels[c].wakeLoss) :
    Shifts c ((f s.channels[c]).activePower s c) none f s (enterActive c (s.modChannel c f)) := by
  have self : (s.modChannel c f).channels[c] = f s.channels[c] := modChannel_get_self s c f
  have differ' : (s.modChannel c f).channels[c].power ≠ .active := by rw [self]; exact differ
  have follows : Follows c ((s.modChannel c f).channels[c].activePower (s.modChannel c f) c) (s.modChannel c f)
      (Machine.enterActive c (s.modChannel c f)) := .enterActive differ'
  rw [self] at follows
  have gate := activePower_open s c (f s.channels[c])
  refine ⟨follows.before, ?_, ?_⟩
  · obtain ⟨y, lines, eq⟩ := activated_toPower (s := s) (c := c) differ
    refine ⟨y, lines, fun silent => ?_, ?_⟩
    · rcases (gateOpen_iff _).1 gate with h | h <;> rw [h] at silent <;> cases silent
    · rw [((enterActive_acts (s.modChannel c f)).one (SameView.refl _) c).1, self]
      exact eq
  · rw [enterActive_wakeLosses differ', self, power, loss]
    refine ite_congr (propext ⟨fun ⟨waking, lost⟩ => ⟨waking, lost, fun same => ?_⟩,
      fun ⟨waking, lost, _⟩ => ⟨waking, lost⟩⟩) (fun _ => rfl) fun _ => rfl
    rw [same] at gate
    cases gate

/-- A channel in FAULT whose lines are written and that then enters WAKING (R114, R115). -/
theorem Shifts.enterWaking (fault : (f s.channels[c]).power = .fault) (power : s.channels[c].power = .fault)
    (loss : (f s.channels[c]).wakeLoss = false)
    (round : s.probeChannel = some c → s.probe.round = .idle ∨ s.probe.round = .waking) :
    Shifts c ((f s.channels[c]).wakingPower s c) none f s (enterWaking c (s.modChannel c f)) := by
  have self : (s.modChannel c f).channels[c] = f s.channels[c] := modChannel_get_self s c f
  have differ : (s.modChannel c f).channels[c].power ≠ .waking := by
    rw [self, fault]
    exact Power.noConfusion
  have spared : (if s.channels[c].power = .waking ∧ s.channels[c].wakeLoss = true ∧
      (f s.channels[c]).wakingPower s c ≠ .waking then satInc (s.count .wakeLosses) else s.count .wakeLosses) =
      s.count .wakeLosses := if_neg fun h => Power.noConfusion (power.symm.trans h.1)
  have follows : Follows c ((s.modChannel c f).channels[c].wakingPower (s.modChannel c f) c) (s.modChannel c f)
      (Machine.enterWaking c (s.modChannel c f)) := .enterWaking differ round
  rw [self] at follows
  have moved : Channel.moved s .waking none c (f s.channels[c]) =
      (f s.channels[c]).toPower .waking none (s.standbyDelay * 1000000) (s.wakeLimit c * 1000) :=
    if_neg (by rw [fault]; exact Power.noConfusion)
  have kept : (Machine.setPower c .waking none (s.modChannel c f)).count .wakeLosses = s.count .wakeLosses := by
    rw [setPower_wakeLosses differ, self, fault, if_neg fun h => nomatch h.1]
    rfl
  refine ⟨follows.before, ?_, ?_⟩
  · rw [((enterWaking_acts (s.modChannel c f)).one (SameView.refl _) c).1, self]
    show ∃ y, _ ∧ _ ∧ (f s.channels[c]).woken s c = _
    unfold Channel.woken Channel.wakingPower
    dsimp only
    rw [moved, (toPower_lines ..).ready]
    cases (f s.channels[c]).ready with
    | false => exact ⟨_, .refl _, fun _ => rfl, rfl⟩
    | true =>
      rw [if_pos rfl, if_pos rfl]
      obtain ⟨y, lines, eq⟩ := activated_toPower (s := s) (c := c)
        (ch := (f s.channels[c]).toPower .waking none (s.standbyDelay * 1000000) (s.wakeLimit c * 1000)) Power.noConfusion
      have same : ((f s.channels[c]).toPower .waking none (s.standbyDelay * 1000000) (s.wakeLimit c * 1000)).activePower s c =
          (f s.channels[c]).activePower s c := by
        unfold Channel.activePower
        rw [wants_congr (toPower_lines ..).gainTarget]
      refine ⟨y, (toPower_lines ..).trans lines, fun silent => ?_, by rw [eq, same]⟩
      rcases (gateOpen_iff _).1 (activePower_open s c (f s.channels[c])) with h | h <;> rw [h] at silent <;> cases silent
  · rw [spared]
    cases ready : (f s.channels[c]).ready with
    | false =>
      rw [enterWaking_unready (by rw [self]; exact ready)]
      exact kept
    | true =>
      have here : (Machine.setPower c .waking none (s.modChannel c f)).channels[c].power = .waking ∧
          (Machine.setPower c .waking none (s.modChannel c f)).channels[c].wakeLoss = false := by
        rw [setPower_channel_self differ, self]
        refine ⟨rfl, ?_⟩
        show (if (f s.channels[c]).power = .waking then false else _) = false
        rw [fault, if_neg Power.noConfusion]
        exact loss
      rw [enterWaking_ready (by rw [self]; exact ready),
        enterActive_wakeLosses (by rw [here.1]; exact Power.noConfusion), if_neg (by rw [here.2]; exact fun h => nomatch h.2)]
      exact kept

/-! ### The commands -/

theorem enterStandby_silent (silent : s.level.present = false ∨ s.channels[c].gainTarget = .silence) :
    enterStandby c s = setPower c .standby none s := by
  have view := (setPower_acts s .standby none) c s (SameView.refl s)
  have gain : (Machine.setPower c .standby none s).channels[c].gainTarget = s.channels[c].gainTarget := by
    rw [((setPower_acts s .standby none).one (SameView.refl s) c).1]
    exact (moved_lines ..).gainTarget
  have quiet : effectiveSilence (setPower c .standby none s) c = true := by
    rw [effectiveSilence_view s view.1]
    exact (silence_iff s _).2 (silent.imp id gain.trans)
  unfold enterStandby
  dsimp only
  rw [quiet, Bool.not_true, Bool.and_false, if_neg Bool.false_ne_true]

theorem exec_silenceTimer_eq (watch : s.channels[c].power = .watch) :
    exec (.silenceTimerExpiry c) s = .next (finishEvent s (enterStandby c s)) :=
  congrArg (fun u => Host.Outcome.next (finishEvent s u)) (if_pos watch)

theorem exec_ready_eq (c : Fin 4) (s : State) :
    exec (.readyAsserted c) s =
      .next (finishEvent s
        (if s.channels[c].power = .waking then enterActive c (s.modChannel c fun ch => { ch with ready := true })
         else s.modChannel c fun ch => { ch with ready := true })) := by
  have power : (s.modChannel c fun ch => { ch with ready := true }).channels[c].power = s.channels[c].power := by
    rw [modChannel_get_self]
  show Host.Outcome.next (finishEvent s (if (s.modChannel c _).channels[c].power = .waking then _ else _)) = _
  rw [power]

theorem exec_readyLost_eq (ready : s.channels[c].ready = true) (gate : s.channels[c].power.gateOpen = true) :
    exec (.readyLost c) s =
      .next (finishEvent s (setPower c .fault (some .readyLost) (s.modChannel c fun ch => { ch with ready := false }))) := by
  have power : (s.modChannel c fun ch => { ch with ready := false }).channels[c].power = s.channels[c].power := by
    rw [modChannel_get_self]
  refine congrArg (fun u => Host.Outcome.next (finishEvent s u)) ((if_pos ready).trans (if_pos ?_))
  rw [power]
  exact gate

theorem exec_faultLine_eq (released : s.channels[c].faultLine = false) (sounds : s.channels[c].power.sounding = true) :
    exec (.faultLineAsserted c) s =
      .next (finishEvent s (setPower c .fault (some .line) (s.modChannel c fun ch => { ch with faultLine := true }))) := by
  have power : (s.modChannel c fun ch => { ch with faultLine := true }).channels[c].power = s.channels[c].power := by
    rw [modChannel_get_self]
  refine congrArg (fun u => Host.Outcome.next (finishEvent s u))
    ((if_neg (by rw [released]; exact Bool.false_ne_true)).trans (if_pos ?_))
  rw [power]
  exact sounds

theorem exec_faultReleased_eq (asserted : s.channels[c].faultLine = true) (fault : s.channels[c].power = .fault) :
    exec (.faultLineReleased c) s =
      .next (finishEvent s
        (if s.channels[c].forcedOff && !(s.inEmergency && s.serving) then
          setPower c .forcedOff none (s.modChannel c fun ch => { ch with faultLine := false })
         else enterWaking c (s.modChannel c fun ch => { ch with faultLine := false }))) := by
  have power : (s.modChannel c fun ch => { ch with faultLine := false }).channels[c].power = s.channels[c].power := by
    rw [modChannel_get_self]
  have off : (s.modChannel c fun ch => { ch with faultLine := false }).channels[c].forcedOff = s.channels[c].forcedOff := by
    rw [modChannel_get_self]
  refine congrArg (fun u => Host.Outcome.next (finishEvent s u)) ((if_pos asserted).trans ((if_pos ?_).trans ?_))
  · rw [power]
    exact fault
  · rw [off]
    rfl

theorem exec_wakeTimer_eq (waking : s.channels[c].power = .waking) :
    exec (.wakeTimerExpiry c) s = .next (finishEvent s (setPower c .fault (some .timeout) s)) :=
  congrArg (fun u => Host.Outcome.next (finishEvent s u)) (if_pos waking)

end Sys2Proof.Machine
end

section
/-! PROOFS. The obligation on the amplifier's lines and timers (R111, R112, R114, R115, R122), from the moves of one
channel. -/

namespace Sys2Proof.Machine

variable {s t : State} {c : Fin 4} {p : Power} {cause : Option FaultCause} {f : Channel → Channel}

theorem Lawful.channel (h : Lawful s) (c : Fin 4) : ChannelLaws s.channels[c] := ⟨h.delay c, h.eqs c, h.power c⟩

/-- A silent channel under its laws is settled at its target, with no crossfade and no ramp. -/
theorem ChannelLaws.silent {ch : Channel} (h : ChannelLaws ch) (silent : ch.power.sounding = false) :
    ch.applied = ch.target * 4096 ∧ ch.slew = .settled ∧ ch.crossfade = .idle ∧ ch.ramp = .idle := by
  obtain ⟨⟨-, -, settled, -, -, still⟩, ⟨-, -, -, -, rests, -, -⟩, -⟩ := h
  obtain ⟨crossfade, ramp⟩ := rests silent
  exact ⟨settled (still silent), still silent, crossfade, ramp⟩

/-- A channel that changes its power state with its lines as they are. -/
theorem Shifts.alone (differ : s.channels[c].power ≠ p) : Shifts c p cause id s (Machine.setPower c p cause s) := by
  have same : s.modChannel c id = s := modChannel_id rfl
  have shifts : Shifts c p cause id s (Machine.setPower c p cause (s.modChannel c id)) := .setPower differ rfl rfl
  rw [same] at shifts
  exact shifts

/-- A round whose channel's gate is shut has not reached MARKING (R31). -/
theorem RoundLaw.waits (h : RoundLaw s) (here : s.probeChannel = some c) (shut : s.channels[c].power.gateOpen = false) :
    s.probe.round = .idle ∨ s.probe.round = .waking := by
  obtain ⟨-, -, -, -, -, gate, -⟩ := h
  by_contra runs
  obtain ⟨img, image, opens⟩ := gate (by cases round : s.probe.round <;> simp_all)
  have same : some img.probeChannel = some c := by
    rw [← here, State.probeChannel, image]
    rfl
  cases same
  rw [(gateOpen_iff _).2 opens] at shut
  cases shut

/-- Settles O48: each command writes a line and moves its channel, and the round follows. -/
theorem amplifierMovesChannel : Obligations.AmplifierMovesChannel := by
  intro c s lawful moved ch silent quietStart
  have reach {i : Instr} {p : Power} {cause : Option FaultCause} {ready faultLine : Bool} {f : Channel → Channel}
      {t : State} (runs : exec i s = .next (finishEvent s t)) (shifts : Shifts c p cause f s t)
      (shape : f s.channels[c] = { s.channels[c] with ready := ready, faultLine := faultLine })
      (hasCause : p = .fault → cause.isSome = true) (noCause : p ≠ .fault → cause = none) :
      moved i p cause ready faultLine := by
    obtain ⟨follows, ⟨y, lines, still, channel⟩, losses⟩ := shifts
    have written := lines.trans (toPower_lines p cause (s.standbyDelay * 1000000) (s.wakeLimit c * 1000) y)
    rw [← channel, shape] at written
    have laws : ChannelLaws (f s.channels[c]) := by
      rw [shape]
      exact (lawful.channel c).lines _ _ _
    refine ⟨t, runs, by rw [channel]; rfl, ?_, ?_, by rw [channel]; rfl, by rw [channel]; rfl, written.forcedOff,
      written.ready, written.faultLine, written.target, written.gainTarget, written.preset, fun asleep => ?_, losses,
      follows.others, follows.round, follows.quiet, follows.cutBus, follows.frame⟩
    · rw [channel]
      show (if p = .fault then cause else none) = cause
      by_cases fault : p = .fault
      · rw [if_pos fault]
      · rw [if_neg fault, noCause fault]
    · rw [channel]
      show p.enabled = _
      cases p <;> rfl
    · have moved := laws.toPower (p := p) (cause := cause) hasCause (s.standbyDelay * 1000000) (s.wakeLimit c * 1000)
      rw [← still asleep, ← channel] at moved
      have power : t.channels[c].power = p := by rw [channel]; rfl
      obtain ⟨applied, slew, crossfade, ramp⟩ := moved.silent (by rw [power]; exact asleep)
      exact ⟨applied.trans (by rw [written.target]), slew, crossfade, ramp⟩
  have notRunning (fault : ch.power = .fault) :
      s.probeChannel = some c → s.probe.round = .idle ∨ s.probe.round = .waking := by
    intro here
    refine lawful.round.waits here ?_
    rw [show s.channels[c].power = _ from fault]
    rfl
  have notLost (fault : ch.power = .fault) : ch.wakeLoss = false := by
    obtain ⟨-, -, -, -, -, marked⟩ := lawful.power c
    exact Bool.eq_false_iff.2 fun lost => Power.noConfusion ((marked lost).symm.trans fault)
  have activePower {g : Channel} (gain : g.gainTarget = ch.gainTarget) :
      g.activePower s c = if quietStart then .watch else .active := by
    unfold Channel.activePower
    simp only [Channel.wants_iff, gain]
    rfl
  have readied (waking : ch.power = .waking) :
      exec (.readyAsserted c) s =
        .next (finishEvent s (enterActive c (s.modChannel c fun ch => { ch with ready := true }))) := by
    rw [exec_ready_eq, if_pos waking]
  have activated (waking : ch.power = .waking) :=
    Shifts.enterActive (s := s) (c := c) (f := fun ch => { ch with ready := true })
      (by show ch.power ≠ .active; rw [waking]; exact Power.noConfusion) rfl rfl
  refine ⟨fun watch quiet => ?_, fun waking quiet => ?_, fun waking loud => ?_, fun other => ?_, fun gate ready => ?_,
    fun sounds released => ?_, fun fault asserted off calm => ?_, fun fault asserted retried => ?_, fun waking => ?_⟩
  · refine reach (f := id) ?_ (.alone ?_) rfl Power.noConfusion fun _ => rfl
    · rw [exec_silenceTimer_eq watch, enterStandby_silent quiet]
    · rw [show s.channels[c].power = _ from watch]
      exact Power.noConfusion
  · have shifts := activated waking
    rw [activePower (g := { s.channels[c] with ready := true }) rfl, if_pos quiet] at shifts
    exact reach (readied waking) shifts rfl Power.noConfusion fun _ => rfl
  · have shifts := activated waking
    rw [activePower (g := { s.channels[c] with ready := true }) rfl, if_neg loud] at shifts
    exact reach (readied waking) shifts rfl Power.noConfusion fun _ => rfl
  · rw [exec_ready_eq, if_neg other]
    exact congrArg Host.Outcome.next (event_modChannel (f := fun ch => { ch with ready := true }) rfl)
  · have opens := (gateOpen_iff _).2 gate
    refine reach (exec_readyLost_eq ready opens) (.setPower ?_ rfl rfl) rfl (fun _ => rfl) fun h => absurd rfl h
    show ch.power ≠ .fault
    rcases gate with h | h <;> rw [h] <;> exact Power.noConfusion
  · have sounding := (sounding_iff _).2 sounds
    refine reach (exec_faultLine_eq released sounding) (.setPower ?_ rfl rfl) rfl (fun _ => rfl) fun h => absurd rfl h
    show ch.power ≠ .fault
    rcases sounds with h | h | h <;> rw [h] <;> exact Power.noConfusion
  · refine reach ?_ (.setPower (f := fun ch => { ch with faultLine := false }) ?_ rfl rfl) rfl Power.noConfusion fun _ => rfl
    · rw [exec_faultReleased_eq asserted fault, if_pos]
      rw [Bool.and_eq_true, Bool.not_eq_true', ← Bool.not_eq_true, Bool.and_eq_true]
      exact ⟨off, calm⟩
    · show ch.power ≠ .forcedOff
      rw [fault]
      exact Power.noConfusion
  · have woken := Shifts.enterWaking (s := s) (c := c) (f := fun ch => { ch with faultLine := false }) fault fault
      (notLost fault) (notRunning fault)
    have runs : exec (.faultLineReleased c) s =
        .next (finishEvent s (enterWaking c (s.modChannel c fun ch => { ch with faultLine := false }))) := by
      rw [exec_faultReleased_eq asserted fault, if_neg]
      rw [Bool.and_eq_true, Bool.not_eq_true', ← Bool.not_eq_true, Bool.and_eq_true]
      rintro ⟨off, calm⟩
      rcases retried with on | alarm
      · exact Bool.noConfusion (on.symm.trans off)
      · exact calm alarm
    have shape {r : Bool} (is : ch.ready = r) : ({ s.channels[c] with faultLine := false } : Channel) =
        { s.channels[c] with ready := r, faultLine := false } := by
      rw [← is]
    have reaches (ready : ch.ready = true) : ({ s.channels[c] with faultLine := false } : Channel).wakingPower s c =
        if quietStart then .watch else .active := by
      unfold Channel.wakingPower
      rw [if_pos (show s.channels[c].ready = true from ready), activePower (g := { s.channels[c] with faultLine := false }) rfl]
    refine ⟨fun unready => ?_, fun ready quiet => ?_, fun ready loud => ?_⟩
    · have power : ({ s.channels[c] with faultLine := false } : Channel).wakingPower s c = .waking := by
        unfold Channel.wakingPower
        rw [if_neg (by rw [show s.channels[c].ready = false from unready]; exact Bool.false_ne_true)]
      rw [power] at woken
      exact reach runs woken (shape unready) Power.noConfusion fun _ => rfl
    · rw [reaches ready, if_pos quiet] at woken
      exact reach runs woken (shape ready) Power.noConfusion fun _ => rfl
    · rw [reaches ready, if_neg loud] at woken
      exact reach runs woken (shape ready) Power.noConfusion fun _ => rfl
  · refine reach (f := id) (exec_wakeTimer_eq waking) (.alone ?_) rfl (fun _ => rfl) fun h => absurd rfl h
    rw [show s.channels[c].power = _ from waking]
    exact Power.noConfusion

end Sys2Proof.Machine
end

section
/-! PROOFS. The programme judgement (R109, R110, R112, R113): what its change makes of each channel. -/

namespace Sys2Proof.Machine

variable {s t : State} {c : Fin 4} {ch : Channel}

/-! ### A channel acts on its effective silence -/

theorem heeding_unserved (serves : s.serving = false) (ch : Channel) : ch.heeding s c = ch := by
  unfold Channel.heeding
  rw [serves]
  rfl

theorem heeding_watch (serves : s.serving = true) (watch : ch.power = .watch) :
    ch.heeding s c =
      if s.level.present = false ∨ ch.gainTarget = .silence then ch else ch.moved s .active none c := by
  unfold Channel.heeding
  rw [serves, watch]
  simp only [Bool.not_true, Bool.false_eq_true, if_false, silence_iff]

theorem heeding_standby (serves : s.serving = true) (standby : ch.power = .standby) :
    ch.heeding s c = if s.level.present = false ∨ ch.gainTarget = .silence then ch else ch.woken s c := by
  unfold Channel.heeding
  rw [serves, standby]
  simp only [Bool.not_true, Bool.false_eq_true, if_false, silence_iff]

theorem heeding_active (serves : s.serving = true) (active : ch.power = .active) :
    ch.heeding s c = if ch.wants s c = true then ch.moved s .watch none c else ch := by
  unfold Channel.heeding
  rw [serves, active]
  rfl

theorem heeding_other (other : ch.power = .waking ∨ ch.power = .forcedOff ∨ ch.power = .fault) : ch.heeding s c = ch := by
  unfold Channel.heeding
  split
  · rfl
  · rcases other with h | h | h <;> rw [h]

/-- A channel that wakes with something to hear ends in ACTIVE or WAKING. -/
theorem wakingPower_loud (loud : ¬(s.level.present = false ∨ ch.gainTarget = .silence)) :
    ch.wakingPower s c = if ch.ready then .active else .waking := by
  have unwanted : ¬ch.wants s c = true := fun wants => by
    obtain ⟨-, -, silent, -⟩ := (Channel.wants_iff s c ch).1 wants
    exact loud silent
  unfold Channel.wakingPower Channel.activePower
  rw [if_neg unwanted]

/-- No channel comes to FAULT or leaves it by its silence. -/
theorem heeding_fault (s : State) (c : Fin 4) (ch : Channel) : (ch.heeding s c).power = .fault ↔ ch.power = .fault := by
  cases serves : s.serving with
  | false => rw [heeding_unserved serves]
  | true =>
    cases power : ch.power with
    | watch =>
      rw [heeding_watch serves power]
      split <;> simp [moved_power, power]
    | standby =>
      rw [heeding_standby serves power]
      split
      · simp [power]
      · exact iff_of_false (by rw [woken_power]; exact wakingPower_not_fault s c ch) Power.noConfusion
    | active =>
      rw [heeding_active serves power]
      split <;> simp [moved_power, power]
    | waking => rw [heeding_other (.inl power), power]
    | forcedOff => rw [heeding_other (.inr (.inl power)), power]
    | fault => rw [heeding_other (.inr (.inr power)), power]

/-! ### The judgement -/

/-- The state with the judgement written, before the channels act on it. -/
def judged (present : Bool) (s : State) : State := s.modLevel fun l => { l with present := present }

theorem heedAll_frame (s : State) :
    let t := forChannels actOnSilence s
    t.stc = s.stc ∧ t.image = s.image ∧ t.peers = s.peers ∧ t.selfRec = s.selfRec ∧ t.air = s.air ∧ t.delay = s.delay ∧
    t.solver = s.solver ∧ t.eq = s.eq ∧ t.cue = s.cue ∧ t.emc = s.emc ∧ t.level = s.level := by
  simp [forChannels]

theorem heedAll_published (s : State) : published (forChannels actOnSilence s) = published s := by
  obtain ⟨stc, -, peers, selfRec, air, -, solver, -, -, emc, -⟩ := heedAll_frame s
  refine published_same (by rw [stc]; exact ⟨rfl, rfl⟩) (by rw [solver]; exact ⟨rfl, rfl, rfl, rfl, rfl⟩)
    (by rw [State.frozen, solver, State.frozen]) (fun i => by rw [peers]; exact ⟨rfl, rfl⟩) (by rw [selfRec]) (by rw [air])
    (fun d => ?_) (by rw [State.ownAlarm, stc, emc, State.ownAlarm])
  rw [heedAll_get]
  exact heeding_fault s d _

theorem exec_judgement_eq {present : Bool} (differ : s.level.present ≠ present) :
    exec (.programmeJudgementChange present) s = .next (forChannels actOnSilence (judged present s)) := by
  have eq : setJudgement present s = forChannels actOnSilence (judged present s) := if_neg differ
  show Host.Outcome.next (event (setJudgement present) s) = _
  rw [event_quiet, eq]
  rw [eq, heedAll_published]
  rfl

theorem moved_watch_silence (serves : ch.power ≠ .watch) :
    (ch.moved s .watch none c).silence = some (s.standbyDelay * 1000000) := by
  unfold Channel.moved
  rw [if_neg serves]
  rfl

theorem moved_enable (p : Power) (cause : Option FaultCause) (differ : ch.power ≠ p) :
    (ch.moved s p cause c).enable = p.enabled := by
  unfold Channel.moved
  rw [if_neg differ]
  rfl

theorem activated_enable (differ : ch.power ≠ .active) : (ch.activated s c).enable = true := by
  unfold Channel.activated
  dsimp only
  split
  · rw [moved_enable _ _ (by rw [moved_power]; exact Power.noConfusion)]
    rfl
  · rw [moved_enable _ _ differ]
    rfl

theorem woken_enable (differ : ch.power ≠ .waking) : (ch.woken s c).enable = true := by
  unfold Channel.woken
  dsimp only
  split
  · exact activated_enable (by rw [moved_power]; exact Power.noConfusion)
  · rw [moved_enable _ _ differ]
    rfl

/-- Settles O47: a changed judgement is offered to every channel, each of which acts by its own power state. -/
theorem judgementChangeTaken : Obligations.JudgementChangeTaken := by
  refine fun present s => ⟨fun same => ?_, fun differ => ?_⟩
  · have eq : setJudgement present s = s := if_pos same
    show Host.Outcome.next (event (setJudgement present) s) = _
    rw [event_quiet (by rw [eq]), eq]
  · obtain ⟨stc, image, peers, selfRec, air, delay, solver, eq, cue, emc, level⟩ := heedAll_frame (judged present s)
    refine ⟨_, exec_judgement_eq differ, level, fun unserved => ?_, fun serves c => ?_, stc, image, peers, selfRec, air, delay,
      solver, eq, cue, emc⟩
    · have rests : forChannels actOnSilence (judged present s) = judged present s :=
        forChannels_id fun c => if_pos (by
          show (!s.serving) = true
          rw [unserved]
          rfl)
      rw [rests]
      rfl
    · intro silent
      have serves' : (judged present s).serving = true := serves
      have get : (forChannels actOnSilence (judged present s)).channels[c] = s.channels[c].heeding (judged present s) c :=
        heedAll_get (judged present s) c
      have heard : ((judged present s).level.present = false ∨ s.channels[c].gainTarget = .silence) ↔ silent := Iff.rfl
      rw [get]
      refine ⟨fun watch loud => ?_, fun watch quiet => ?_, fun active quiet auto calm => ?_, fun active stays => ?_,
        fun standby loud => ?_, fun standby quiet => ?_, heeding_other⟩
      · rw [heeding_watch serves' watch, if_neg (mt heard.1 loud), moved_power]
      · rw [heeding_watch serves' watch, if_pos (heard.2 quiet)]
      · rw [heeding_active serves' active, if_pos ((Channel.wants_iff _ _ _).2 ⟨serves', auto, quiet, calm⟩)]
        exact ⟨moved_power .., moved_watch_silence (by rw [active]; exact Power.noConfusion)⟩
      · rw [heeding_active serves' active, if_neg]
        intro wants
        obtain ⟨-, auto, quiet, calm⟩ := (Channel.wants_iff _ _ _).1 wants
        rcases stays with loud | manual | alarm
        · exact loud quiet
        · exact Bool.noConfusion (manual.symm.trans auto)
        · exact Bool.noConfusion (calm.symm.trans alarm)
      · rw [heeding_standby serves' standby, if_neg (mt heard.1 loud), woken_power, wakingPower_loud (mt heard.1 loud)]
        exact ⟨rfl, woken_enable (by rw [standby]; exact Power.noConfusion)⟩
      · rw [heeding_standby serves' standby, if_pos (heard.2 quiet)]

end Sys2Proof.Machine
end

section
/-! PROOFS. Passes of Channel Power Control while no round runs (R105, R111, R119, R120): what they leave of a channel that
sounds, of the line and of the counters. -/

namespace Sys2Proof.Machine

variable {s t u : State} {c : Fin 4} {p : Power} {ch : Channel}

/-! ### What a channel keeps while it sounds -/

/-- All but the row of its power state stays of a channel (R111). -/
def SameSound (a b : Channel) : Prop :=
  b =
    { a with
      power := b.power, cause := b.cause, enable := b.enable, silence := b.silence, wake := b.wake, fade := b.fade
      wakeLoss := b.wakeLoss }

theorem SameSound.refl (a : Channel) : SameSound a a := rfl

theorem SameSound.trans {a b d : Channel} (h : SameSound a b) (h' : SameSound b d) : SameSound a d := by
  unfold SameSound at *
  exact h'.trans (by rw [h])

/-- A sounding state leaves what the channel plays. -/
theorem toPower_sound (sounds : p.sounding = true) (cause : Option FaultCause) (x y : Nat) (ch : Channel) :
    SameSound ch (ch.toPower p cause x y) := by
  unfold SameSound Channel.toPower
  rw [sounds, Bool.not_true, Bool.and_false]
  rfl

theorem moved_sound (sounds : p.sounding = true) (cause : Option FaultCause) (ch : Channel) :
    SameSound ch (ch.moved s p cause c) := by
  unfold Channel.moved
  split
  · exact .refl ch
  · exact toPower_sound sounds ..

theorem activated_sound (ch : Channel) : SameSound ch (ch.activated s c) := by
  unfold Channel.activated
  dsimp only
  split
  · exact (moved_sound rfl none ch).trans (moved_sound rfl none _)
  · exact moved_sound rfl none ch

theorem woken_sound (ch : Channel) : SameSound ch (ch.woken s c) := by
  unfold Channel.woken
  dsimp only
  split
  · exact (moved_sound rfl none ch).trans (activated_sound _)
  · exact moved_sound rfl none ch

theorem heeding_sound (ch : Channel) : SameSound ch (ch.heeding s c) := by
  unfold Channel.heeding
  split
  · exact .refl ch
  · split
    · split
      · exact .refl ch
      · exact moved_sound rfl none ch
    · split
      · exact .refl ch
      · exact woken_sound ch
    · split
      · exact moved_sound rfl none ch
      · exact .refl ch
    all_goals exact .refl ch

theorem alarmed_sound (ch : Channel) : SameSound ch (ch.alarmed s c) := by
  unfold Channel.alarmed
  split
  · exact woken_sound ch
  · exact woken_sound ch
  · exact woken_sound ch
  · exact moved_sound rfl none ch
  · exact .refl ch
  · exact .refl ch

/-! ### The line and the counters while no round runs -/

/-- Only channels and wake losses have moved. -/
structure OnlyChannels (s t : State) : Prop where
  frame : t = { s with channels := t.channels, counters := t.counters }
  count : ∀ k : Counter, k ≠ .wakeLosses → t.count k = s.count k

theorem OnlyChannels.refl (s : State) : OnlyChannels s s := ⟨rfl, fun _ _ => rfl⟩

theorem OnlyChannels.trans (h : OnlyChannels s t) (h' : OnlyChannels t u) : OnlyChannels s u :=
  ⟨h'.frame.trans (by rw [h.frame]), fun k other => (h'.count k other).trans (h.count k other)⟩

/-- Channels written anew. -/
theorem OnlyChannels.written {v : Vector Channel 4} : OnlyChannels s { s with channels := v } := ⟨rfl, fun _ _ => rfl⟩

theorem OnlyChannels.setPower {cause : Option FaultCause} (idle : s.probe.round = .idle) :
    OnlyChannels s (setPower c p cause s) := by
  by_cases same : s.channels[c].power = p
  · rw [Machine.setPower, if_pos same]
    exact .refl s
  · have rests : followed c p (repowered c p cause s) = repowered c p cause s := by
      unfold followed
      split
      · rw [probeFollows_eq, show (repowered c p cause s).probe.round = .idle from idle]
        rfl
      · rfl
    rw [setPower_followed same, rests]
    refine ⟨rfl, fun k other => ?_⟩
    rw [repowered_count]
    simp [other]

theorem onlyChannels_stable (idle : s.probe.round = .idle) : PowerStable (OnlyChannels s) := by
  intro u c p cause _ h
  refine h.trans (.setPower ?_)
  rw [h.frame]
  exact idle

/-! ### Wake losses (R122) -/

theorem setPower_spared {cause : Option FaultCause} (kept : s.channels[c].wakeLoss = false) :
    (setPower c p cause s).count .wakeLosses = s.count .wakeLosses ∧ (setPower c p cause s).channels[c].wakeLoss = false := by
  by_cases same : s.channels[c].power = p
  · rw [setPower, if_pos same]
    exact ⟨rfl, kept⟩
  · refine ⟨(setPower_wakeLosses same).trans (if_neg fun lost => Bool.noConfusion (kept.symm.trans lost.2)), ?_⟩
    rw [setPower_channel_self same]
    show (if s.channels[c].power = .waking then false else s.channels[c].wakeLoss) = false
    rw [kept, ite_self]

theorem enterActive_spared (kept : s.channels[c].wakeLoss = false) :
    (enterActive c s).count .wakeLosses = s.count .wakeLosses := by
  obtain ⟨count, kept'⟩ := setPower_spared (p := .active) (cause := none) kept
  unfold enterActive
  dsimp only
  split
  · exact (setPower_spared kept').1.trans count
  · exact count

theorem enterWaking_spared (kept : s.channels[c].wakeLoss = false) :
    (enterWaking c s).count .wakeLosses = s.count .wakeLosses := by
  obtain ⟨count, kept'⟩ := setPower_spared (p := .waking) (cause := none) kept
  unfold enterWaking
  dsimp only
  split
  · exact (enterActive_spared kept').trans count
  · exact count

/-- A channel that acts on its silence does not leave WAKING. -/
theorem actOnSilence_spared (marked : s.channels[c].wakeLoss = true → s.channels[c].power = .waking) :
    (actOnSilence c s).count .wakeLosses = s.count .wakeLosses := by
  have kept {p : Power} (power : s.channels[c].power = p) (other : p ≠ .waking) : s.channels[c].wakeLoss = false :=
    Bool.eq_false_iff.2 fun lost => other (power.symm.trans (marked lost))
  unfold actOnSilence
  split
  · rfl
  · split
    · next watch =>
      split
      · rfl
      · exact (setPower_spared (kept watch Power.noConfusion)).1
    · next standby =>
      split
      · rfl
      · exact enterWaking_spared (kept standby Power.noConfusion)
    · next active =>
      split
      · exact (setPower_spared (kept active Power.noConfusion)).1
      · rfl
    all_goals rfl

/-- The losses of a pass are those of its channels. -/
theorem pass_losses {s₀ : State} {f : Fin 4 → State → State} {g : Fin 4 → Channel → Channel} (acts : ActsAt s₀ f g)
    {lost : Fin 4 → Bool} (view : SameView s₀ s)
    (each : ∀ (c : Fin 4) (u : State), SameView s₀ u → u.channels[c] = s.channels[c] →
      (f c u).count .wakeLosses = satIncBy (if lost c then 1 else 0) (u.count .wakeLosses)) :
    ((forChannels f s).count .wakeLosses).toNat =
      min 65535 ((s.count .wakeLosses).toNat + (List.finRange 4).countP lost) := by
  have view0 := (acts 0 s view).1
  have view1 := (acts 1 _ view0).1
  have view2 := (acts 2 _ view1).1
  have kept0 := (acts.one view 0).2
  have kept1 := (acts.one view0 1).2
  have kept2 := (acts.one view1 2).2
  have at0 := each 0 s view rfl
  have at1 := each 1 _ view0 (kept0 1 (by decide))
  have at2 := each 2 _ view1 ((kept1 2 (by decide)).trans (kept0 2 (by decide)))
  have at3 := each 3 _ view2 ((kept2 3 (by decide)).trans ((kept1 3 (by decide)).trans (kept0 3 (by decide))))
  have all : (List.finRange 4).countP lost =
      (if lost 0 then 1 else 0) + (if lost 1 then 1 else 0) + (if lost 2 then 1 else 0) + (if lost 3 then 1 else 0) := by
    rw [show List.finRange 4 = [0, 1, 2, 3] from rfl]
    simp only [List.countP_cons, List.countP_nil]
    omega
  show ((f 3 (f 2 (f 1 (f 0 s)))).count .wakeLosses).toNat = _
  rw [at3, satIncBy_toNat, at2, satIncBy_toNat, at1, satIncBy_toNat, at0, satIncBy_toNat, all]
  omega

/-! ### The equaliser and Channel Power Control take EMERGENCY -/

/-- A channel whose equaliser takes its wanted values (R105, R106). -/
def Channel.equalised (s : State) (c : Fin 4) (ch : Channel) : Channel :=
  (if s.serving then ch.request (ch.wanted s c) else ch).retarget ((if s.serving then ch.request (ch.wanted s c) else ch).gainWanted s c)

theorem equaliserEmergency_get (s : State) (c : Fin 4) :
    (equaliserEmergency s).channels[c] = s.channels[c].equalised s c := by
  unfold equaliserEmergency Channel.equalised
  split
  · have requested := (requestChannel_acts s).all (SameView.refl s)
    rw [← requested.2 c]
    exact ((retargetChannel_acts s).all requested.1).2 c
  · exact ((retargetChannel_acts s).all (SameView.refl s)).2 c

theorem requestAll_only (s : State) : OnlyChannels s (requestAll s) := .written

theorem retargetAll_only (s : State) : OnlyChannels s (forChannels retargetChannel s) := .written

theorem equaliserEmergency_only (s : State) : OnlyChannels s (equaliserEmergency s) := by
  unfold equaliserEmergency
  split
  · exact (requestAll_only s).trans (retargetAll_only _)
  · exact retargetAll_only s

/-- EMERGENCY entry at a station that serves: each channel takes its values and wakes. -/
theorem entered_get (serves : s.serving = true) (c : Fin 4) :
    (powerEmergencyEntry (equaliserEmergency s)).channels[c] = (s.channels[c].equalised s c).alarmed s c := by
  have view := equaliserEmergency_view s
  unfold powerEmergencyEntry
  rw [if_pos ((serving_view s view).trans serves), ((emergencyChannel_acts s).all view).2 c, equaliserEmergency_get]

theorem entered_get_fault (serves : s.serving = false) (mode : s.stc.mode = .configFault) (c : Fin 4) :
    (powerEmergencyEntry (equaliserEmergency s)).channels[c] = (s.channels[c].equalised s c).woken s c := by
  have view := equaliserEmergency_view s
  unfold powerEmergencyEntry
  rw [if_neg (by rw [serving_view s view, serves]; exact Bool.false_ne_true), if_pos (by rw [view.1]; exact mode),
    ((enterWaking_acts s).all view).2 c, equaliserEmergency_get]

theorem left_get (serves : s.serving = true) (c : Fin 4) :
    (powerEmergencyExit (equaliserEmergency s)).channels[c] = (s.channels[c].equalised s c).calmed s c := by
  have view := equaliserEmergency_view s
  unfold powerEmergencyExit
  rw [if_pos ((serving_view s view).trans serves), ((exitChannel_acts s).all view).2 c, equaliserEmergency_get]

theorem left_get_fault (serves : s.serving = false) (mode : s.stc.mode = .configFault) (c : Fin 4) :
    (powerEmergencyExit (equaliserEmergency s)).channels[c] = (s.channels[c].equalised s c).moved s .standby none c := by
  have view := equaliserEmergency_view s
  unfold powerEmergencyExit
  rw [if_neg (by rw [serving_view s view, serves]; exact Bool.false_ne_true), if_pos (by rw [view.1]; exact mode),
    ((setPower_acts s .standby none).all view).2 c, equaliserEmergency_get]

theorem entered_only (idle : s.probe.round = .idle) : OnlyChannels s (powerEmergencyEntry (equaliserEmergency s)) :=
  PowerStable.powerEmergencyEntry (onlyChannels_stable idle) (equaliserEmergency_only s)

theorem left_only (idle : s.probe.round = .idle) : OnlyChannels s (powerEmergencyExit (equaliserEmergency s)) :=
  PowerStable.powerEmergencyExit (onlyChannels_stable idle) (equaliserEmergency_only s)

end Sys2Proof.Machine
end

section
/-! PROOFS. EMERGENCY entry (R131, R133, R30, R33, R44, R58, R105, R106, R119, R120, R154). -/

namespace Sys2Proof.Machine

variable {s t u : State} {c : Fin 4} {ch : Channel} {src : Nat}

/-! ### The Probe Unit, the Cue Engine and the solver -/

/-- The windows open in the slots. -/
def openWindows (s : State) : Nat :=
  s.probe.slots.toList.countP fun slot => match slot with
    | .opened _ => true
    | _ => false

theorem openWindows_eq (s : State) : openWindows s = s.probe.slots.toList.countP fun slot => slot.openFor fun _ => true := by
  refine List.countP_congr fun slot _ => ?_
  cases slot <;> exact Iff.rfl

/-- The windows that EMERGENCY entry cancels are those open before the abort. -/
theorem abortRound_opened (s : State) :
    ((abortRound false s).probe.slots.toList.filter (·.openFor fun _ => true)).length = openWindows s := by
  rw [openWindows_eq, ← List.countP_eq_length_filter]
  show (mapVector Slot.freeReserved s.probe.slots).toList.countP _ = _
  rw [toList_two, toList_two]
  have freed (slot : Slot) : slot.freeReserved.openFor (fun _ => true) = slot.openFor fun _ => true := by
    cases slot <;> rfl
  have zero : (mapVector Slot.freeReserved s.probe.slots)[0] = s.probe.slots[0].freeReserved := mapVector_get _ _ (0 : Fin 2)
  have one : (mapVector Slot.freeReserved s.probe.slots)[1] = s.probe.slots[1].freeReserved := mapVector_get _ _ (1 : Fin 2)
  rw [zero, one]
  simp only [List.countP_cons, List.countP_nil, freed]

theorem probeEmergency_count (s : State) (k : Counter) :
    (probeEmergency s).count k =
      if k = .capturesCancelled then satIncBy (openWindows s) (s.count k)
      else if k = .probeAborts ∧ s.probe.round ≠ .idle then satInc (s.count k) else s.count k := by
  unfold probeEmergency
  by_cases idle : s.probe.round = .idle
  · rw [if_pos idle]
    have cut : (cancelWindows (fun _ => true) s).count k =
        if k = .capturesCancelled then satIncBy (openWindows s) (s.count k) else s.count k := by
      rw [openWindows_eq, List.countP_eq_length_filter]
      exact count_bumpBy _ .capturesCancelled k _
    rw [cut]
    simp [idle]
  · rw [if_neg idle]
    have cut : (cancelWindows (fun _ => true) (abortRound false s)).count k =
        if k = .capturesCancelled then satIncBy (openWindows s) ((abortRound false s).count k)
        else (abortRound false s).count k := by
      rw [← abortRound_opened]
      exact count_bumpBy _ .capturesCancelled k _
    rw [cut, abortRound_count]
    by_cases cancelled : k = .capturesCancelled
    · subst cancelled
      rfl
    · simp [cancelled, idle]

theorem probeEmergency_timer (s : State) :
    (probeEmergency s).probe.timer = if s.probe.round = .idle then s.probe.timer else some 5000000 := by
  unfold probeEmergency
  split <;> rfl

theorem probeEmergency_idle_bus (idle : s.probe.round = .idle) : (probeEmergency s).bus = s.bus := by
  unfold probeEmergency
  rw [if_pos idle]
  rfl

/-- No MARK waits or is on the line after EMERGENCY entry (R30, R33). -/
theorem probeEmergency_bus (fit : QueueFit s.bus s.probe.round) :
    (probeEmergency s).bus =
      { s.bus with
        queue := s.bus.queue.filter fun e => !e.frame.body.isMark
        attempt := s.bus.attempt.filter fun a => !a.frame.body.isMark } := by
  unfold probeEmergency
  split
  · next idle =>
    have queue : s.bus.queue.filter (fun e => !e.frame.body.isMark) = s.bus.queue :=
      List.filter_eq_self.2 fun e mem => by
        rw [fit.unmarked (by rw [idle]; exact Round.noConfusion) e mem]
        rfl
    have attempt : s.bus.attempt.filter (fun a => !a.frame.body.isMark) = s.bus.attempt := by
      cases under : s.bus.attempt with
      | none => rfl
      | some a =>
        refine Option.filter_some_pos ?_
        by_contra marked
        obtain ⟨marking, -⟩ := fit.driven a under (by simpa using marked)
        exact Round.noConfusion (idle.symm.trans marking)
    rw [queue, attempt]
    rfl
  · rfl

theorem probeEmergency_line (s : State) :
    probeEmergency s =
      { s with
        bus := (probeEmergency s).bus, probe := (probeEmergency s).probe, counters := (probeEmergency s).counters } := by
  unfold probeEmergency
  split <;> rfl

theorem abandonList_line (s : State) : abandonList s = { s with cue := (abandonList s).cue } := by
  unfold abandonList
  split <;> rfl

theorem abandonList_cue (s : State) :
    (∀ c, s.cue.list.context = some c → (abandonList s).cue.lastList = some ⟨c.cue, .emergency, c.position⟩) ∧
    (s.cue.list = .idle → (abandonList s).cue = s.cue) := by
  unfold abandonList
  refine ⟨fun c context => ?_, fun idle => ?_⟩
  · rw [context]
    rfl
  · rw [idle]
    rfl

/-- The state in which the Probe Unit has taken EMERGENCY entry. -/
def probeCalmed (s : State) : State := probeEmergency (s.modEmc fun e => { e with emergency := true })

theorem emergencyBegun_line (s : State) :
    emergencyBegun s =
      { s with
        bus := (probeCalmed s).bus
        probe := (probeCalmed s).probe
        counters := (probeCalmed s).counters
        cue := (abandonList (probeCalmed s)).cue
        solver := { s.solver with emergencyFreeze := true, hold := s.solver.hold.follow true }
        emc := { s.emc with emergency := true } } := by
  refine state_eq ?_ ?_ ?_ ?_ ?_ ?_ ?_ ?_ ?_ ?_ ?_ ?_ ?_ ?_ ?_ ?_ ?_ ?_
  all_goals simp [emergencyBegun, setFreeze, probeCalmed]

/-! ### A channel takes EMERGENCY -/

/-- In EMERGENCY no channel wants WATCH. -/
theorem wakingPower_alarm (alarm : s.emc.emergency = true) (ch : Channel) :
    ch.wakingPower s c = if ch.ready then .active else .waking := by
  have unwanted : ¬ch.wants s c = true := fun wants => by
    obtain ⟨-, -, -, calm⟩ := (Channel.wants_iff s c ch).1 wants
    exact Bool.noConfusion (alarm.symm.trans calm)
  unfold Channel.wakingPower Channel.activePower
  rw [if_neg unwanted]

theorem alarmed_power (alarm : s.emc.emergency = true) (ch : Channel) :
    (ch.alarmed s c).power =
      match ch.power with
      | .standby | .forcedOff | .fault => if ch.ready then .active else .waking
      | .watch => .active
      | .active => .active
      | .waking => .waking := by
  unfold Channel.alarmed
  cases power : ch.power with
  | standby => exact (woken_power s c ch).trans (wakingPower_alarm alarm ch)
  | forcedOff => exact (woken_power s c ch).trans (wakingPower_alarm alarm ch)
  | fault => exact (woken_power s c ch).trans (wakingPower_alarm alarm ch)
  | watch => exact moved_power ..
  | active => exact power
  | waking => exact power

/-- A gain target leaves what is requested, and the rest but gain, factor and ramp. -/
theorem retarget_rest (g : GainTarget) (ch : Channel) :
    ch.retarget g = { ch with gainTarget := g, factor := (ch.retarget g).factor, ramp := (ch.retarget g).ramp } := by
  unfold Channel.retarget
  split
  · next same => rw [same]
  · split <;> rfl

/-- A request leaves all but the setting and its crossfade. -/
theorem request_rest (w : Setting) (ch : Channel) :
    ch.request w =
      { ch with
        active := (ch.request w).active, crossfade := (ch.request w).crossfade, waiting := (ch.request w).waiting
        nextStages := (ch.request w).nextStages } := by
  unfold Channel.request
  split
  · rfl
  · split
    · rfl
    · split <;> rfl

/-- A silent channel under its laws takes a gain target at once. -/
theorem retarget_silent (laws : ChannelLaws ch) (silent : ch.power.sounding = false) (g : GainTarget) :
    ch.retarget g = { ch with gainTarget := g, factor := .of g, ramp := .idle } := by
  obtain ⟨-, ⟨-, -, -, factor, rests, -, -⟩, -⟩ := laws
  have ramp := (rests silent).2
  unfold Channel.retarget
  split
  · next same => rw [same, ← factor ramp, ← ramp]
  · rw [silent, if_neg Bool.false_ne_true]

/-- A silent channel under its laws takes a setting at once. -/
theorem request_silent (laws : ChannelLaws ch) (silent : ch.power.sounding = false) (w : Setting) :
    ch.request w = { ch with active := w } := by
  obtain ⟨-, -, crossfade, -⟩ := laws.silent silent
  by_cases same : w = ch.active
  · rw [request_active same.symm crossfade, same]
  · rw [request_idle crossfade same, silent, if_neg Bool.false_ne_true]

/-- In CONFIG_FAULT a channel that stands by takes 0.0 dB and wakes (R106, R120). -/
theorem woken_fault (laws : ChannelLaws ch) (standby : ch.power = .standby) (image : s.image = none) (serves : s.serving = false) :
    (ch.retarget (.gain 160)).woken s c =
      { ch with
        gainTarget := .gain 160
        factor := .of (.gain 160)
        power := if ch.ready then .active else .waking
        enable := true
        wake := if ch.ready then none else some 500000
        fade := if ch.ready then some 0 else none } := by
  have silent : ch.power.sounding = false := by rw [standby]; rfl
  obtain ⟨-, -, -, ramp⟩ := laws.silent silent
  obtain ⟨-, silenceIff, -, causeIff, -, marked⟩ := laws.power
  have silence : ch.silence = none := by
    rw [← Option.not_isSome_iff_eq_none, silenceIff, standby]
    exact Power.noConfusion
  have cause : ch.cause = none := by
    rw [← Option.not_isSome_iff_eq_none, causeIff, standby]
    exact Power.noConfusion
  have loss : ch.wakeLoss = false := Bool.eq_false_iff.2 fun lost => Power.noConfusion (standby.symm.trans (marked lost))
  have limit : s.wakeLimit c = 500 := by
    unfold State.wakeLimit
    rw [image]
    rfl
  have first : Channel.moved s .waking none c (ch.retarget (.gain 160)) =
      { ch with gainTarget := .gain 160, factor := .of (.gain 160), power := .waking, enable := true, wake := some 500000
                fade := none } := by
    rw [retarget_silent laws silent]
    unfold Channel.moved
    rw [if_neg (by show ch.power ≠ .waking; rw [standby]; exact Power.noConfusion), limit]
    unfold Channel.toPower
    dsimp only
    rw [standby]
    show Channel.mk .. = Channel.mk ..
    congr 1
    · exact ramp.symm
    · exact cause.symm
    · exact silence.symm
  unfold Channel.woken
  dsimp only
  rw [first]
  dsimp only
  cases ready : ch.ready with
  | false => rfl
  | true =>
    rw [if_pos rfl]
    unfold Channel.activated
    dsimp only
    rw [if_neg]
    · unfold Channel.moved Channel.toPower
      dsimp only
      rw [if_neg Power.noConfusion]
      show Channel.mk .. = Channel.mk ..
      congr 1
      · exact cause.symm
      · exact silence.symm
      · exact loss.symm
    · intro wants
      obtain ⟨serves', -⟩ := (Channel.wants_iff s c _).1 wants
      exact Bool.noConfusion (serves.symm.trans serves')

/-! ### The EVAC SET that brings EMERGENCY -/

/-- The state in which the EVAC SET has been counted and its source taken. -/
def alarmRaised (src : Nat) (s : State) : State := sourced src true (countValid s)

theorem noSources (alarm : AlarmLaw s) (calm : s.emc.emergency = false) : s.ownAlarm = false ∧ s.emc.sources = [] := by
  obtain ⟨follows, -⟩ := alarm
  rw [calm] at follows
  have both := Bool.or_eq_false_iff.1 follows.symm
  exact ⟨both.1, by simpa using both.2⟩

theorem alarmRaised_line (src : Nat) (s : State) :
    alarmRaised src s =
      { s with
        bus := s.bus.counted, counters := (bump .rxGood s).counters
        emc := { s.emc with sources := addSource src s.emc.sources } } := by
  unfold alarmRaised
  rw [countValid_eq]
  rfl

theorem takeEvac_enters (alarm : AlarmLaw s) (calm : s.emc.emergency = false) :
    takeEvac src true (countValid s) = powerEmergencyEntry (equaliserEmergency (emergencyBegun (alarmRaised src s))) := by
  obtain ⟨noAlarm, sources⟩ := noSources alarm calm
  have own : (alarmRaised src s).ownAlarm = false := by
    rw [alarmRaised_line]
    exact noAlarm
  have listed : (alarmRaised src s).emc.sources = [src] := by
    rw [alarmRaised_line]
    show addSource src s.emc.sources = [src]
    rw [sources]
    rfl
  have outside : (alarmRaised src s).inEmergency = false := by
    rw [alarmRaised_line]
    exact calm
  show followInputs (alarmRaised src s) = _
  unfold followInputs
  dsimp only
  rw [own, listed, outside]
  rfl

/-- EMERGENCY has begun: what the Probe Unit, the Cue Engine and the solver have taken. -/
theorem begun_line (src : Nat) (s : State) :
    emergencyBegun (alarmRaised src s) =
      { s with
        bus := (probeCalmed (alarmRaised src s)).bus
        probe := (probeCalmed (alarmRaised src s)).probe
        counters := (probeCalmed (alarmRaised src s)).counters
        cue := (abandonList (probeCalmed (alarmRaised src s))).cue
        solver := { s.solver with emergencyFreeze := true, hold := s.solver.hold.follow true }
        emc := { s.emc with sources := addSource src s.emc.sources, emergency := true } } := by
  rw [emergencyBegun_line]
  rw [alarmRaised_line]

/-- Counting a valid frame leaves the queue and the attempt. -/
theorem counted_queue (b : Bus) :
    b.counted.queue = b.queue ∧ b.counted.attempt = b.attempt ∧ b.counted.nextArrival = b.nextArrival := by
  unfold Bus.counted
  split
  · split <;> exact ⟨rfl, rfl, rfl⟩
  · exact ⟨rfl, rfl, rfl⟩

theorem raised_bus (fit : QueueFit s.bus s.probe.round) :
    (probeCalmed (alarmRaised src s)).bus =
      { (countValid s).bus with
        queue := s.bus.queue.filter fun e => !e.frame.body.isMark
        attempt := s.bus.attempt.filter fun a => !a.frame.body.isMark } := by
  obtain ⟨queue, attempt, arrival⟩ := counted_queue s.bus
  have counted : ((alarmRaised src s).modEmc fun e => { e with emergency := true }).bus = s.bus.counted := by
    rw [alarmRaised_line]
    rfl
  have round : ((alarmRaised src s).modEmc fun e => { e with emergency := true }).probe.round = s.probe.round := by
    rw [alarmRaised_line]
    rfl
  unfold probeCalmed
  rw [probeEmergency_bus (by rw [counted, round]; exact fit.congr queue arrival attempt), counted, countValid_eq]
  dsimp only
  rw [queue, attempt]

/-- A valid frame counts in its own counter alone. -/
theorem countValid_spared {k : Counter} (other : k ≠ .rxGood) : (countValid s).count k = s.count k := by
  rw [countValid_eq]
  exact (count_bump .rxGood k s).trans (if_neg other)

theorem raised_count (k : Counter) :
    (probeCalmed (alarmRaised src s)).count k =
      if k = .capturesCancelled then satIncBy (openWindows s) ((countValid s).count k)
      else if k = .probeAborts ∧ s.probe.round ≠ .idle then satInc ((countValid s).count k) else (countValid s).count k := by
  unfold probeCalmed
  rw [probeEmergency_count, alarmRaised_line, countValid_eq]
  rfl

theorem raised_timer :
    (probeCalmed (alarmRaised src s)).probe.timer = if s.probe.round = .idle then s.probe.timer else some 5000000 := by
  unfold probeCalmed
  rw [probeEmergency_timer, alarmRaised_line]
  rfl

theorem raised_quiet (lawful : Lawful s) : Quiet (probeCalmed (alarmRaised src s)) := by
  refine probeEmergency_quiet (s := (alarmRaised src s).modEmc fun e => { e with emergency := true }) ?_
  rw [alarmRaised_line]
  exact lawful.aired.core.slots

theorem raised_cue :
    (abandonList (probeCalmed (alarmRaised src s))).cue.list = .idle ∧
    (∀ c, s.cue.list.context = some c →
      (abandonList (probeCalmed (alarmRaised src s))).cue.lastList = some ⟨c.cue, .emergency, c.position⟩) ∧
    (s.cue.list = .idle → (abandonList (probeCalmed (alarmRaised src s))).cue = s.cue) := by
  have cue : (probeCalmed (alarmRaised src s)).cue = s.cue := by
    unfold probeCalmed
    rw [probeEmergency_line, alarmRaised_line]
    rfl
  obtain ⟨abandoned, rests⟩ := abandonList_cue (probeCalmed (alarmRaised src s))
  rw [cue] at abandoned rests
  exact ⟨abandonList_list _, abandoned, rests⟩

/-! ### What EMERGENCY entry leaves of a channel -/

/-- A channel that serves in EMERGENCY asks for the preset and the gain that the image gives it (R101, R105). -/
theorem equalised_alarm {img : Image} (serves : s.serving = true) (alarm : s.emc.emergency = true) (image : s.image = some img)
    (ch : Channel) :
    ch.equalised s c =
      (ch.request (.eq img.channels[c].evacPreset s.eq.shelf)).retarget (.gain img.channels[c].evacGain) := by
  have inside : s.inEmergency = true := alarm
  unfold Channel.equalised Channel.wanted Channel.gainWanted
  rw [serves, inside, image]
  rfl

/-- What is requested, and all that is kept through a request, a gain target and wakening. -/
theorem asked_alarmed (w : Setting) (g : GainTarget) (ch : Channel) :
    ((ch.request w).retarget g).alarmed s c =
      { ch with
        active := (ch.request w).active
        crossfade := (ch.request w).crossfade
        waiting := (ch.request w).waiting
        nextStages := (ch.request w).nextStages
        gainTarget := g
        factor := ((ch.request w).retarget g).factor
        ramp := ((ch.request w).retarget g).ramp
        power := (((ch.request w).retarget g).alarmed s c).power
        cause := (((ch.request w).retarget g).alarmed s c).cause
        enable := (((ch.request w).retarget g).alarmed s c).enable
        silence := (((ch.request w).retarget g).alarmed s c).silence
        wake := (((ch.request w).retarget g).alarmed s c).wake
        fade := (((ch.request w).retarget g).alarmed s c).fade
        wakeLoss := (((ch.request w).retarget g).alarmed s c).wakeLoss } := by
  have sound : SameSound ((ch.request w).retarget g) (((ch.request w).retarget g).alarmed s c) := alarmed_sound _
  have kept := retarget_rest g (ch.request w)
  have asked := request_rest w ch
  unfold SameSound at sound
  generalize ((ch.request w).retarget g).alarmed s c = x at sound ⊢
  generalize (ch.request w).retarget g = y at sound kept ⊢
  generalize ch.request w = z at kept asked ⊢
  rw [sound, kept, asked]

theorem request_silent_active (laws : ChannelLaws ch) (silent : ch.power.sounding = false) (w : Setting) (g : GainTarget) :
    (ch.request w).active = w ∧ ((ch.request w).retarget g).factor = .of g := by
  have laws' : ChannelLaws (ch.request w) := laws.request w
  have asked := request_silent laws silent w
  have silent' : (ch.request w).power.sounding = false := by
    rw [asked]
    exact silent
  refine ⟨by rw [asked], by rw [retarget_silent laws' silent']⟩

theorem request_waits {w : Setting} (runs : ch.crossfade ≠ .idle) : (ch.request w).waiting = some w := by
  cases fade : ch.crossfade with
  | idle => exact absurd fade runs
  | running a b k => rw [request_running w fade]

theorem asked_alarmed_power (alarm : s.emc.emergency = true) (w : Setting) (g : GainTarget) (ch : Channel) :
    (((ch.request w).retarget g).alarmed s c).power =
      match ch.power with
      | .standby | .forcedOff | .fault => if ch.ready then .active else .waking
      | .watch => .active
      | .active => .active
      | .waking => .waking := by
  have power : ((ch.request w).retarget g).power = ch.power := by rw [retarget_rest, request_rest]
  have ready : ((ch.request w).retarget g).ready = ch.ready := by rw [retarget_rest, request_rest]
  rw [alarmed_power alarm, power, ready]

/-! ### The two halves of the statement -/

/-- EMERGENCY entry outside CONFIG_FAULT, seen from the state before the EVAC. -/
structure Entered (src : Nat) (s t : State) : Prop where
  only : OnlyChannels (emergencyBegun (alarmRaised src s)) t
  channel : ∀ (img : Image) (c : Fin 4), s.image = some img →
    t.channels[c] =
      ((s.channels[c].request (.eq img.channels[c].evacPreset s.eq.shelf)).retarget
        (.gain img.channels[c].evacGain)).alarmed (emergencyBegun (alarmRaised src s)) c

/-- EMERGENCY has begun with no round running. -/
theorem begun_idle (lawful : Lawful s) : (emergencyBegun (alarmRaised src s)).probe.round = .idle := by
  rw [begun_line]
  exact (raised_quiet lawful).1

theorem entered (lawful : Lawful s) (serves : s.serving = true) :
    Entered src s (powerEmergencyEntry (equaliserEmergency (emergencyBegun (alarmRaised src s)))) where
  only := entered_only (begun_idle lawful)
  channel := fun img c image => by
    have serves' : (emergencyBegun (alarmRaised src s)).serving = true := by
      rw [begun_line]
      exact serves
    have alarm' : (emergencyBegun (alarmRaised src s)).emc.emergency = true := by rw [begun_line]
    have image' : (emergencyBegun (alarmRaised src s)).image = some img := by
      rw [begun_line]
      exact image
    have channels : (emergencyBegun (alarmRaised src s)).channels = s.channels := by rw [begun_line]
    have eqs : (emergencyBegun (alarmRaised src s)).eq = s.eq := by rw [begun_line]
    rw [entered_get serves', equalised_alarm serves' alarm' image', channels, eqs]

theorem Entered.count (h : Entered src s t) {k : Counter} (other : k ≠ .wakeLosses) :
    t.count k = (probeCalmed (alarmRaised src s)).count k := by
  rw [h.only.count k other, begun_line]
  rfl

theorem Entered.line (h : Entered src s t) :
    t =
      { s with
        bus := (probeCalmed (alarmRaised src s)).bus
        probe := (probeCalmed (alarmRaised src s)).probe
        counters := t.counters
        channels := t.channels
        cue := (abandonList (probeCalmed (alarmRaised src s))).cue
        solver := { s.solver with emergencyFreeze := true, hold := s.solver.hold.follow true }
        emc := { s.emc with sources := addSource src s.emc.sources, emergency := true } } := by
  have frame := h.only.frame
  rw [begun_line] at frame
  exact frame

/-- In CONFIG_FAULT an EVAC SET brings 0.0 dB to every channel at once and wakes it (R101, R106, R120). -/
theorem fault_entered (station : isStation src = true) (other : src ≠ s.number) (lawful : Lawful s)
    (calm : s.emc.emergency = false) (mode : s.stc.mode = .configFault) :
    ∃ t, exec (.evac src true) s = .next t ∧ t.emc.emergency = true ∧
      t.solver = { s.solver with emergencyFreeze := true } ∧
      (∀ c : Fin 4, t.channels[c] =
        { s.channels[c] with
          gainTarget := .gain 160
          factor := .of (.gain 160)
          power := if s.channels[c].ready then .active else .waking
          enable := true
          wake := if s.channels[c].ready then none else some 500000
          fade := if s.channels[c].ready then some 0 else none }) ∧
      t.probe.round = .idle ∧ (∀ i : Fin 2, t.probe.slots[i] = .free) ∧
      t.bus = (countValid s).bus ∧ t.cue = s.cue ∧ t.eq = s.eq ∧ t.peers = s.peers ∧ t.selfRec = s.selfRec ∧
      t.stc = s.stc ∧ t.image = s.image ∧ t.air = s.air ∧ t.delay = s.delay ∧ t.level = s.level := by
  obtain ⟨-, sources⟩ := noSources lawful.alarm calm
  obtain ⟨imageIff, -⟩ := lawful.start
  obtain ⟨-, -, -, -, standby⟩ := lawful.held
  obtain ⟨rests, -⟩ := lawful.round
  obtain ⟨-, -, -, listServes⟩ := lawful.calm
  obtain ⟨rank, -⟩ := lawful.rank
  have serves : s.serving = false := by
    unfold State.serving
    rw [mode]
    rfl
  have image : s.image = none := by
    rw [← Option.not_isSome_iff_eq_none, imageIff, mode]
    decide
  have idle : s.probe.round = .idle := (rests (by rw [mode]; decide)).1
  have noList : s.cue.list = .idle := by
    by_contra runs
    exact Bool.noConfusion (serves.symm.trans (listServes runs))
  have hold : s.solver.hold = .stopped := by
    rw [serves, if_neg Bool.false_ne_true] at rank
    exact rank.2.2.2
  have line := begun_line src s
  have quiet := raised_quiet (src := src) lawful
  obtain ⟨-, -, cue⟩ := raised_cue (src := src) (s := s)
  have bus : (probeCalmed (alarmRaised src s)).bus = (countValid s).bus := by
    unfold probeCalmed
    rw [alarmRaised_line, countValid_eq]
    exact probeEmergency_idle_bus idle
  generalize begun : emergencyBegun (alarmRaised src s) = b at line
  have serves' : b.serving = false := by rw [line]; exact serves
  have mode' : b.stc.mode = .configFault := by rw [line]; exact mode
  have image' : b.image = none := by rw [line]; exact image
  have inside : b.inEmergency = true := by rw [line]; rfl
  have only := entered_only (s := b) (by rw [line]; exact quiet.1)
  have channel (c : Fin 4) :
      (powerEmergencyEntry (equaliserEmergency b)).channels[c] = (s.channels[c].retarget (.gain 160)).woken b c := by
    have channels : b.channels = s.channels := by rw [line]
    have values : s.channels[c].equalised b c = s.channels[c].retarget (.gain 160) := by
      unfold Channel.equalised Channel.gainWanted
      rw [serves', mode', inside]
      rfl
    rw [entered_get_fault serves' mode', channels, values]
  have taken : exec (.evac src true) s = .next (powerEmergencyEntry (equaliserEmergency b)) := by
    rw [exec_evac_kept station other, takeEvac_enters lawful.alarm calm, begun]
    exact congrArg Host.Outcome.next (finishEvent_not_run (.inl (by simp [mode])))
  have frame := only.frame
  refine ⟨_, taken, ?_⟩
  generalize powerEmergencyEntry (equaliserEmergency b) = t at frame channel
  rw [line] at frame
  refine ⟨by rw [frame], ?_, fun c => ?_, by rw [frame]; exact quiet.1, by rw [frame]; exact quiet.2, by rw [frame]; exact bus,
    by rw [frame]; exact cue noList, by rw [frame], by rw [frame], by rw [frame], by rw [frame], by rw [frame],
    by rw [frame], by rw [frame], by rw [frame]⟩
  · have held : s.solver.hold.follow true = s.solver.hold := by
      rw [hold]
      rfl
    rw [frame, held]
  · rw [channel]
    exact woken_fault (lawful.channel c) (standby mode calm c).1 image' serves'

/-- Settles O17: EMERGENCY begins in the Probe Unit, the solver and the Cue Engine, then in the equaliser and in Channel Power
Control, which find no round running. -/
theorem emergencyEntered : Obligations.EmergencyEntered := by
  refine ⟨fun src s station other lawful calm mode => fault_entered station other lawful calm mode,
    fun src s station other lawful calm serves => ?_⟩
  obtain ⟨-, sources⟩ := noSources lawful.alarm calm
  have all := entered (src := src) lawful serves
  have taken := takeEvac_enters (src := src) lawful.alarm calm
  generalize powerEmergencyEntry (equaliserEmergency (emergencyBegun (alarmRaised src s))) = t at all taken
  obtain ⟨idle, free⟩ := raised_quiet (src := src) lawful
  obtain ⟨noList, abandoned, kept⟩ := raised_cue (src := src) (s := s)
  have bus := raised_bus (src := src) ((queueLaw_iff s).1 lawful.queue)
  have line := all.line
  refine ⟨t, ?_, ?_, ?_, ?_, ?_, ?_, ?_, ?_, ?_, ?_, ?_, ?_, ?_, ?_, ?_, ?_, ?_, ?_, ?_, ?_⟩
  · rw [exec_evac_kept station other, taken]
  · rw [line]
  · rw [line]
    exact idle
  · rw [line]
    exact free
  · intro runs
    rw [line]
    exact raised_timer.trans (if_neg runs)
  · intro rests
    rw [line]
    exact raised_timer.trans (if_pos rests)
  · rw [all.count Counter.noConfusion, raised_count, countValid_spared Counter.noConfusion]
    by_cases rests : s.probe.round = .idle
    · simp [rests]
    · simp [rests]
  · show (t.count .capturesCancelled).toNat = min 65535 ((s.count .capturesCancelled).toNat + openWindows s)
    rw [all.count Counter.noConfusion, raised_count, if_pos rfl, satIncBy_toNat, countValid_spared Counter.noConfusion]
  · rw [line]
    dsimp only
    rw [bus]
    intro e mem
    simpa using (List.mem_filter.1 mem).2
  · rw [line]
    dsimp only
    rw [bus]
    intro a under
    simpa using (Option.filter_eq_some_iff.1 under).2
  · rw [line]
    exact bus
  · rw [line]
  · rw [line]
    intro left runs
    exact congrArg (HoldTimer.follow true) runs
  · rw [line]
    intro rests
    show s.solver.hold.follow true = s.solver.hold
    cases hold : s.solver.hold with
    | running left => rw [hold] at rests; exact Bool.noConfusion rests
    | suspended left => rfl
    | stopped => rfl
  · rw [line]
    exact noList
  · rw [line]
    exact abandoned
  · rw [line]
    exact kept
  · intro img c image
    have alarm : (emergencyBegun (alarmRaised src s)).emc.emergency = true := by rw [begun_line]
    have power := asked_alarmed_power (c := c) alarm (.eq img.channels[c].evacPreset s.eq.shelf)
      (.gain img.channels[c].evacGain) s.channels[c]
    have formula := (all.channel img c image).trans (asked_alarmed ..)
    rw [← all.channel img c image] at power formula
    refine ⟨congrArg (·.gainTarget) formula, congrArg (·.storedGain) formula, congrArg (·.storedMute) formula,
      congrArg (·.preset) formula, congrArg (·.forcedOff) formula, congrArg (·.target) formula, congrArg (·.applied) formula,
      ?_, fun silent => ?_, fun runs => ?_,
      congrArg (·.active) formula, congrArg (·.crossfade) formula, congrArg (·.waiting) formula⟩
    · refine power.trans ?_
      cases s.channels[c].power <;> rfl
    · obtain ⟨active, factor⟩ := request_silent_active (lawful.channel c) silent (.eq img.channels[c].evacPreset s.eq.shelf)
        (.gain img.channels[c].evacGain)
      exact ⟨(congrArg (·.active) formula).trans active, (congrArg (·.factor) formula).trans factor⟩
    · exact (congrArg (·.waiting) formula).trans (request_waits runs)
  · rw [line, countValid_eq]
  · rw [line, sources]
    rfl

end Sys2Proof.Machine
end

section
/-! PROOFS. EMERGENCY exit (R131, R58, R105, R106, R119, R120). -/

namespace Sys2Proof.Machine

variable {s t u : State} {c : Fin 4} {ch : Channel} {src : Nat} {w : Setting} {g : GainTarget}

/-! ### The EVAC CLEAR that ends EMERGENCY -/

/-- The state in which the EVAC CLEAR has been counted and its source dropped. -/
def alarmCleared (src : Nat) (s : State) : State := sourced src false (countValid s)

theorem alarmCleared_line (src : Nat) (s : State) :
    alarmCleared src s =
      { s with
        bus := s.bus.counted, counters := (bump .rxGood s).counters
        emc := { s.emc with sources := s.emc.sources.filter (· != src) } } := by
  unfold alarmCleared
  rw [countValid_eq]
  rfl

/-- The settle timer after the trigger of EMERGENCY exit (R63). -/
def settleTriggered (s : State) : Option Nat :=
  if s.stc.kind = some .delay ∧ s.serving = true then some (s.solver.settle.getD 200000) else s.solver.settle

theorem emergencyEnded_line (s : State) :
    emergencyEnded s =
      { s with
        solver :=
          { s.solver with
            emergencyFreeze := false, settle := settleTriggered s, hold := s.solver.hold.follow s.solver.cueFreeze }
        emc := { s.emc with emergency := false } } := by
  have freeze : (s.solver.cueFreeze || false) = s.solver.cueFreeze := Bool.or_false _
  unfold emergencyEnded
  rw [trigger_eq]
  show State.mk .. = State.mk ..
  congr 1
  show Solver.mk .. = Solver.mk ..
  congr 1
  exact congrArg (HoldTimer.follow · s.solver.hold) freeze

theorem cleared_sources (sources : s.emc.sources = [src]) : s.emc.sources.filter (· != src) = [] := by
  rw [sources]
  simp

/-- EMERGENCY has ended: what the solver and Emergency Control have taken. -/
theorem ended_line (sources : s.emc.sources = [src]) :
    emergencyEnded (alarmCleared src s) =
      { s with
        bus := s.bus.counted
        counters := (bump .rxGood s).counters
        solver :=
          { s.solver with
            emergencyFreeze := false, settle := settleTriggered s, hold := s.solver.hold.follow s.solver.cueFreeze }
        emc := { s.emc with sources := [], emergency := false } } := by
  rw [emergencyEnded_line, alarmCleared_line, cleared_sources sources]
  rfl

theorem takeEvac_leaves (alarm : AlarmLaw s) (sources : s.emc.sources = [src]) (ordinary : s.ownAlarm = false) :
    takeEvac src false (countValid s) = powerEmergencyExit (equaliserEmergency (emergencyEnded (alarmCleared src s))) := by
  obtain ⟨follows, -⟩ := alarm
  have own : (alarmCleared src s).ownAlarm = false := by
    rw [alarmCleared_line]
    exact ordinary
  have listed : (alarmCleared src s).emc.sources = [] := by
    rw [alarmCleared_line]
    exact cleared_sources sources
  have inside : (alarmCleared src s).inEmergency = true := by
    rw [alarmCleared_line]
    show s.emc.emergency = true
    rw [follows, sources]
    simp
  show followInputs (alarmCleared src s) = _
  unfold followInputs
  dsimp only
  rw [own, listed, inside]
  rfl

/-- Before the EVAC CLEAR no round runs (R134). -/
theorem alarmed_idle (lawful : Lawful s) (sources : s.emc.sources = [src]) : s.probe.round = .idle := by
  obtain ⟨follows, -⟩ := lawful.alarm
  obtain ⟨quiet, -⟩ := lawful.calm
  have alarm : s.emc.emergency = true := by
    rw [follows, sources]
    simp
  exact (quiet alarm).1

/-! ### A channel at the end of EMERGENCY -/

/-- All that a request and a gain target leave of a channel. -/
theorem asked_rest (w : Setting) (g : GainTarget) (ch : Channel) :
    (ch.request w).retarget g =
      { ch with
        active := (ch.request w).active
        crossfade := (ch.request w).crossfade
        waiting := (ch.request w).waiting
        nextStages := (ch.request w).nextStages
        gainTarget := g
        factor := ((ch.request w).retarget g).factor
        ramp := ((ch.request w).retarget g).ramp } := by
  have kept := retarget_rest g (ch.request w)
  have asked := request_rest w ch
  generalize (ch.request w).retarget g = y at kept ⊢
  generalize ch.request w = z at kept asked ⊢
  rw [kept, asked]

/-- The gain target of a channel out of EMERGENCY (R101). -/
def Channel.ownGain (ch : Channel) : GainTarget := if ch.storedMute then .silence else .gain ch.storedGain

theorem ownGain_silence (ch : Channel) : ch.ownGain = .silence ↔ ch.storedMute = true := by
  unfold Channel.ownGain
  split
  · next mute => exact ⟨fun _ => mute, fun _ => rfl⟩
  · next loud => exact ⟨fun h => GainTarget.noConfusion h, fun h => absurd h loud⟩

/-- A channel that serves out of EMERGENCY asks for its selected preset and its stored gain (R101, R105). -/
theorem equalised_calm (serves : s.serving = true) (calm : s.emc.emergency = false) (ch : Channel) :
    ch.equalised s c = (ch.request (.eq ch.preset s.eq.shelf)).retarget ch.ownGain := by
  have outside : s.inEmergency = false := calm
  have wanted : ch.wanted s c = .eq ch.preset s.eq.shelf := by
    unfold Channel.wanted
    rw [serves, outside]
    rfl
  have gain : (ch.request (.eq ch.preset s.eq.shelf)).gainWanted s c = ch.ownGain := by
    unfold Channel.gainWanted Channel.ownGain
    rw [serves, outside, request_rest]
    rfl
  unfold Channel.equalised
  rw [if_pos serves, wanted, gain]

theorem equalised_fault (serves : s.serving = false) (calm : s.emc.emergency = false) (ch : Channel) :
    ch.equalised s c = ch.retarget .silence := by
  have outside : s.inEmergency = false := calm
  unfold Channel.equalised Channel.gainWanted
  rw [serves, outside]
  simp

theorem calmed_off (off : ch.forcedOff = true ∧ ch.power.sounding = true) :
    ch.calmed s c = ch.moved s .forcedOff none c := by
  unfold Channel.calmed
  rw [off.1, off.2]
  rfl

theorem calmed_on (on : ¬(ch.forcedOff = true ∧ ch.power.sounding = true)) : ch.calmed s c = ch.heeding s c := by
  unfold Channel.calmed
  rw [if_neg (by rw [Bool.and_eq_true]; exact on)]

/-- A channel whose equaliser comes to rest holds what was requested last. -/
theorem request_completed (laws : ChannelLaws ch) (w : Setting) :
    (ch.request w).completeCrossfade.active = w ∧ (ch.request w).completeCrossfade.crossfade = .idle ∧
    (ch.request w).completeCrossfade.waiting = none := by
  cases fade : ch.crossfade with
  | running a b k =>
    rw [request_running w fade]
    unfold Channel.completeCrossfade
    dsimp only
    rw [fade]
    exact ⟨rfl, rfl, rfl⟩
  | idle =>
    obtain ⟨-, ⟨rests, -⟩, -⟩ := laws
    have waiting := (rests fade).1
    unfold Channel.completeCrossfade
    by_cases same : w = ch.active
    · rw [request_active same.symm fade, fade]
      exact ⟨same.symm, fade, waiting⟩
    · rw [request_idle fade same]
      cases ch.power.sounding with
      | true =>
        rw [if_pos rfl]
        refine ⟨?_, rfl, rfl⟩
        show ch.waiting.getD w = w
        rw [waiting]
        rfl
      | false =>
        rw [if_neg Bool.false_ne_true]
        dsimp only
        rw [fade]
        exact ⟨rfl, rfl, waiting⟩

/-- What two channels play is the same up to gain and delay. -/
def SameSetting (a b : Channel) : Prop :=
  b.active = a.active ∧ b.crossfade = a.crossfade ∧ b.waiting = a.waiting

theorem completeCrossfade_setting {a b : Channel} (same : SameSetting a b) :
    SameSetting a.completeCrossfade b.completeCrossfade := by
  obtain ⟨active, crossfade, waiting⟩ := same
  unfold Channel.completeCrossfade
  rw [crossfade]
  cases a.crossfade with
  | idle => exact ⟨active, crossfade, waiting⟩
  | running src dst k => exact ⟨congrArg (·.getD dst) waiting, rfl, rfl⟩

theorem silenced_setting (ch : Channel) : SameSetting ch.completeCrossfade ch.silenced := by
  have slewed : SameSetting ch ch.completeSlew := by
    unfold Channel.completeSlew
    split <;> exact ⟨rfl, rfl, rfl⟩
  have ramped (x : Channel) : SameSetting x x.completeRamp := by
    unfold Channel.completeRamp
    split <;> exact ⟨rfl, rfl, rfl⟩
  obtain ⟨active, crossfade, waiting⟩ := completeCrossfade_setting slewed
  obtain ⟨active', crossfade', waiting'⟩ := ramped ch.completeSlew.completeCrossfade
  exact ⟨active'.trans active, crossfade'.trans crossfade, waiting'.trans waiting⟩

/-- A sounding channel that takes FORCED_OFF comes to rest on the setting requested last (R99, R111). -/
theorem request_forcedOff (laws : ChannelLaws ch) (sounds : ch.power.sounding = true) :
    (Channel.moved s .forcedOff none c ((ch.request w).retarget g)).active = w ∧
    (Channel.moved s .forcedOff none c ((ch.request w).retarget g)).crossfade = .idle ∧
    (Channel.moved s .forcedOff none c ((ch.request w).retarget g)).waiting = none := by
  have asked : SameSetting (ch.request w) ((ch.request w).retarget g) := by
    rw [retarget_rest]
    exact ⟨rfl, rfl, rfl⟩
  have sounds' : ((ch.request w).retarget g).power.sounding = true := by
    rw [asked_rest]
    exact sounds
  have differ : ((ch.request w).retarget g).power ≠ .forcedOff := fun off => by
    rw [off] at sounds'
    exact Bool.noConfusion sounds'
  obtain ⟨active, crossfade, waiting⟩ := request_completed laws w
  obtain ⟨active', crossfade', waiting'⟩ := completeCrossfade_setting asked
  obtain ⟨active'', crossfade'', waiting''⟩ := silenced_setting ((ch.request w).retarget g)
  unfold Channel.moved Channel.toPower
  rw [if_neg differ, sounds']
  exact ⟨active''.trans (active'.trans active), crossfade''.trans (crossfade'.trans crossfade),
    waiting''.trans (waiting'.trans waiting)⟩

/-- EMERGENCY exit at a station that serves: SLEEP stays for FORCED_OFF, and Channel Power Control acts on silence else. -/
theorem calmed_setting (laws : ChannelLaws ch) :
    let x := ((ch.request w).retarget g).calmed s c
    let off := ch.forcedOff = true ∧ ch.power.sounding = true
    (off → x.active = w ∧ x.crossfade = .idle ∧ x.waiting = none) ∧
    (¬off → x.active = (ch.request w).active ∧ x.crossfade = (ch.request w).crossfade ∧ x.waiting = (ch.request w).waiting) := by
  intro x off
  have same : (((ch.request w).retarget g).forcedOff = true ∧ ((ch.request w).retarget g).power.sounding = true) ↔ off := by
    rw [asked_rest]
  refine ⟨fun out => ?_, fun on => ?_⟩
  · have moved : x = Channel.moved s .forcedOff none c ((ch.request w).retarget g) := calmed_off (same.2 out)
    rw [moved]
    exact request_forcedOff laws out.2
  · have sound : SameSound ((ch.request w).retarget g) x := by
      show SameSound _ (((ch.request w).retarget g).calmed s c)
      rw [calmed_on (mt same.1 on)]
      exact heeding_sound _
    have asked := retarget_rest g (ch.request w)
    exact ⟨(congrArg (·.active) sound).trans (congrArg (·.active) asked),
      (congrArg (·.crossfade) sound).trans (congrArg (·.crossfade) asked),
      (congrArg (·.waiting) sound).trans (congrArg (·.waiting) asked)⟩

/-- The lines, SLEEP, the target, the gain and the preset stay at EMERGENCY exit. -/
theorem calmed_lines (ch : Channel) : SameLines ch (ch.calmed s c) := by
  by_cases off : ch.forcedOff = true ∧ ch.power.sounding = true
  · rw [calmed_off off]
    exact moved_lines ..
  · rw [calmed_on off]
    have sound : SameSound ch (ch.heeding s c) := heeding_sound ch
    exact ⟨congrArg (·.ready) sound, congrArg (·.faultLine) sound, congrArg (·.forcedOff) sound, congrArg (·.target) sound,
      congrArg (·.gainTarget) sound, congrArg (·.preset) sound⟩

/-! ### The power state at EMERGENCY exit -/

theorem calmed_power (serves : s.serving = true) (calm : s.emc.emergency = false) (ch : Channel) :
    (ch.forcedOff = true → ch.power.sounding = true → (ch.calmed s c).power = .forcedOff) ∧
    (ch.power = .fault → (ch.calmed s c).power = .fault) ∧
    (ch.forcedOff = false → ch.power = .active →
      (ch.calmed s c).power =
        if s.autoStandby c = true ∧ (s.level.present = false ∨ ch.gainTarget = .silence) then .watch else .active) ∧
    (ch.forcedOff = false → ch.power = .waking → (ch.calmed s c).power = .waking) := by
  have awake (on : ch.forcedOff = false) : ¬(ch.forcedOff = true ∧ ch.power.sounding = true) :=
    fun off => Bool.noConfusion (on.symm.trans off.1)
  refine ⟨fun off sounds => ?_, fun fault => ?_, fun on active => ?_, fun on waking => ?_⟩
  · rw [calmed_off ⟨off, sounds⟩]
    exact moved_power ..
  · rw [calmed_on (by rw [fault]; exact fun off => Bool.noConfusion off.2)]
    exact (heeding_fault s c ch).2 fault
  · have wants : ch.wants s c = true ↔
        s.autoStandby c = true ∧ (s.level.present = false ∨ ch.gainTarget = .silence) := by
      rw [Channel.wants_iff]
      exact ⟨fun ⟨_, auto, silent, _⟩ => ⟨auto, silent⟩, fun ⟨auto, silent⟩ => ⟨serves, auto, silent, calm⟩⟩
    rw [calmed_on (awake on), heeding_active serves active]
    by_cases wanted : ch.wants s c = true
    · rw [if_pos wanted, if_pos (wants.1 wanted)]
      exact moved_power ..
    · rw [if_neg wanted, if_neg (mt wants.2 wanted)]
      exact active
  · rw [calmed_on (awake on), heeding_other (.inl waking)]
    exact waking

/-- One wake loss or none. -/
theorem satIncBy_ite (p : Prop) [Decidable p] (n : BitVec 16) :
    (if p then satInc n else n) = satIncBy (if p then 1 else 0) n := by
  split
  · exact (satIncBy_one n).symm
  · rfl

/-- A wake loss counts where a channel leaves WAKING with its mark (R122). -/
theorem setPower_lost {p : Power} {cause : Option FaultCause} (other : p ≠ .waking) :
    (setPower c p cause s).count .wakeLosses =
      satIncBy (if (s.channels[c].power == .waking && s.channels[c].wakeLoss) = true then 1 else 0) (s.count .wakeLosses) := by
  simp only [Bool.and_eq_true, beq_iff_eq]
  rw [← satIncBy_ite]
  by_cases same : s.channels[c].power = p
  · rw [setPower, if_pos same, if_neg fun lost => other (same.symm.trans lost.1)]
  · exact setPower_wakeLosses same

/-- EMERGENCY exit loses the wake of a channel that SLEEP keeps off. -/
def Channel.exitLost (ch : Channel) : Bool := ch.power == .waking && ch.wakeLoss && ch.forcedOff

theorem exitChannel_lost (marked : s.channels[c].wakeLoss = true → s.channels[c].power = .waking) :
    (exitChannel c s).count .wakeLosses = satIncBy (if s.channels[c].exitLost = true then 1 else 0) (s.count .wakeLosses) := by
  unfold exitChannel Channel.exitLost
  cases off : s.channels[c].forcedOff with
  | false =>
    rw [Bool.false_and, if_neg Bool.false_ne_true, actOnSilence_spared marked, Bool.and_false, if_neg Bool.false_ne_true]
    rfl
  | true =>
    rw [Bool.true_and, Bool.and_true]
    by_cases sounds : s.channels[c].power.sounding = true
    · rw [if_pos sounds]
      exact setPower_lost Power.noConfusion
    · have kept : ¬(s.channels[c].power == .waking && s.channels[c].wakeLoss) = true := fun lost => by
        rw [Bool.and_eq_true, beq_iff_eq] at lost
        rw [lost.1] at sounds
        exact sounds rfl
      rw [if_neg sounds, actOnSilence_spared marked, if_neg kept]
      rfl

/-! ### The two halves of the statement -/

theorem ended_count (k : Counter) : (emergencyEnded (alarmCleared src s)).count k = (countValid s).count k := by
  rw [emergencyEnded_line, alarmCleared_line, countValid_eq]
  rfl

/-- The laws of a channel that goes to STANDBY, FLAT and silent with its target at 0 (R111, R120). -/
theorem rested_fields {t : Channel} (laws : ChannelLaws t) (standby : t.power = .standby) (gain : t.gainTarget = .silence)
    (target : t.target = 0) :
    t.enable = false ∧ t.silence = none ∧ t.wake = none ∧ t.cause = none ∧ t.fade = none ∧ t.wakeLoss = false ∧
    t.factor = .of .silence ∧ t.ramp = .idle ∧ t.crossfade = .idle ∧ t.waiting = none ∧ t.applied = 0 ∧ t.slew = .settled := by
  have silent : t.power.sounding = false := by rw [standby]; rfl
  obtain ⟨⟨-, -, settled, -, -, still⟩, ⟨rests, -, -, factor, quiet, -, -⟩, enable, silence, wake, cause, fade, loss⟩ := laws
  obtain ⟨crossfade, ramp⟩ := quiet silent
  refine ⟨by rw [enable, standby]; rfl, ?_, ?_, ?_, ?_, ?_, by rw [factor ramp, gain], ramp, crossfade, (rests crossfade).1,
    by rw [settled (still silent), target], still silent⟩
  · rw [← Option.not_isSome_iff_eq_none, silence, standby]
    exact Power.noConfusion
  · rw [← Option.not_isSome_iff_eq_none, wake, standby]
    exact Power.noConfusion
  · rw [← Option.not_isSome_iff_eq_none, cause, standby]
    exact Power.noConfusion
  · refine Option.eq_none_iff_forall_not_mem.2 fun k fades => ?_
    have gate := (fade k fades).2
    rw [standby] at gate
    exact Bool.noConfusion gate
  · exact Bool.eq_false_iff.2 fun lost => Power.noConfusion (standby.symm.trans (loss lost))

/-- The stored values of a channel stay through a change of power state. -/
theorem moved_stored (s : State) (p : Power) (cause : Option FaultCause) (c : Fin 4) (ch : Channel) :
    (ch.moved s p cause c).storedGain = ch.storedGain ∧ (ch.moved s p cause c).storedMute = ch.storedMute := by
  have slewed : ch.completeSlew.storedGain = ch.storedGain ∧ ch.completeSlew.storedMute = ch.storedMute := by
    unfold Channel.completeSlew
    split <;> exact ⟨rfl, rfl⟩
  have faded (x : Channel) : x.completeCrossfade.storedGain = x.storedGain ∧ x.completeCrossfade.storedMute = x.storedMute := by
    unfold Channel.completeCrossfade
    split <;> exact ⟨rfl, rfl⟩
  have ramped (x : Channel) : x.completeRamp.storedGain = x.storedGain ∧ x.completeRamp.storedMute = x.storedMute := by
    unfold Channel.completeRamp
    split <;> exact ⟨rfl, rfl⟩
  unfold Channel.moved
  split
  · exact ⟨rfl, rfl⟩
  · unfold Channel.toPower
    dsimp only
    split
    · exact ⟨(ramped _).1.trans ((faded _).1.trans slewed.1), (ramped _).2.trans ((faded _).2.trans slewed.2)⟩
    · exact ⟨rfl, rfl⟩

theorem equaliserEmergency_counters (s : State) : (equaliserEmergency s).counters = s.counters := by
  unfold equaliserEmergency
  split
  · simp [requestAll, forChannels]
  · simp [forChannels]

/-- The wake losses of EMERGENCY exit at a station that serves. -/
theorem left_losses (lawful : Lawful s) {b : State} (serves : b.serving = true) (calm : b.emc.emergency = false)
    (channels : b.channels = s.channels) :
    ((powerEmergencyExit (equaliserEmergency b)).count .wakeLosses).toNat =
      min 65535 ((b.count .wakeLosses).toNat + (List.finRange 4).countP fun c => s.channels[c].exitLost) := by
  have view := equaliserEmergency_view b
  have count : (equaliserEmergency b).count .wakeLosses = b.count .wakeLosses := by
    rw [State.count, equaliserEmergency_counters]
    rfl
  unfold powerEmergencyExit
  rw [if_pos ((serving_view b view).trans serves), ← count]
  refine pass_losses (lost := fun c => s.channels[c].exitLost) (exitChannel_acts b) view fun c u _ at' => ?_
  have whole := (at'.trans (equaliserEmergency_get b c)).trans (equalised_calm serves calm b.channels[c])
  rw [asked_rest, channels] at whole
  have lost : u.channels[c].exitLost = s.channels[c].exitLost := by
    rw [whole]
    rfl
  rw [exitChannel_lost, lost]
  rw [whole]
  obtain ⟨-, -, -, -, -, marked⟩ := lawful.power c
  exact marked

theorem left_losses_fault {b : State} (serves : b.serving = false) (mode : b.stc.mode = .configFault)
    (channels : b.channels = s.channels) :
    ((powerEmergencyExit (equaliserEmergency b)).count .wakeLosses).toNat =
      min 65535 ((b.count .wakeLosses).toNat +
        (List.finRange 4).countP fun c => s.channels[c].power == .waking && s.channels[c].wakeLoss) := by
  have view := equaliserEmergency_view b
  have count : (equaliserEmergency b).count .wakeLosses = b.count .wakeLosses := by
    rw [State.count, equaliserEmergency_counters]
    rfl
  unfold powerEmergencyExit
  rw [if_neg (by rw [serving_view b view, serves]; exact Bool.false_ne_true), if_pos (by rw [view.1]; exact mode), ← count]
  refine pass_losses (lost := fun c => s.channels[c].power == .waking && s.channels[c].wakeLoss)
    (setPower_acts b .standby none) view fun c u _ at' => ?_
  have whole := at'.trans (equaliserEmergency_get b c)
  unfold Channel.equalised at whole
  rw [if_neg (by rw [serves]; exact Bool.false_ne_true), retarget_rest, channels] at whole
  rw [setPower_lost Power.noConfusion, whole]

theorem ChannelLaws.moved {p : Power} {cause : Option FaultCause} (h : ChannelLaws ch) (hasCause : p = .fault → cause.isSome = true) :
    ChannelLaws (ch.moved s p cause c) := by
  unfold Channel.moved
  split
  · exact h
  · exact h.toPower hasCause _ _

theorem Channel.Flat.moved {p : Power} {cause : Option FaultCause} (h : ch.Flat) : (ch.moved s p cause c).Flat := by
  unfold Channel.moved
  split
  · exact h
  · exact h.toPower _ _ _ _

/-- In CONFIG_FAULT the EVAC CLEAR takes every channel back to STANDBY and silence (R101, R106, R120). -/
theorem fault_left (station : isStation src = true) (other : src ≠ s.number) (lawful : Lawful s)
    (sources : s.emc.sources = [src]) (ordinary : s.ownAlarm = false) (mode : s.stc.mode = .configFault) :
    ∃ t, exec (.evac src false) s = .next t ∧ t.emc.emergency = false ∧ t.emc.sources = [] ∧
      t.solver = { s.solver with emergencyFreeze := false } ∧
      (∀ c : Fin 4,
        t.channels[c].power = .standby ∧ t.channels[c].enable = false ∧ t.channels[c].silence = none ∧
        t.channels[c].wake = none ∧ t.channels[c].cause = none ∧ t.channels[c].fade = none ∧
        t.channels[c].wakeLoss = false ∧ t.channels[c].gainTarget = .silence ∧ t.channels[c].factor = .of .silence ∧
        t.channels[c].ramp = .idle ∧ t.channels[c].active = .flat ∧ t.channels[c].crossfade = .idle ∧
        t.channels[c].waiting = none ∧ t.channels[c].target = 0 ∧ t.channels[c].applied = 0 ∧
        t.channels[c].slew = .settled ∧ t.channels[c].forcedOff = s.channels[c].forcedOff ∧
        t.channels[c].ready = s.channels[c].ready ∧ t.channels[c].faultLine = s.channels[c].faultLine ∧
        t.channels[c].storedGain = s.channels[c].storedGain ∧ t.channels[c].storedMute = s.channels[c].storedMute ∧
        t.channels[c].preset = s.channels[c].preset) ∧
      (t.count .wakeLosses).toNat = min 65535 ((s.count .wakeLosses).toNat +
        (List.finRange 4).countP fun c => s.channels[c].power == .waking && s.channels[c].wakeLoss) ∧
      t.bus = (countValid s).bus ∧ t.probe = s.probe ∧ t.cue = s.cue ∧ t.eq = s.eq ∧ t.peers = s.peers ∧
      t.selfRec = s.selfRec ∧ t.stc = s.stc ∧ t.image = s.image ∧ t.air = s.air ∧ t.delay = s.delay ∧ t.level = s.level := by
  have serves : s.serving = false := by
    unfold State.serving
    rw [mode]
    rfl
  have idle := alarmed_idle lawful sources
  have line := ended_line sources
  have count := ended_count (src := src) (s := s) .wakeLosses
  have taken := takeEvac_leaves lawful.alarm sources ordinary
  rw [countValid_spared Counter.noConfusion] at count
  generalize emergencyEnded (alarmCleared src s) = b at line count taken
  have serves' : b.serving = false := by rw [line]; exact serves
  have mode' : b.stc.mode = .configFault := by rw [line]; exact mode
  have calm : b.emc.emergency = false := by rw [line]
  have channels : b.channels = s.channels := by rw [line]
  have lost := left_losses_fault serves' mode' channels
  have frame := (left_only (s := b) (by rw [line]; exact idle)).frame
  have channel (c : Fin 4) :
      (powerEmergencyExit (equaliserEmergency b)).channels[c] =
        (s.channels[c].retarget .silence).moved b .standby none c := by
    rw [left_get_fault serves' mode', channels, equalised_fault serves' calm]
  have ended : exec (.evac src false) s = .next (powerEmergencyExit (equaliserEmergency b)) := by
    rw [exec_evac_kept station other, taken]
    exact congrArg Host.Outcome.next (finishEvent_not_run (.inl (by simp [mode])))
  refine ⟨_, ended, ?_⟩
  generalize powerEmergencyExit (equaliserEmergency b) = t at frame channel lost
  rw [line] at frame
  have settle : settleTriggered s = s.solver.settle :=
    if_neg fun triggers => Bool.noConfusion (serves.symm.trans triggers.2)
  have hold : s.solver.hold.follow s.solver.cueFreeze = s.solver.hold := by
    obtain ⟨rank, -⟩ := lawful.rank
    rw [serves, if_neg Bool.false_ne_true] at rank
    rw [rank.2.2.2]
    rfl
  refine ⟨by rw [frame], by rw [frame], by rw [frame, settle, hold], fun c => ?_, by rw [lost, count],
    by rw [frame, countValid_eq], by rw [frame], by rw [frame], by rw [frame], by rw [frame], by rw [frame], by rw [frame],
    by rw [frame], by rw [frame], by rw [frame], by rw [frame]⟩
  obtain ⟨-, -, target, flat, -⟩ := lawful.held
  have asleep : s.channels[c].Flat := flat mode c
  have kept := retarget_rest .silence s.channels[c]
  have flat' : (s.channels[c].retarget .silence).Flat := by
    rw [kept]
    exact asleep
  obtain ⟨ready, faultLine, forcedOff, target', gain, preset⟩ := moved_lines b .standby none c (s.channels[c].retarget .silence)
  obtain ⟨storedGain, storedMute⟩ := moved_stored b .standby none c (s.channels[c].retarget .silence)
  have laws := ((lawful.channel c).retarget .silence).moved (s := b) (c := c) (p := .standby) (cause := none) Power.noConfusion
  have active := (flat'.moved (s := b) (c := c) (p := .standby) (cause := none)).1
  have standby := moved_power (s₀ := b) (c := c) .standby none (s.channels[c].retarget .silence)
  rw [← channel c] at ready faultLine forcedOff target' gain preset storedGain storedMute laws active standby
  rw [kept] at ready faultLine forcedOff target' gain preset storedGain storedMute
  have zero : t.channels[c].target = 0 := target'.trans (target (.inr mode) c)
  obtain ⟨enable, silence, wake, cause, fade, loss, factor, ramp, crossfade, waiting, applied, slew⟩ :=
    rested_fields laws standby gain zero
  exact ⟨standby, enable, silence, wake, cause, fade, loss, gain, factor, ramp, active, crossfade, waiting, zero, applied, slew,
    forcedOff, ready, faultLine, storedGain, storedMute, preset⟩

/-- Settles O18: EMERGENCY ends in the solver, then in the equaliser and in Channel Power Control, each channel on its own. -/
theorem emergencyLeft : Obligations.EmergencyLeft := by
  refine ⟨fun src s station other lawful sources ordinary mode => fault_left station other lawful sources ordinary mode,
    fun src s station other lawful sources ordinary serves => ?_⟩
  have idle := alarmed_idle lawful sources
  have line := ended_line sources
  have count := ended_count (src := src) (s := s)
  have taken := takeEvac_leaves lawful.alarm sources ordinary
  generalize emergencyEnded (alarmCleared src s) = b at line count taken
  have serves' : b.serving = true := by rw [line]; exact serves
  have calm : b.emc.emergency = false := by rw [line]
  have channels : b.channels = s.channels := by rw [line]
  have eqs : b.eq = s.eq := by rw [line]
  have level : b.level = s.level := by rw [line]
  have auto (c : Fin 4) : b.autoStandby c = s.autoStandby c := by rw [line]; rfl
  have lost := left_losses lawful serves' calm channels
  have only := left_only (s := b) (by rw [line]; exact idle)
  have channel (c : Fin 4) :
      (powerEmergencyExit (equaliserEmergency b)).channels[c] =
        ((s.channels[c].request (.eq s.channels[c].preset s.eq.shelf)).retarget s.channels[c].ownGain).calmed b c := by
    rw [left_get serves', channels, equalised_calm serves' calm, eqs]
  rw [← taken] at channel lost only
  generalize ended : takeEvac src false (countValid s) = t at channel lost only
  have frame := only.frame
  rw [line] at frame
  refine ⟨t, ?_, by rw [frame], by rw [frame], by rw [frame], ?_, ?_, ?_, fun c => ?_, by rw [frame], ?_, ?_, ?_⟩
  · rw [exec_evac_kept station other, ended]
  · intro origin
    rw [frame]
    exact if_neg fun triggers => StationKind.noConfusion (Option.some.inj (origin.symm.trans triggers.1))
  · intro delay
    rw [frame]
    exact if_pos ⟨delay, serves⟩
  · intro left suspended thawed
    rw [frame]
    show s.solver.hold.follow s.solver.cueFreeze = .running left
    rw [suspended, thawed]
    rfl
  · have asked := asked_rest (.eq s.channels[c].preset s.eq.shelf) s.channels[c].ownGain s.channels[c]
    have lines := calmed_lines (s := b) (c := c)
      ((s.channels[c].request (.eq s.channels[c].preset s.eq.shelf)).retarget s.channels[c].ownGain)
    have setting := calmed_setting (s := b) (c := c) (w := .eq s.channels[c].preset s.eq.shelf) (g := s.channels[c].ownGain)
      (lawful.channel c)
    have power := calmed_power (c := c) serves' calm
      ((s.channels[c].request (.eq s.channels[c].preset s.eq.shelf)).retarget s.channels[c].ownGain)
    rw [← channel c] at lines power
    dsimp only at setting
    rw [← channel c] at setting
    rw [asked] at lines power
    obtain ⟨-, -, forcedOff, target, gain, preset⟩ := lines
    obtain ⟨out, fault, active, waking⟩ := power
    refine ⟨gain, forcedOff, target, preset, setting, out, fault, fun on plays => ?_, waking⟩
    rw [active on plays, auto, level]
    simp only [ownGain_silence]
  · rw [lost, count, countValid_spared Counter.noConfusion]
    rfl
  · intro k other
    rw [only.count k other, count]
  · rw [frame, countValid_eq]

end Sys2Proof.Machine
end

section
/-! PROOFS. The one-second tick at the Peer Record Table (R8 to R11, R47, R55). -/

namespace Sys2Proof.Machine

variable {s t u : State} {img : Image} {i : Fin 16} {e : PeerEntry} {st : Nat}

/-! ### One entry, aged -/

/-- The entry after its age has gone up by 1 and met its limits (R8 to R10). -/
def PeerEntry.agedOnce (img : Image) (e : PeerEntry) : PeerEntry :=
  match e.state, e.age with
  | .fresh, some a => { e with age := some (a + 1), state := if a + 1 = img.staleLimit then .stale else .fresh }
  | .stale, some a =>
    if a + 1 = img.lostLimit then
      match e.binding with
      | .single _ => { e with state := .lost, record := none, unread := false, age := some img.lostLimit }
      | .pool .. => PeerEntry.blank e.binding none
      | .unused => { e with age := some (a + 1) }
    else { e with age := some (a + 1) }
  | _, _ => e

/-- The age of the entry reaches a limit at the tick (R8). -/
def PeerEntry.reaches (img : Image) (e : PeerEntry) : Prop :=
  ∃ a : Nat, e.age = some a ∧
    (e.state = .fresh ∧ a + 1 = img.staleLimit ∨ e.state = .stale ∧ a + 1 = img.lostLimit ∧ e.binding ≠ .unused)

/-- The entry releases the station at the tick (R10). -/
def PeerEntry.releases (img : Image) (e : PeerEntry) (st : Nat) : Prop :=
  ∃ a lo hi : Nat, e.age = some a ∧ a + 1 = img.lostLimit ∧ e.state = .stale ∧ e.binding = .pool lo hi ∧ e.peer = some st

theorem not_reaches_idle (h : e.state = .waiting ∨ e.state = .lost) : ¬e.reaches img := by
  rintro ⟨a, -, ⟨state, -⟩ | ⟨state, -, -⟩⟩ <;> rw [state] at h <;> rcases h with h | h <;> exact EntryState.noConfusion h

theorem releases_reaches (h : e.releases img st) : e.reaches img := by
  obtain ⟨a, lo, hi, age, limit, state, binding, -⟩ := h
  exact ⟨a, age, .inr ⟨state, limit, by rw [binding]; exact Binding.noConfusion⟩⟩

/-! ### The windows of released stations (R10, R43) -/

/-- The windows of the released stations are marked, and nothing else of the slot changes. -/
def Discarded (R : Nat → Prop) (a b : Slot) : Prop :=
  (∀ w, a = .opened w → (R w.owner → b = .opened { w with discard := true }) ∧ (¬R w.owner → b = .opened w)) ∧
  ((∀ w, a ≠ .opened w) → b = a)

theorem Discarded.none {R : Nat → Prop} (empty : ∀ st, ¬R st) (a : Slot) : Discarded R a a :=
  ⟨fun _ opened => ⟨fun r => absurd r (empty _), fun _ => opened⟩, fun _ => rfl⟩

theorem Discarded.trans {R R' : Nat → Prop} {a b d : Slot} (h : Discarded R a b) (h' : Discarded R' b d) :
    Discarded (fun st => R st ∨ R' st) a d := by
  obtain ⟨opened, other⟩ := h
  obtain ⟨opened', other'⟩ := h'
  refine ⟨fun w isOpen => ⟨fun r => ?_, fun r => ?_⟩, fun closed => ?_⟩
  · by_cases first : R w.owner
    · obtain ⟨marks, keeps⟩ := opened' _ ((opened w isOpen).1 first)
      by_cases second : R' w.owner
      · exact marks second
      · exact keeps second
    · exact (opened' w ((opened w isOpen).2 first)).1 (r.resolve_left first)
  · obtain ⟨first, second⟩ := not_or.1 r
    exact (opened' w ((opened w isOpen).2 first)).2 second
  · have same := other closed
    rw [same] at other'
    exact other' closed

theorem Discarded.congr {R R' : Nat → Prop} {a b : Slot} (h : Discarded R a b) (same : ∀ st, R st ↔ R' st) :
    Discarded R' a b := by
  have : R = R' := funext fun st => propext (same st)
  exact this ▸ h

theorem discardFor_discarded (st : Nat) (a : Slot) : Discarded (· = st) a (a.discardFor st) := by
  cases a with
  | opened w =>
    refine ⟨fun v isOpen => ?_, fun closed => absurd rfl (closed w)⟩
    obtain rfl := Slot.opened.inj isOpen
    exact ⟨fun owned => if_pos owned, fun free => if_neg free⟩
  | free => exact ⟨fun w isOpen => Slot.noConfusion isOpen, fun _ => rfl⟩
  | reserved o => exact ⟨fun w isOpen => Slot.noConfusion isOpen, fun _ => rfl⟩

/-! ### The tick at a set of entries -/

/-- What the tick does at the entries of a set. -/
structure EntriesAged (img : Image) (P : Fin 16 → Prop) (s t : State) : Prop where
  entry : ∀ i, (P i → t.peers[i] = s.peers[i].agedOnce img) ∧ (¬P i → t.peers[i] = s.peers[i])
  trigger : ((∃ i, P i ∧ s.peers[i].reaches img) → t.solver = (Machine.trigger s).solver) ∧
    ((¬∃ i, P i ∧ s.peers[i].reaches img) → t.solver = s.solver)
  slot : ∀ j : Fin 2, Discarded (fun st => ∃ i, P i ∧ s.peers[i].releases img st) s.probe.slots[j] t.probe.slots[j]
  frame : t = { s with peers := t.peers, solver := t.solver, probe := { s.probe with slots := t.probe.slots } }

/-- The trigger is idempotent (R55). -/
theorem trigger_trigger (stc : t.stc = s.stc) (solver : t.solver = (trigger s).solver) :
    (trigger t).solver = (trigger s).solver := by
  have serving : t.serving = s.serving := by rw [State.serving, State.serving, stc]
  rw [trigger_eq] at solver
  rw [trigger_eq t, trigger_eq s, stc, serving, solver]
  by_cases delay : s.stc.kind = some .delay ∧ s.serving = true
  · simp [delay]
  · simp [delay]

theorem trigger_congr (stc : t.stc = s.stc) (solver : t.solver = s.solver) : (trigger t).solver = (trigger s).solver := by
  have serving : t.serving = s.serving := by rw [State.serving, State.serving, stc]
  rw [trigger_eq t, trigger_eq s, stc, serving, solver]

theorem EntriesAged.nothing (s : State) : EntriesAged img (fun _ => False) s s where
  entry := fun _ => ⟨False.elim, fun _ => rfl⟩
  trigger := ⟨fun ⟨_, no, _⟩ => no.elim, fun _ => rfl⟩
  slot := fun _ => .none (fun _ ⟨_, no, _⟩ => no) _
  frame := rfl

/-- The tick at one set of entries, then at another. -/
theorem EntriesAged.trans {P Q : Fin 16 → Prop} (h : EntriesAged img P s t) (h' : EntriesAged img Q t u)
    (apart : ∀ i, P i → ¬Q i) : EntriesAged img (fun i => P i ∨ Q i) s u := by
  have stc : t.stc = s.stc := by rw [h.frame]
  have kept (i : Fin 16) (q : Q i) : t.peers[i] = s.peers[i] := (h.entry i).2 fun p => apart i p q
  have reaches : (∃ i, (P i ∨ Q i) ∧ s.peers[i].reaches img) ↔
      (∃ i, P i ∧ s.peers[i].reaches img) ∨ ∃ i, Q i ∧ t.peers[i].reaches img := by
    constructor
    · rintro ⟨i, p | q, limit⟩
      · exact .inl ⟨i, p, limit⟩
      · exact .inr ⟨i, q, by rw [kept i q]; exact limit⟩
    · rintro (⟨i, p, limit⟩ | ⟨i, q, limit⟩)
      · exact ⟨i, .inl p, limit⟩
      · exact ⟨i, .inr q, by rw [← kept i q]; exact limit⟩
  refine ⟨fun i => ⟨?_, fun none => ?_⟩, ⟨fun limit => ?_, fun none => ?_⟩, fun j => ?_, ?_⟩
  · rintro (p | q)
    · exact ((h'.entry i).2 (apart i p)).trans ((h.entry i).1 p)
    · exact ((h'.entry i).1 q).trans (by rw [kept i q])
  · obtain ⟨noP, noQ⟩ := not_or.1 none
    exact ((h'.entry i).2 noQ).trans ((h.entry i).2 noP)
  · by_cases first : ∃ i, P i ∧ s.peers[i].reaches img
    · have solver := h.trigger.1 first
      by_cases second : ∃ i, Q i ∧ t.peers[i].reaches img
      · exact (h'.trigger.1 second).trans (trigger_trigger stc solver)
      · exact (h'.trigger.2 second).trans solver
    · exact (h'.trigger.1 ((reaches.1 limit).resolve_left first)).trans (trigger_congr stc (h.trigger.2 first))
  · obtain ⟨first, second⟩ := not_or.1 (mt reaches.2 none)
    exact (h'.trigger.2 second).trans (h.trigger.2 first)
  · refine ((h.slot j).trans (h'.slot j)).congr fun st => ⟨?_, ?_⟩
    · rintro (⟨i, p, gone⟩ | ⟨i, q, gone⟩)
      · exact ⟨i, .inl p, gone⟩
      · exact ⟨i, .inr q, by rw [← kept i q]; exact gone⟩
    · rintro ⟨i, p | q, gone⟩
      · exact .inl ⟨i, p, gone⟩
      · exact .inr ⟨i, q, by rw [kept i q]; exact gone⟩
  · have frame := h'.frame
    rw [h.frame] at frame
    exact frame

/-! ### The tick at one entry -/

/-- An entry written twice. -/
theorem modPeer_modPeer (f g : PeerEntry → PeerEntry) : (s.modPeer i f).modPeer i g = s.modPeer i fun e => g (f e) := by
  simp [State.modPeer]

theorem modPeer_congr {f g : PeerEntry → PeerEntry} (same : f s.peers[i] = g s.peers[i]) : s.modPeer i f = s.modPeer i g := by
  unfold State.modPeer
  rw [same]

theorem agedOnce_young {a : Nat} (state : e.state = .stale) (age : e.age = some a) (young : a + 1 ≠ img.lostLimit) :
    e.agedOnce img = { e with age := some (a + 1) } := by
  unfold PeerEntry.agedOnce
  rw [state, age]
  exact if_neg young

theorem agedOnce_fresh {a : Nat} (state : e.state = .fresh) (age : e.age = some a) :
    e.agedOnce img = { e with age := some (a + 1), state := if a + 1 = img.staleLimit then .stale else .fresh } := by
  unfold PeerEntry.agedOnce
  rw [state, age]

theorem agedOnce_old {a : Nat} (state : e.state = .stale) (age : e.age = some a) (old : a + 1 = img.lostLimit) :
    (e.binding = .unused → e.agedOnce img = { e with age := some (a + 1) }) ∧
    (∀ st, e.binding = .single st →
      e.agedOnce img = { e with state := .lost, record := none, unread := false, age := some img.lostLimit }) ∧
    (∀ lo hi, e.binding = .pool lo hi → e.agedOnce img = PeerEntry.blank e.binding none) := by
  unfold PeerEntry.agedOnce
  rw [state, age]
  dsimp only
  rw [if_pos old]
  refine ⟨fun unused => ?_, fun st single => ?_, fun lo hi pool => ?_⟩
  · split
    · next single => exact Binding.noConfusion (unused.symm.trans single)
    · next pool => exact Binding.noConfusion (unused.symm.trans pool)
    · rfl
  · split
    · rfl
    · next pool => exact Binding.noConfusion (single.symm.trans pool)
    · next unused => exact Binding.noConfusion (single.symm.trans unused)
  · split
    · next single => exact Binding.noConfusion (pool.symm.trans single)
    · rfl
    · next unused => exact Binding.noConfusion (pool.symm.trans unused)

theorem agedOnce_idle (h : (∀ a, e.age ≠ some a) ∨ e.state = .waiting ∨ e.state = .lost) : e.agedOnce img = e := by
  unfold PeerEntry.agedOnce
  rcases h with ageless | state | state
  · cases age : e.age with
    | some a => exact absurd age (ageless a)
    | none => cases e.state <;> rfl
  · rw [state]
  · rw [state]

/-- The entry alone has aged. -/
def agedAlone (img : Image) (i : Fin 16) (s : State) : State := s.modPeer i (·.agedOnce img)

theorem agedAlone_idle (h : (∀ a, s.peers[i].age ≠ some a) ∨ s.peers[i].state = .waiting ∨ s.peers[i].state = .lost) :
    agedAlone img i s = s := by
  have same : s.peers.set i s.peers[i] = s.peers := by simp
  unfold agedAlone State.modPeer
  dsimp only
  rw [agedOnce_idle h, same]

theorem ageEntry_idle (h : (∀ a, s.peers[i].age ≠ some a) ∨ s.peers[i].state = .waiting ∨ s.peers[i].state = .lost) :
    ageEntry i s = s := by
  unfold ageEntry
  dsimp only
  rcases h with ageless | state | state
  · split
    · next a _ age => exact absurd age (ageless a)
    · next a _ age => exact absurd age (ageless a)
    · rfl
  · rw [state]
  · rw [state]

theorem staleLimit_image (image : s.image = some img) : staleLimit s = img.staleLimit := by
  unfold staleLimit
  rw [image]
  rfl

theorem lostLimit_image (image : s.image = some img) : lostLimit s = img.lostLimit := by
  unfold lostLimit
  rw [image]
  rfl

/-- A FRESH entry at the tick: its age goes up, and at the stale limit it becomes STALE (R8). -/
theorem ageEntry_fresh {a : Nat} (image : s.image = some img) (state : s.peers[i].state = .fresh) (age : s.peers[i].age = some a) :
    ageEntry i s = if a + 1 = img.staleLimit then trigger (agedAlone img i s) else agedAlone img i s := by
  unfold ageEntry
  dsimp only
  rw [state, age]
  dsimp only
  rw [staleLimit_image (s := s.modPeer i _) image]
  split
  · next limit =>
    unfold becomeStale agedAlone
    rw [modPeer_modPeer, staleLimit_image (s := s.modPeer i _) image]
    congr 1
    refine modPeer_congr ?_
    rw [agedOnce_fresh state age, if_pos limit, limit]
  · next limit =>
    refine modPeer_congr ?_
    rw [agedOnce_fresh state age, if_neg limit, ← state]

theorem ageEntry_young {a : Nat} (image : s.image = some img) (state : s.peers[i].state = .stale)
    (age : s.peers[i].age = some a) (young : a + 1 ≠ img.lostLimit) : ageEntry i s = agedAlone img i s := by
  unfold ageEntry
  dsimp only
  rw [state, age]
  dsimp only
  rw [lostLimit_image (s := s.modPeer i _) image, if_neg young]
  exact modPeer_congr (agedOnce_young state age young).symm

/-- A STALE entry at the lost limit (R9, R10). -/
theorem ageEntry_old {a : Nat} (image : s.image = some img) (state : s.peers[i].state = .stale)
    (age : s.peers[i].age = some a) (old : a + 1 = img.lostLimit) :
    ageEntry i s = loseEntry i (s.modPeer i fun e => { e with age := some (a + 1) }) := by
  unfold ageEntry
  dsimp only
  rw [state, age]
  dsimp only
  rw [lostLimit_image (s := s.modPeer i _) image, if_pos old]

/-- The entry ages and no limit is met. -/
theorem EntriesAged.kept (quiet : ¬s.peers[i].reaches img) : EntriesAged img (· = i) s (agedAlone img i s) where
  entry := fun j => ⟨by rintro rfl; exact modPeer_get_self .., fun other => modPeer_get_other other ..⟩
  trigger := ⟨fun ⟨_, here, limit⟩ => absurd (here ▸ limit) quiet, fun _ => rfl⟩
  slot := fun _ => .none (fun _ ⟨_, here, gone⟩ => quiet (releases_reaches (here ▸ gone))) _
  frame := rfl

/-- The entry ages and meets a limit. -/
theorem EntriesAged.limited {slots : Vector Slot 2} (limit : s.peers[i].reaches img)
    (marked : ∀ j : Fin 2, Discarded (s.peers[i].releases img) s.probe.slots[j] slots[j]) :
    EntriesAged img (· = i) s (Machine.trigger { agedAlone img i s with probe := { s.probe with slots := slots } }) := by
  have solver := trigger_congr (s := s) (t := { agedAlone img i s with probe := { s.probe with slots := slots } }) rfl rfl
  have frame := trigger_eq { agedAlone img i s with probe := { s.probe with slots := slots } }
  generalize Machine.trigger { agedAlone img i s with probe := { s.probe with slots := slots } } = t at solver frame ⊢
  refine ⟨fun j => ⟨?_, fun other => ?_⟩, ⟨fun _ => solver, fun none => absurd ⟨i, rfl, limit⟩ none⟩, fun j => ?_, ?_⟩
  · rintro rfl
    rw [frame]
    exact modPeer_get_self ..
  · rw [frame]
    exact modPeer_get_other other ..
  · rw [frame]
    exact (marked j).congr fun st => ⟨fun gone => ⟨i, rfl, gone⟩, fun ⟨_, here, gone⟩ => here ▸ gone⟩
  · rw [frame]
    rfl

/-- An entry without a running age meets no limit. -/
theorem not_reaches_quiet (h : (∀ a, e.age ≠ some a) ∨ e.state = .waiting ∨ e.state = .lost) : ¬e.reaches img := by
  rcases h with ageless | idle
  · exact fun ⟨a, age, _⟩ => ageless a age
  · exact not_reaches_idle idle

theorem reaches_fresh {a : Nat} (state : e.state = .fresh) (age : e.age = some a) :
    e.reaches img ↔ a + 1 = img.staleLimit := by
  constructor
  · rintro ⟨b, age', ⟨-, limit⟩ | ⟨stale, -⟩⟩
    · rw [Option.some.inj (age.symm.trans age')]
      exact limit
    · exact EntryState.noConfusion (state.symm.trans stale)
  · exact fun limit => ⟨a, age, .inl ⟨state, limit⟩⟩

theorem reaches_stale {a : Nat} (state : e.state = .stale) (age : e.age = some a) :
    e.reaches img ↔ a + 1 = img.lostLimit ∧ e.binding ≠ .unused := by
  constructor
  · rintro ⟨b, age', ⟨fresh, -⟩ | ⟨-, limit, used⟩⟩
    · exact EntryState.noConfusion (state.symm.trans fresh)
    · rw [Option.some.inj (age.symm.trans age')]
      exact ⟨limit, used⟩
  · exact fun ⟨limit, used⟩ => ⟨a, age, .inr ⟨state, limit, used⟩⟩

theorem releases_old {a lo hi : Nat} (state : e.state = .stale) (age : e.age = some a) (old : a + 1 = img.lostLimit)
    (pool : e.binding = .pool lo hi) : e.releases img st ↔ e.peer = some st :=
  ⟨fun ⟨_, _, _, _, _, _, _, peer⟩ => peer, fun peer => ⟨a, lo, hi, age, old, state, pool, peer⟩⟩

/-- A STALE entry meets the lost limit: a SINGLE entry is lost, a POOL entry released (R9, R10). -/
theorem loseEntry_aged {a : Nat} (image : s.image = some img) (state : s.peers[i].state = .stale)
    (age : s.peers[i].age = some a) (old : a + 1 = img.lostLimit) :
    EntriesAged img (· = i) s (loseEntry i (s.modPeer i fun e => { e with age := some (a + 1) })) := by
  have formula := agedOnce_old state age old
  have bound : (s.modPeer i fun e => { e with age := some (a + 1) }).peers[i].binding = s.peers[i].binding := by
    rw [modPeer_get_self]
  have peer : (s.modPeer i fun e => { e with age := some (a + 1) }).peers[i].peer = s.peers[i].peer := by
    rw [modPeer_get_self]
  have limit (used : s.peers[i].binding ≠ .unused) : s.peers[i].reaches img := (reaches_stale state age).2 ⟨old, used⟩
  unfold loseEntry
  rw [bound]
  cases binding : s.peers[i].binding with
  | unused =>
    have aged : s.modPeer i (fun e => { e with age := some (a + 1) }) = agedAlone img i s :=
      modPeer_congr (formula.1 binding).symm
    dsimp only
    rw [aged]
    exact .kept fun reaches => ((reaches_stale state age).1 reaches).2 binding
  | single bst =>
    have aged : s.modPeer i (fun e => { e with state := .lost, record := none, unread := false, age := some img.lostLimit }) =
        agedAlone img i s := modPeer_congr (formula.2.1 bst binding).symm
    dsimp only
    unfold becomeLost
    rw [modPeer_modPeer, lostLimit_image (s := s.modPeer i _) image, aged]
    exact .limited (slots := s.probe.slots) (limit (by rw [binding]; exact Binding.noConfusion)) fun j =>
      .none (fun st ⟨_, _, _, _, _, _, pool, _⟩ => Binding.noConfusion (binding.symm.trans pool)) _
  | pool lo hi =>
    have aged : s.modPeer i (fun e => PeerEntry.blank e.binding none) = agedAlone img i s :=
      modPeer_congr (formula.2.2 lo hi binding).symm
    have limit' := limit (by rw [binding]; exact Binding.noConfusion)
    dsimp only
    unfold releasePool
    rw [peer]
    cases held : s.peers[i].peer with
    | none =>
      dsimp only
      rw [modPeer_modPeer]
      rw [aged]
      exact .limited (slots := s.probe.slots) limit' fun j =>
        .none (fun st gone => Option.some_ne_none st (((releases_old state age old binding).1 gone).symm.trans held)) _
    | some st =>
      have marked := EntriesAged.limited (s := s) (i := i) (img := img)
        (slots := mapVector (Slot.discardFor st) s.probe.slots) limit' fun j => by
          rw [mapVector_get]
          refine (discardFor_discarded st _).congr fun st' => ?_
          rw [releases_old state age old binding, held]
          exact ⟨fun same => by rw [same], fun same => (Option.some.inj same).symm⟩
      rw [← aged] at marked
      have twice : ((s.modPeer i fun e => { e with age := some (a + 1) }).modProbe
          fun p => { p with slots := mapVector (Slot.discardFor st) p.slots }).modPeer i (fun e => PeerEntry.blank e.binding none) =
          { s.modPeer i (fun e => PeerEntry.blank e.binding none) with
            probe := { s.probe with slots := mapVector (Slot.discardFor st) s.probe.slots } } := by
        simp [State.modPeer, State.modProbe]
      dsimp only
      rw [twice]
      exact marked

/-- The tick at an entry: it ages, a limit raises the trigger, and a release marks the windows of its station. -/
theorem ageEntry_aged (image : s.image = some img) (i : Fin 16) : EntriesAged img (· = i) s (ageEntry i s) := by
  have quiet (h : (∀ a, s.peers[i].age ≠ some a) ∨ s.peers[i].state = .waiting ∨ s.peers[i].state = .lost) :
      EntriesAged img (· = i) s (ageEntry i s) := by
    have stays := EntriesAged.kept (i := i) (not_reaches_quiet (img := img) h)
    rw [agedAlone_idle h] at stays
    rw [ageEntry_idle h]
    exact stays
  cases age : s.peers[i].age with
  | none => exact quiet (.inl fun a => by rw [age]; exact Option.some_ne_none a |>.symm)
  | some a =>
    cases state : s.peers[i].state with
    | waiting => exact quiet (.inr (.inl state))
    | lost => exact quiet (.inr (.inr state))
    | fresh =>
      rw [ageEntry_fresh image state age]
      split
      · next limit =>
        exact .limited (slots := s.probe.slots) ⟨a, age, .inl ⟨state, limit⟩⟩ fun j =>
          .none (fun st ⟨_, _, _, _, _, stale, _⟩ => EntryState.noConfusion (state.symm.trans stale)) _
      · next limit => exact .kept fun reaches => limit ((reaches_fresh state age).1 reaches)
    | stale =>
      by_cases old : a + 1 = img.lostLimit
      · rw [ageEntry_old image state age old]
        exact loseEntry_aged image state age old
      · rw [ageEntry_young image state age old]
        exact .kept fun reaches => old ((reaches_stale state age).1 reaches).1

/-- The tick at the entries of a list, each met once. -/
theorem ageList_aged (image : s.image = some img) (l : List (Fin 16)) (once : l.Nodup) :
    EntriesAged img (· ∈ l) s (l.foldl (fun s i => ageEntry i s) s) := by
  induction l generalizing s with
  | nil =>
    have same : (fun i : Fin 16 => i ∈ ([] : List (Fin 16))) = fun _ => False := funext fun i => propext (by simp)
    rw [same]
    exact .nothing s
  | cons i l ih =>
    obtain ⟨absent, once'⟩ := List.nodup_cons.1 once
    have first := ageEntry_aged image i
    have later := ih (s := ageEntry i s) (by simpa using image) once'
    have same : (fun j : Fin 16 => j ∈ i :: l) = fun j => j = i ∨ j ∈ l := funext fun j => propext List.mem_cons
    rw [same, List.foldl_cons]
    exact first.trans later fun j here there => absent (here ▸ there)

theorem ageEntries_aged (image : s.image = some img) : EntriesAged img (fun _ => True) s (ageEntries s) := by
  have all := ageList_aged image (List.finRange 16) (List.nodup_finRange 16)
  have same : (fun i : Fin 16 => i ∈ List.finRange 16) = fun _ => True :=
    funext fun i => propext ⟨fun _ => trivial, fun _ => List.mem_finRange i⟩
  rw [same] at all
  exact all

/-! ### The commands -/

theorem trigger_stated (v : State) (stc : v.stc = s.stc) (solver : v.solver = s.solver) :
    trigger v =
      { v with
        solver :=
          { v.solver with
            settle := if s.serving = true ∧ s.stc.kind = some .delay then some (s.solver.settle.getD 200000)
              else s.solver.settle } } := by
  have serving : v.serving = s.serving := by rw [State.serving, State.serving, stc]
  have settle : (if s.stc.kind = some .delay ∧ s.serving = true then some (s.solver.settle.getD 200000) else s.solver.settle) =
      if s.serving = true ∧ s.stc.kind = some .delay then some (s.solver.settle.getD 200000) else s.solver.settle :=
    if_congr And.comm rfl rfl
  rw [trigger_eq, stc, serving, solver, settle]

/-- The sensor is asked where the table takes records (R47). -/
theorem sendAirRequest_eq (s : State) :
    sendAirRequest s =
      { s with
        air :=
          { s.air with
            request := if s.stc.mode = .announce ∨ s.serving = true then some 50000 else s.air.request } } := by
  have asked : tableOpen s = true ↔ s.stc.mode = .announce ∨ s.serving = true := by
    unfold tableOpen State.serving
    simp
  unfold sendAirRequest
  split
  · next isOpen =>
    rw [if_pos (asked.1 isOpen)]
    rfl
  · next closed => rw [if_neg (mt asked.2 closed)]

theorem agedOnce_spec (img : Image) (e : PeerEntry) :
    (e.state = .waiting ∨ e.state = .lost → e.agedOnce img = e) ∧
    (∀ a, e.age = some a → e.state = .fresh →
      e.agedOnce img = { e with age := some (a + 1), state := if a + 1 = img.staleLimit then .stale else .fresh }) ∧
    (∀ a, e.age = some a → e.state = .stale → a + 1 ≠ img.lostLimit → e.agedOnce img = { e with age := some (a + 1) }) ∧
    (∀ a st, e.age = some a → e.state = .stale → a + 1 = img.lostLimit → e.binding = .single st →
      e.agedOnce img = { e with state := .lost, record := none, unread := false, age := some img.lostLimit }) ∧
    (∀ a lo hi, e.age = some a → e.state = .stale → a + 1 = img.lostLimit → e.binding = .pool lo hi →
      e.agedOnce img = PeerEntry.blank (.pool lo hi) none) :=
  ⟨fun idle => agedOnce_idle (.inr idle), fun _ age state => agedOnce_fresh state age,
    fun _ age state young => agedOnce_young state age young,
    fun _ st age state old single => (agedOnce_old state age old).2.1 st single,
    fun _ lo hi age state old pool => by rw [(agedOnce_old state age old).2.2 lo hi pool, pool]⟩

/-- Settles O39: the tick at each entry touches it, the solver's settle timer and the windows of a station it releases. -/
theorem entriesAgeToTheirLimits : Obligations.EntriesAgeToTheirLimits := by
  refine ⟨fun img s image => ?_, fun i img s image => ?_⟩
  · have aged := ageEntries_aged (s := s) image
    have stc : (ageEntries s).stc = s.stc := by simp
    have air : (ageEntries s).air = s.air := by simp
    have taken : exec .secondTick s = .next (finishEvent s (sendAirRequest (ageEntries s))) := rfl
    rw [taken]
    generalize ageEntries s = u at aged stc air
    have serving : u.serving = s.serving := by rw [State.serving, State.serving, stc]
    have sent := sendAirRequest_eq u
    rw [stc, serving, air] at sent
    rw [sent]
    intro limited released
    have limits : (∃ i : Fin 16, True ∧ s.peers[i].reaches img) ↔ limited := exists_congr fun _ => and_iff_right trivial
    refine ⟨_, rfl, fun i => ?_, rfl, fun limit serves delay => ?_, fun none => ?_, fun j => ?_, ?_⟩
    · have entry : u.peers[i] = s.peers[i].agedOnce img := (aged.entry i).1 trivial
      dsimp only
      rw [entry]
      exact agedOnce_spec img _
    · refine (aged.trigger.1 (limits.2 limit)).trans ?_
      rw [trigger_eq, if_pos ⟨delay, serves⟩]
    · show u.solver = s.solver
      by_cases limit : limited
      · have idle : ¬(s.stc.kind = some .delay ∧ s.serving = true) := fun ⟨delay, serves⟩ => by
          rcases none with no | no | no
          · exact no limit
          · exact Bool.noConfusion (no.symm.trans serves)
          · exact no delay
        rw [aged.trigger.1 (limits.2 limit), trigger_eq, if_neg idle]
      · exact aged.trigger.2 (mt limits.1 limit)
    · exact (aged.slot j).congr fun st => exists_congr fun _ => and_iff_right trivial
    · have frame := aged.frame
      rw [frame]
  · intro triggered put
    refine ⟨fun fresh => ?_, fun st stale single => ?_, fun lo hi st stale pool held => ?_⟩
    · have taken : exec (.entryStale i) s = .next (finishEvent s (becomeStale i s)) := by
        show Host.Outcome.next (finishEvent s (if s.peers[i].state = .fresh then becomeStale i s else s)) = _
        rw [if_pos fresh]
      rw [taken]
      unfold becomeStale
      rw [staleLimit_image image, trigger_stated (s := s) (s.modPeer i _) rfl rfl]
      rfl
    · have taken : exec (.entryLost i) s = .next (finishEvent s (becomeLost i s)) := by
        show Host.Outcome.next (finishEvent s
          (if s.peers[i].state = .stale ∧ s.peers[i].binding.singleStation.isSome then becomeLost i s else s)) = _
        rw [if_pos ⟨stale, by rw [single]; rfl⟩]
      rw [taken]
      unfold becomeLost
      rw [lostLimit_image image, trigger_stated (s := s) (s.modPeer i _) rfl rfl]
      rfl
    · have taken : exec (.poolRelease i) s = .next (finishEvent s (releasePool i s)) := by
        show Host.Outcome.next (finishEvent s
          (if s.peers[i].state = .stale ∧ s.peers[i].binding.isPool then releasePool i s else s)) = _
        rw [if_pos ⟨stale, by rw [pool]; rfl⟩]
      refine ⟨mapVector (Slot.discardFor st) s.probe.slots, ?_, fun j => ?_⟩
      · rw [taken]
        unfold releasePool
        rw [held]
        have blank : (s.modProbe fun p => { p with slots := mapVector (Slot.discardFor st) p.slots }).modPeer i
              (fun e => PeerEntry.blank e.binding none) =
            (s.modProbe fun p => { p with slots := mapVector (Slot.discardFor st) p.slots }).modPeer i
              (fun _ => PeerEntry.blank (.pool lo hi) none) :=
          modPeer_congr (congrArg (PeerEntry.blank · none) pool)
        dsimp only
        rw [blank, trigger_stated (s := s) ((s.modProbe _).modPeer i fun _ => PeerEntry.blank (.pool lo hi) none) rfl rfl]
        rfl
      · rw [mapVector_get]
        obtain ⟨opened, closed⟩ := discardFor_discarded st s.probe.slots[j]
        refine ⟨fun w isOpen owned => (opened w isOpen).1 owned, fun other => ?_⟩
        by_cases isOpen : ∃ w, s.probe.slots[j] = .opened w
        · obtain ⟨w, isOpen⟩ := isOpen
          exact ((opened w isOpen).2 (other w isOpen)).trans isOpen.symm
        · exact closed fun w here => isOpen ⟨w, here⟩

end Sys2Proof.Machine
end

section
/-! PROOFS. A cue action as its bytes spell it (R145, R146, R147, R202). -/

namespace Sys2Proof.Machine

variable {params : List Byte} {field b : Byte} {mem : Nat → Byte} {position lo hi v : Nat}

/-! ### Operands -/

/-- A channel set marks channels 0 to 3 alone (R202). -/
theorem channelSet_eq (b : Byte) :
    channelSet b = if b.toNat ≤ 15 then .ok (b.setWidth 4) else .error .valueRange := by
  have low : b.extractLsb' 0 4 = b.setWidth 4 := by
    rw [← BitVec.toNat_inj, BitVec.extractLsb'_toNat, BitVec.toNat_setWidth, Nat.shiftRight_zero]
  have high : b.extractLsb' 4 4 = 0#4 ↔ b.toNat ≤ 15 := by
    have bound := b.isLt
    rw [← BitVec.toNat_inj, BitVec.extractLsb'_toNat, Nat.shiftRight_eq_div_pow]
    show b.toNat / 16 % 16 = 0 ↔ _
    omega
  unfold channelSet
  rw [low]
  exact if_congr high rfl rfl

theorem setAction_finds (mk : BitVec 4 → Action) (b : Byte) : FindsSet b mk (setAction mk b) := by
  unfold setAction
  rw [channelSet_eq]
  refine ⟨fun good => by rw [if_pos good], fun bad => by rw [if_neg (by omega)]⟩

theorem fieldValue_of_missing (missing : FieldMissing params field) : fieldValue params field = none := by
  obtain ⟨k, names, short⟩ := missing
  unfold fieldValue
  rw [if_neg (by omega), names, Nat.add_sub_cancel_left, List.getElem?_eq_none short]
  rfl

theorem fieldValue_of_gives (gives : FieldGives params field v) : fieldValue params field = some v := by
  unfold fieldValue
  rcases gives with ⟨small, rfl⟩ | ⟨k, p, names, present, rfl⟩
  · rw [if_pos (by omega)]
  · rw [if_neg (by omega), names, Nat.add_sub_cancel_left, present]
    rfl

theorem rangedValue_of_missing (missing : FieldMissing params field) :
    rangedValue params field lo hi = .error .noParameter := by
  unfold rangedValue
  rw [fieldValue_of_missing missing]

theorem rangedValue_of_gives (gives : FieldGives params field v) :
    rangedValue params field lo hi = if lo ≤ v ∧ v ≤ hi then .ok v else .error .valueRange := by
  unfold rangedValue
  rw [fieldValue_of_gives gives]

theorem valueAction_finds (mk : Nat → Action) (params : List Byte) (field : Byte) (lo hi : Nat) :
    FindsValued params field True lo hi mk (valueAction mk params field lo hi) := by
  unfold valueAction
  refine ⟨fun missing => by rw [rangedValue_of_missing missing], fun v gives => ?_⟩
  rw [rangedValue_of_gives gives]
  refine ⟨fun good => by rw [if_pos good.2], fun bad => by rw [if_neg fun range => bad ⟨trivial, range⟩]⟩

theorem setValueAction_finds (mk : BitVec 4 → Nat → Action) (b : Byte) (params : List Byte) (field : Byte) (hi : Nat) :
    FindsValued params field (b.toNat ≤ 15) 0 hi (mk (b.setWidth 4)) (setValueAction mk b params field hi) := by
  unfold setValueAction
  refine ⟨fun missing => by rw [rangedValue_of_missing missing], fun v gives => ?_⟩
  rw [rangedValue_of_gives gives, channelSet_eq]
  refine ⟨fun ⟨set, range⟩ => by rw [if_pos range, if_pos set], fun bad => ?_⟩
  by_cases range : 0 ≤ v ∧ v ≤ hi
  · rw [if_pos range, if_neg fun set => bad ⟨set, range⟩]
  · rw [if_neg range]

/-! ### The action at a position -/

/-- The length of a known kind (R145, R202). -/
theorem kindLength_eq (k : Byte) :
    kindLength k =
      if k.toNat ≤ 3 ∨ 16 ≤ k.toNat ∧ k.toNat ≤ 21 ∨ 32 ≤ k.toNat ∧ k.toNat ≤ 33 then
        some (1 + if k.toNat ≤ 3 then 0 else if k.toNat ≤ 21 then 1 else 2)
      else none := by
  unfold kindLength
  split
  case h_13 zero one two three mute unmute sleep wake offset wait gain preset =>
    refine (if_neg fun known => ?_).symm
    simp only [imp_false] at zero one two three mute unmute sleep wake offset wait gain preset
    omega
  all_goals
    next kind => rw [kind]; rfl

/-- An action of a known kind, from its operand bytes (R202). -/
def decodeKind (params : List Byte) (b1 b2 : Byte) (kind : Nat) : Except CueFaultKind Action :=
  match kind with
  | 0x00 => .ok .finish
  | 0x01 => .ok .probe
  | 0x02 => .ok .freeze
  | 0x03 => .ok .thaw
  | 0x10 => setAction .mute b1
  | 0x11 => setAction .unmute b1
  | 0x12 => setAction .sleep b1
  | 0x13 => setAction .wake b1
  | 0x14 => valueAction .offset params b1 0 60
  | 0x15 => valueAction .wait params b1 1 250
  | 0x20 => setValueAction .gain b1 params b2 184
  | 0x21 => setValueAction .preset b1 params b2 3
  | _ => .error .unknownKind

theorem decodeAction_known {len : Nat} (known : kindLength (mem position) = some len) (inside : position < 512)
    (within : position + len ≤ 512) :
    decodeAction mem params position =
      decodeKind params (mem (position + 1)) (mem (position + 2)) (mem position).toNat := by
  unfold decodeAction
  rw [if_neg (by omega), known]
  dsimp only
  exact if_neg (by omega)

theorem actionSpelled (mem : Nat → Byte) (params : List Byte) (position : Nat) : ActionSpelled mem params position := by
  unfold ActionSpelled
  intro found kind b1 b2 known last
  have length : kindLength (mem position) =
      if known then some (1 + if kind ≤ 3 then 0 else if kind ≤ 21 then 1 else 2) else none := kindLength_eq (mem position)
  refine ⟨fun beyond => if_pos beyond, fun inside unknown => ?_, fun inside isKnown short => ?_, fun inside => ?_⟩
  · rw [if_neg unknown] at length
    show decodeAction mem params position = _
    unfold decodeAction
    rw [if_neg (by omega), length]
  · rw [if_pos isKnown] at length
    show decodeAction mem params position = _
    unfold decodeAction
    rw [if_neg (by omega), length]
    dsimp only
    rw [if_pos (by omega)]
  · have decoded {k : Nat} (here : kind = k) (isKnown : k ≤ 3 ∨ 16 ≤ k ∧ k ≤ 21 ∨ 32 ≤ k ∧ k ≤ 33) :
        found = decodeKind params b1 b2 k := by
      have kinds : known := by
        show kind ≤ 3 ∨ 16 ≤ kind ∧ kind ≤ 21 ∨ 32 ≤ kind ∧ kind ≤ 33
        rw [here]
        exact isKnown
      have decoded := decodeAction_known (params := params) (length.trans (if_pos kinds)) (by omega) (by omega)
      rw [show (mem position).toNat = k from here] at decoded
      exact decoded
    refine ⟨fun h => decoded h (by decide), fun h => decoded h (by decide), fun h => decoded h (by decide),
      fun h => decoded h (by decide), fun h => ?_, fun h => ?_, fun h => ?_, fun h => ?_, fun h => ?_, fun h => ?_,
      fun h => ?_, fun h => ?_⟩
    all_goals rw [decoded h (by decide)]
    · exact setAction_finds .mute b1
    · exact setAction_finds .unmute b1
    · exact setAction_finds .sleep b1
    · exact setAction_finds .wake b1
    · exact valueAction_finds .offset params b1 0 60
    · exact valueAction_finds .wait params b1 1 250
    · exact setValueAction_finds .gain b1 params b2 184
    · exact setValueAction_finds .preset b1 params b2 3

end Sys2Proof.Machine
end

section
/-! PROOFS. The actions of a list (R148 to R153, R24, R100 to R103, R110, R116, R117). -/

namespace Sys2Proof.Machine

variable {s t u v : State} {c : Fin 4} {p : Power} {ch : Channel} {g : GainTarget} {set : BitVec 4} {l : ListContext}

/-! ### A list takes an action -/

theorem takeAction_error {kind : CueFaultKind} (running : s.cue.list = .running l)
    (found : decodeAction (cueByte s) l.params l.position = .error kind) :
    takeAction s = bump .cueFaults
      { s with cue := { s.cue with list := .idle, lastList := some ⟨l.cue, .fault kind, l.position⟩ } } := by
  unfold takeAction
  rw [running]
  dsimp only
  rw [found]
  rfl

theorem takeAction_ok {a : Action} (running : s.cue.list = .running l)
    (found : decodeAction (cueByte s) l.params l.position = .ok a) : takeAction s = advanceList l a (performAction a s) := by
  unfold takeAction
  rw [running]
  dsimp only
  rw [found]

/-- The list has moved on by so many bytes, in the state an action has left. -/
def movedOn (l : ListContext) (k : Nat) (s t : State) : State :=
  { t with cue := { s.cue with list := .running { l with position := l.position + k } } }

/-- An action that is neither END nor WAIT moves the list on (R145). -/
theorem takeAction_movedOn {a : Action} (running : s.cue.list = .running l)
    (found : decodeAction (cueByte s) l.params l.position = .ok a) (goes : a ≠ .finish) (steps : ∀ v, a ≠ .wait v) :
    takeAction s = movedOn l a.length s (performAction a s) := by
  have cue : (performAction a s).cue = s.cue := by simp
  rw [takeAction_ok running found]
  unfold movedOn
  rw [← cue]
  cases a with
  | finish => exact absurd rfl goes
  | wait v => exact absurd rfl (steps v)
  | _ => rfl

/-! ### A gain target that an action sets anew (R100 to R103, R110) -/

/-- The power state that a channel goes to when it heeds a gain target (R110). -/
def Power.heeds (s : State) (c : Fin 4) (g : GainTarget) (ready : Bool) : Power → Power
  | .active => if s.autoStandby c = true ∧ (s.level.present = false ∨ g = .silence) then .watch else .active
  | .watch => if s.level.present = true ∧ g ≠ .silence then .active else .watch
  | .standby => if s.level.present = true ∧ g ≠ .silence then (if ready then .active else .waking) else .standby
  | other => other

theorem heeding_power (serves : s.serving = true) (calm : s.emc.emergency = false) (ch : Channel) :
    (ch.heeding s c).power = ch.power.heeds s c ch.gainTarget ch.ready := by
  have loud_iff : (s.level.present = true ∧ ch.gainTarget ≠ .silence) ↔
      ¬(s.level.present = false ∨ ch.gainTarget = .silence) := by
    rw [not_or, Bool.not_eq_false]
  cases power : ch.power with
  | active =>
    have wants : ch.wants s c = true ↔ s.autoStandby c = true ∧ (s.level.present = false ∨ ch.gainTarget = .silence) := by
      rw [Channel.wants_iff]
      exact ⟨fun ⟨_, auto, silent, _⟩ => ⟨auto, silent⟩, fun ⟨auto, silent⟩ => ⟨serves, auto, silent, calm⟩⟩
    rw [heeding_active serves power]
    show _ = if _ then _ else _
    by_cases wanted : ch.wants s c = true
    · rw [if_pos wanted, if_pos (wants.1 wanted), moved_power]
    · rw [if_neg wanted, if_neg (mt wants.2 wanted), power]
  | watch =>
    rw [heeding_watch serves power]
    show _ = if _ then _ else _
    by_cases silent : s.level.present = false ∨ ch.gainTarget = .silence
    · rw [if_pos silent, if_neg fun loud => loud_iff.1 loud silent, power]
    · rw [if_neg silent, if_pos (loud_iff.2 silent), moved_power]
  | standby =>
    rw [heeding_standby serves power]
    show _ = if _ then _ else _
    by_cases silent : s.level.present = false ∨ ch.gainTarget = .silence
    · rw [if_pos silent, if_neg fun loud => loud_iff.1 loud silent, power]
    · rw [if_neg silent, if_pos (loud_iff.2 silent), woken_power, wakingPower_loud silent]
  | waking => rw [heeding_other (.inl power), power]; rfl
  | forcedOff => rw [heeding_other (.inr (.inl power)), power]; rfl
  | fault => rw [heeding_other (.inr (.inr power)), power]; rfl

theorem retarget_ramp (g : GainTarget) (ch : Channel) :
    (g = ch.gainTarget → (ch.retarget g).ramp = ch.ramp ∧ (ch.retarget g).factor = ch.factor) ∧
    (g ≠ ch.gainTarget → ch.power.sounding = true →
      (ch.retarget g).ramp = .running ch.factor 0 ∧ (ch.retarget g).factor = ch.factor) ∧
    (g ≠ ch.gainTarget → ch.power.sounding = false → (ch.retarget g).ramp = .idle ∧ (ch.retarget g).factor = .of g) := by
  unfold Channel.retarget
  refine ⟨fun same => ?_, fun new sounds => ?_, fun new silent => ?_⟩
  · rw [if_pos same]
    exact ⟨rfl, rfl⟩
  · rw [if_neg new, if_pos sounds]
    exact ⟨rfl, rfl⟩
  · rw [if_neg new, if_neg (by rw [silent]; exact Bool.false_ne_true)]
    exact ⟨rfl, rfl⟩

/-- A channel whose gain target is set anew, and which heeds it. -/
structure Aimed (s : State) (c : Fin 4) (g : GainTarget) (a b : Channel) : Prop where
  gainTarget : b.gainTarget = g
  same : g = a.gainTarget → b.ramp = a.ramp ∧ b.factor = a.factor
  sounding : g ≠ a.gainTarget → a.power.sounding = true → b.ramp = .running a.factor 0 ∧ b.factor = a.factor
  silent : g ≠ a.gainTarget → a.power.sounding = false → b.ramp = .idle ∧ b.factor = .of g
  power : b.power = a.power.heeds s c g a.ready

theorem aimed_heeding (serves : s.serving = true) (calm : s.emc.emergency = false) (g : GainTarget) (ch : Channel) :
    Aimed s c g ch ((ch.retarget g).heeding s c) := by
  have sound : SameSound (ch.retarget g) ((ch.retarget g).heeding s c) := heeding_sound _
  have ramp : ((ch.retarget g).heeding s c).ramp = (ch.retarget g).ramp := congrArg (·.ramp) sound
  have factor : ((ch.retarget g).heeding s c).factor = (ch.retarget g).factor := congrArg (·.factor) sound
  have rest := retarget_rest g ch
  obtain ⟨same, sounding, silent⟩ := retarget_ramp g ch
  refine ⟨(congrArg (·.gainTarget) sound).trans (congrArg (·.gainTarget) rest), ?_, ?_, ?_, ?_⟩
  · rw [ramp, factor]
    exact same
  · rw [ramp, factor]
    exact sounding
  · rw [ramp, factor]
    exact silent
  · rw [heeding_power serves calm, rest]

/-- The stored values stay when a gain target is set anew. -/
theorem heeding_stored (g : GainTarget) (ch : Channel) :
    ((ch.retarget g).heeding s c).storedGain = ch.storedGain ∧ ((ch.retarget g).heeding s c).storedMute = ch.storedMute := by
  have sound : SameSound (ch.retarget g) ((ch.retarget g).heeding s c) := heeding_sound _
  have rest := retarget_rest g ch
  exact ⟨(congrArg (·.storedGain) sound).trans (congrArg (·.storedGain) rest),
    (congrArg (·.storedMute) sound).trans (congrArg (·.storedMute) rest)⟩

theorem gainWanted_own (serves : s.serving = true) (calm : s.emc.emergency = false) (ch : Channel) :
    ch.gainWanted s c = ch.ownGain := by
  have outside : s.inEmergency = false := calm
  unfold Channel.gainWanted Channel.ownGain
  rw [serves, outside]
  rfl

/-- An action that stores a value in the marked channels and sets their gain targets anew. -/
theorem stored_get (f : Channel → Channel) (set : BitVec 4) (s : State) (c : Fin 4) :
    (forMarked set (fun c s => retargetAndAct c (s.modChannel c f)) s).channels[c] =
      if set.getLsbD c then ((f s.channels[c]).retarget ((f s.channels[c]).gainWanted s c)).heeding s c
      else s.channels[c] :=
  (((ActsAt.mod fun _ => f).comp (retargetAndAct_acts s)).marked set (SameView.refl s)).2 c

theorem marked_get {f : Fin 4 → State → State} {g : Fin 4 → Channel → Channel} (acts : ActsAt s f g) (set : BitVec 4)
    (c : Fin 4) : (forMarked set f s).channels[c] = if set.getLsbD c then g c s.channels[c] else s.channels[c] :=
  (acts.marked set (SameView.refl s)).2 c

/-- Only the stored values of a channel are written. -/
def StoresOnly (f : Channel → Channel) (ch : Channel) : Prop :=
  (f ch).gainTarget = ch.gainTarget ∧ (f ch).ramp = ch.ramp ∧ (f ch).factor = ch.factor ∧ (f ch).power = ch.power ∧
  (f ch).ready = ch.ready

theorem stored_spec (f : Channel → Channel) (set : BitVec 4) (s : State) (c : Fin 4) (only : StoresOnly f s.channels[c]) :
    let b := (forMarked set (fun c s => retargetAndAct c (s.modChannel c f)) s).channels[c]
    b.storedGain = (if set.getLsbD c then (f s.channels[c]).storedGain else s.channels[c].storedGain) ∧
    b.storedMute = (if set.getLsbD c then (f s.channels[c]).storedMute else s.channels[c].storedMute) ∧
    (set.getLsbD c = true → s.serving = true → s.emc.emergency = false →
      Aimed s c (f s.channels[c]).ownGain s.channels[c] b) ∧
    (set.getLsbD c = false → b = s.channels[c]) := by
  intro b
  have get : b = _ := stored_get f set s c
  by_cases marked : set.getLsbD c = true
  · rw [if_pos marked] at get ⊢
    rw [if_pos marked, get]
    obtain ⟨gain, mute⟩ := heeding_stored (s := s) (c := c) ((f s.channels[c]).gainWanted s c) (f s.channels[c])
    refine ⟨gain, mute, fun _ serves calm => ?_, fun unmarked => Bool.noConfusion (marked.symm.trans unmarked)⟩
    obtain ⟨sameGain, ramp, factor, power, ready⟩ := only
    rw [gainWanted_own serves calm]
    obtain ⟨target, same, sounding, silent, heeds⟩ := aimed_heeding (c := c) serves calm (f s.channels[c]).ownGain (f s.channels[c])
    rw [sameGain, ramp, factor] at same
    rw [sameGain, factor, power] at sounding
    rw [sameGain, power] at silent
    rw [power, ready] at heeds
    exact ⟨target, same, sounding, silent, heeds⟩
  · rw [if_neg marked] at get ⊢
    rw [if_neg marked, get]
    exact ⟨rfl, rfl, fun h => absurd h marked, fun _ => rfl⟩

/-! ### The round around a SLEEP (R25, R31) -/

/-- What is told of the round does not rest on channels that have moved before or after. -/
theorem RoundFollows.around (before : OnlyChannels s t) (follows : RoundFollows c p t u) (after : OnlyChannels u v) :
    RoundFollows c p s v := by
  have channel : t.probeChannel = s.probeChannel := by rw [State.probeChannel, State.probeChannel, before.frame]
  have probe : t.probe = s.probe := by rw [before.frame]
  have bus : t.bus = s.bus := by rw [before.frame]
  have stc : t.stc = s.stc := by rw [before.frame]
  have number : t.number = s.number := by rw [State.number, State.number, stc]
  have windows : selfWindows t = selfWindows s := by
    unfold selfWindows
    rw [probe, number]
  have probe' : v.probe = u.probe := by rw [after.frame]
  have bus' : v.bus = u.bus := by rw [after.frame]
  have hand : (handFrame ⟨s.number, 63, .mark⟩ t).bus = (handFrame ⟨s.number, 63, .mark⟩ s).bus :=
    handFrame_bus_congr _ bus stc
  unfold RoundFollows RoundAborted at *
  rw [channel, probe, number, hand, windows, before.count _ Counter.noConfusion, before.count _ Counter.noConfusion] at follows
  rw [probe', bus', after.count _ Counter.noConfusion, after.count _ Counter.noConfusion]
  exact follows

/-- Channels other than `c` have moved, and the round has not. -/
structure Apart (c : Fin 4) (s t : State) : Prop where
  only : OnlyChannels s t
  kept : t.channels[c] = s.channels[c]

theorem Apart.refl (c : Fin 4) (s : State) : Apart c s s := ⟨.refl s, rfl⟩

theorem Apart.trans (h : Apart c s t) (h' : Apart c t u) : Apart c s u := ⟨h.only.trans h'.only, h'.kept.trans h.kept⟩

theorem Apart.image (h : Apart c s t) : t.image = s.image := by rw [h.only.frame]

/-- A pass in which one channel alone can touch the round. -/
theorem forChannels_around {f : Fin 4 → State → State}
    (rests : ∀ d : Fin 4, d ≠ c → ∀ u : State, u.image = s.image → Apart c u (f d u))
    (image : ∀ u : State, (f c u).image = u.image) :
    ∃ v, Apart c s v ∧ Apart c (f c v) (forChannels f s) := by
  have step {d : Fin 4} {u : State} (other : d ≠ c) (h : Apart c s u) : Apart c s (f d u) := h.trans (rests d other u h.image)
  have later {d : Fin 4} {u w : State} (other : d ≠ c) (here : w.image = s.image) (h : Apart c w u) : Apart c w (f d u) :=
    h.trans (rests d other u (h.image.trans here))
  have own {u : State} (h : Apart c s u) : (f c u).image = s.image := (image u).trans h.image
  match c with
  | 0 =>
    have v := Apart.refl 0 s
    exact ⟨s, v, later (d := 3) (by decide) (own v) (later (d := 2) (by decide) (own v) (later (d := 1) (by decide) (own v) (.refl 0 _)))⟩
  | 1 =>
    have v := step (d := 0) (by decide) (Apart.refl 1 s)
    exact ⟨_, v, later (d := 3) (by decide) (own v) (later (d := 2) (by decide) (own v) (.refl 1 _))⟩
  | 2 =>
    have v := step (d := 1) (by decide) (step (d := 0) (by decide) (Apart.refl 2 s))
    exact ⟨_, v, later (d := 3) (by decide) (own v) (.refl 2 _)⟩
  | 3 =>
    have v := step (d := 2) (by decide) (step (d := 1) (by decide) (step (d := 0) (by decide) (Apart.refl 3 s)))
    exact ⟨_, v, .refl 3 _⟩

/-- A channel that the round does not rest on moves alone. -/
theorem OnlyChannels.setPower_apart {cause : Option FaultCause} (apart : s.probeChannel ≠ some c) :
    OnlyChannels s (Machine.setPower c p cause s) := by
  by_cases same : s.channels[c].power = p
  · rw [Machine.setPower, if_pos same]
    exact .refl s
  · have rests : followed c p (repowered c p cause s) = repowered c p cause s := if_neg apart
    rw [setPower_followed same, rests]
    refine ⟨rfl, fun k other => ?_⟩
    rw [repowered_count]
    simp [other]

theorem sleepChannel_apart {d : Fin 4} (apart : s.probeChannel ≠ some d) (other : d ≠ c) : Apart c s (sleepChannel d s) := by
  refine ⟨?_, ((sleepChannel_acts s).one (SameView.refl s) d).2 c other.symm⟩
  have written : OnlyChannels s (s.modChannel d fun ch => { ch with forcedOff := true }) := .written
  by_cases silent : s.channels[d].power = .fault ∨ s.channels[d].power = .forcedOff
  · rw [sleepChannel_silent silent]
    exact written
  · obtain ⟨fault, off⟩ := not_or.1 silent
    rw [sleepChannel_moves fault off]
    exact written.trans (.setPower_apart apart)

/-- A SLEEP that marks the probe channel is followed by the round (R25, R31). -/
theorem sleepMarked_round (marked : set.getLsbD c = true) (channel : s.probeChannel = some c)
    (fault : s.channels[c].power ≠ .fault) (off : s.channels[c].power ≠ .forcedOff) :
    RoundFollows c .forcedOff s (forMarked set sleepChannel s) := by
  have here (u : State) : (if set.getLsbD c then sleepChannel c u else u) = sleepChannel c u := if_pos marked
  obtain ⟨v, before, after⟩ := forChannels_around (s := s) (c := c) (f := fun d u => if set.getLsbD d then sleepChannel d u else u)
    (fun d other u image => by
      split
      · refine sleepChannel_apart (fun same => other ?_) other
        rw [State.probeChannel, image, ← State.probeChannel, channel] at same
        exact (Option.some.inj same).symm
      · exact .refl c u)
    (fun u => by
      rw [here]
      simp)
  rw [here] at after
  have moves := sleepChannel_moves (s := v) (c := c) (by rw [before.kept]; exact fault) (by rw [before.kept]; exact off)
  have differ : (v.modChannel c fun ch => { ch with forcedOff := true }).channels[c].power ≠ .forcedOff := by
    rw [modChannel_get_self, before.kept]
    exact off
  have follows : RoundFollows c .forcedOff v (sleepChannel c v) := by
    rw [moves]
    exact (Follows.setPower differ).before.round
  exact follows.around before.only after.only

/-! ### A PROBE action (R24, R151) -/

/-- A round that goes on by its channel's power state is not aborted. -/
theorem startRound_aborts {img : Image} {i : Fin 2} (image : s.image = some img) (free : freeSlot s = some i) :
    (startRound s).count .probeAborts = s.count .probeAborts := by
  have marked : (enterMarking (reserved i s)).count .probeAborts = s.count .probeAborts := by
    rw [enterMarking_count, handFrame_count, if_neg fun no => Counter.noConfusion no.1]
    rfl
  rw [startRound_eq image free]
  cases power : s.channels[img.probeChannel].power with
  | active => exact marked
  | watch => exact marked
  | standby =>
    have follows := roundWaits_follows i power
    have gate : roundMove (s.channels[img.probeChannel].wakingPower s img.probeChannel) .waking ≠ .cuts := by
      unfold Channel.wakingPower Channel.activePower
      repeat' split
      all_goals exact RoundMove.noConfusion
    dsimp only
    rw [follows.count _ Counter.noConfusion]
    unfold followed
    split
    · rw [probeFollows_eq]
      show State.count (match roundMove (s.channels[img.probeChannel].wakingPower s img.probeChannel) .waking with
        | .stays => _
        | .marks => enterMarking _
        | .cuts => cutRound false _) _ = _
      cases move : roundMove (s.channels[img.probeChannel].wakingPower s img.probeChannel) .waking with
      | stays => rfl
      | marks =>
        dsimp only
        rw [enterMarking_count, handFrame_count, if_neg fun no => Counter.noConfusion no.1]
        rfl
      | cuts => exact absurd move gate
    · rfl
  | waking => rfl
  | forcedOff => rfl
  | fault => rfl

/-- A round that a PROBE starts, by its channel's power state (R24, R114). -/
theorem startRound_spec {img : Image} {i : Fin 2} (image : s.image = some img) (free : freeSlot s = some i) :
    let t := startRound s
    t.probe.timer = none ∧ t.probe.slots = s.probe.slots.set i (.reserved s.number) ∧
    t.count .probeAborts = s.count .probeAborts ∧
    (s.channels[img.probeChannel].power = .active ∨ s.channels[img.probeChannel].power = .watch →
      t.probe.round = .marking ∧ t.probe.deadline = some 50000 ∧ t.channels = s.channels ∧
      t.bus = (handFrame ⟨s.number, 63, .mark⟩ s).bus) ∧
    (s.channels[img.probeChannel].power = .waking → t.probe.round = .waking ∧ t.channels = s.channels) ∧
    (s.channels[img.probeChannel].power = .standby →
      (s.channels[img.probeChannel].ready = false →
        t.probe.round = .waking ∧ t.channels[img.probeChannel].power = .waking) ∧
      (s.channels[img.probeChannel].ready = true →
        t.probe.round = .marking ∧ t.channels[img.probeChannel].power.gateOpen = true)) := by
  intro t
  have eq : t = _ := startRound_eq image free
  have aborts : t.count .probeAborts = s.count .probeAborts := startRound_aborts image free
  obtain ⟨probe, bus, -, frame⟩ := marked_spec i s
  have marked (marks : t = enterMarking (reserved i s)) : t.probe.timer = none ∧
      t.probe.slots = s.probe.slots.set i (.reserved s.number) ∧ t.probe.round = .marking ∧
      t.probe.deadline = some 50000 ∧ t.channels = s.channels ∧ t.bus = (handFrame ⟨s.number, 63, .mark⟩ s).bus := by
    rw [marks]
    exact ⟨by rw [probe], by rw [probe], by rw [probe], by rw [probe], by rw [frame], bus⟩
  cases power : s.channels[img.probeChannel].power with
  | active =>
    rw [power] at eq
    obtain ⟨timer, slots, marks⟩ := marked eq
    exact ⟨timer, slots, aborts, fun _ => marks, Power.noConfusion, Power.noConfusion⟩
  | watch =>
    rw [power] at eq
    obtain ⟨timer, slots, marks⟩ := marked eq
    exact ⟨timer, slots, aborts, fun _ => marks, Power.noConfusion, Power.noConfusion⟩
  | standby =>
    rw [power] at eq
    obtain ⟨timer, slots, unready, ready, -⟩ := waited_spec i image power
    dsimp only at eq
    rw [← eq] at timer slots unready ready
    exact ⟨timer, slots, aborts, (by rintro (h | h) <;> cases h), Power.noConfusion, fun _ => ⟨unready, ready⟩⟩
  | waking =>
    rw [power] at eq
    dsimp only at eq
    rw [eq] at aborts ⊢
    exact ⟨rfl, rfl, aborts, (by rintro (h | h) <;> cases h), fun _ => ⟨rfl, rfl⟩, Power.noConfusion⟩
  | forcedOff =>
    rw [power] at eq
    dsimp only at eq
    rw [eq] at aborts ⊢
    exact ⟨rfl, rfl, aborts, (by rintro (h | h) <;> cases h), Power.noConfusion, Power.noConfusion⟩
  | fault =>
    rw [power] at eq
    dsimp only at eq
    rw [eq] at aborts ⊢
    exact ⟨rfl, rfl, aborts, (by rintro (h | h) <;> cases h), Power.noConfusion, Power.noConfusion⟩

/-! ### Every kind -/

/-- Settles O22: each action by its kind, over the state the list was RUNNING in. -/
theorem listTakesAction : Obligations.ListTakesAction := by
  refine ⟨actionSpelled, fun burst c left s waiting => ?_, fun c s running => ?_, fun c s running => ?_⟩
  · show Host.Outcome.next (match s.cue.list with
      | .waiting c _ => runList burst (s.modCue fun e => { e with list := .running c })
      | _ => s) = _
    rw [waiting]
    rfl
  · rw [runList_running running, runActions_stop]
  · intro at' action aimed
    have told {ch : Fin 4} {g : GainTarget} {t : State}
        (h : s.serving = true → s.emc.emergency = false → Aimed s ch g s.channels[ch] t.channels[ch]) : aimed ch g t := by
      intro serves calm
      obtain ⟨gain, same, sounding, silent, power⟩ := h serves calm
      refine ⟨gain, same, sounding, silent, power.trans ?_⟩
      cases s.channels[ch].power <;> rfl
    have moves {a : Action} (found : action = .ok a) (goes : a ≠ .finish) (steps : ∀ v, a ≠ .wait v) :
        takeAction s = movedOn c a.length s (performAction a s) := takeAction_movedOn running found goes steps
    refine ⟨fun kind found => takeAction_error running found, fun found => takeAction_ok running found,
      fun v found => takeAction_ok running found, fun found => ?_, fun v found => ?_, fun found => ?_, fun found => ?_,
      fun set mute found => ?_, fun set v found => ?_, fun set v found => ?_, fun set off found => ?_⟩
    · exact moves found Action.noConfusion fun _ => Action.noConfusion
    · rw [moves found Action.noConfusion fun _ => Action.noConfusion]
      unfold performAction offsetAction
      dsimp only
      rw [trigger_stated (s := s.modSolver fun x => { x with offset := v }) _ rfl rfl]
      rfl
    · rw [moves found Action.noConfusion fun _ => Action.noConfusion]
      unfold performAction thawAction
      dsimp only
      rw [trigger_stated (s := setFreeze false s.solver.emergencyFreeze s) _ rfl rfl]
      rfl
    · rw [moves found Action.noConfusion fun _ => Action.noConfusion]
      refine ⟨_, rfl, rfl, fun fails => ?_, fun starts img i image isFree first => ?_⟩
      · have refused : probeAction s = bump .probeAborts s := if_neg (by rw [fails]; exact Bool.false_ne_true)
        show movedOn c 1 s (probeAction s) = _
        rw [refused]
        rfl
      · have begun : probeAction s = startRound s := if_pos starts
        have spec := startRound_spec image (freeSlot_eq_some isFree first)
        rw [← begun] at spec
        exact spec
    · have act : performAction (if mute then .mute set else .unmute set) s =
          forMarked set (fun c s => retargetAndAct c (s.modChannel c fun ch => { ch with storedMute := mute })) s := by
        cases mute <;> rfl
      have length : (if mute then Action.mute set else Action.unmute set).length = 2 := by cases mute <;> rfl
      have taken := moves found (by cases mute <;> exact Action.noConfusion) (by cases mute <;> exact fun _ => Action.noConfusion)
      rw [act, length] at taken
      refine ⟨_, taken, rfl, fun ch => ?_⟩
      obtain ⟨gain, mute', aims, other⟩ := stored_spec (fun ch => { ch with storedMute := mute }) set s ch
        ⟨rfl, rfl, rfl, rfl, rfl⟩
      refine ⟨mute'.trans (by split <;> rfl), fun marked => ⟨gain.trans (if_pos marked), told fun serves calm => ?_⟩, other⟩
      exact aims marked serves calm
    · have taken := moves found Action.noConfusion fun _ => Action.noConfusion
      refine ⟨_, taken, rfl, fun ch => ?_⟩
      obtain ⟨gain, mute', aims, other⟩ := stored_spec (fun ch => { ch with storedGain := v }) set s ch
        ⟨rfl, rfl, rfl, rfl, rfl⟩
      refine ⟨gain.trans (by split <;> rfl), fun marked => ⟨mute'.trans (if_pos marked), told fun serves calm => ?_⟩, other⟩
      exact aims marked serves calm
    · have taken := moves found Action.noConfusion fun _ => Action.noConfusion
      refine ⟨_, taken, rfl, fun ch => ?_⟩
      have get := marked_get ((ActsAt.mod fun _ ch => { ch with preset := v }).comp (requestChannel_acts s)) set ch
      have wanted : ({ s.channels[ch] with preset := v } : Channel).wanted s ch =
          if s.serving then (if s.emc.emergency then wantedSetting s ch else .eq v s.eq.shelf) else .flat := by
        unfold Channel.wanted wantedSetting State.inEmergency
        cases s.serving <;> cases s.emc.emergency <;> rfl
      rw [← wanted]
      exact get
    · have act : performAction (if off then .sleep set else .wake set) s =
          forMarked set (if off then sleepChannel else wakeChannel) s := by
        cases off <;> rfl
      have length : (if off then Action.sleep set else Action.wake set).length = 2 := by cases off <;> rfl
      have taken := moves found (by cases off <;> exact Action.noConfusion) (by cases off <;> exact fun _ => Action.noConfusion)
      rw [act, length] at taken
      refine ⟨_, taken, rfl, fun ch isSleep channel marked fault notOff => ?_, fun ch => ?_⟩
      · subst isSleep
        exact sleepMarked_round marked channel fault notOff
      · have get : (forMarked set (if off then sleepChannel else wakeChannel) s).channels[ch] =
            if set.getLsbD ch then (if off then sleepChannel ch s else wakeChannel ch s).channels[ch] else s.channels[ch] := by
          cases off with
          | true => exact (marked_get (sleepChannel_acts s) set ch).trans (by rw [← sleepChannel_get]; rfl)
          | false => exact (marked_get (wakeChannel_acts s) set ch).trans (by rw [← wakeChannel_get]; rfl)
        have sleeps : (if off then sleepChannel ch s else wakeChannel ch s).channels[ch].forcedOff = off := by
          cases off with
          | true => exact (congrArg (·.forcedOff) (sleepChannel_get s ch)).trans (slept_forcedOff _)
          | false => exact (congrArg (·.forcedOff) (wakeChannel_get s ch)).trans (roused_forcedOff _)
        refine ⟨?_, fun marked => get.trans (if_pos marked), fun unmarked =>
          get.trans (if_neg fun marked => Bool.noConfusion (unmarked.symm.trans marked))⟩
        by_cases marked : set.getLsbD ch = true
        · rw [if_pos marked]
          exact (congrArg (·.forcedOff) (get.trans (if_pos marked))).trans sleeps
        · rw [if_neg marked]
          exact congrArg (·.forcedOff) (get.trans (if_neg marked))

end Sys2Proof.Machine
end

section
/-! PROOFS. The receive assembly and the checks at the gap (R158 to R162, R170). -/

namespace Sys2Proof.Machine

variable {s t : State} {f f' : Frame} {stamp stamp' : Instant} {straps straps' : Straps} {burst burst' : Option Nat}
  {chars : List Byte} {b : Byte} {body : FrameBody}

/-! ### A character (R159, R160) -/

theorem growFrame_short (short : chars.length < 4) (s : State) :
    growFrame chars s = { s with bus := { s.bus with assembly := .assembling chars } } := by
  match chars, short with
  | [], _ => rfl
  | [_], _ => rfl
  | [_, _], _ => rfl
  | [_, _, _], _ => rfl

/-- A complete header decides whether the frame is too long, complete or still growing. -/
theorem growFrame_headed (b0 b1 b2 b3 : Byte) (rest : List Byte) (s : State) :
    growFrame (b0 :: b1 :: b2 :: b3 :: rest) s =
      if 48 < declaredPayload b0 b3 then bump .rxMalformed { s with bus := { s.bus with assembly := .discarding } }
      else if (b0 :: b1 :: b2 :: b3 :: rest).length = 4 + declaredPayload b0 b3 + 1 then
        { s with bus := { s.bus with assembly := .complete (b0 :: b1 :: b2 :: b3 :: rest) s.timeBase false } }
      else { s with bus := { s.bus with assembly := .assembling (b0 :: b1 :: b2 :: b3 :: rest) } } := by
  have long : 53 < 4 + declaredPayload b0 b3 + 1 ↔ 48 < declaredPayload b0 b3 := by omega
  exact if_congr long rfl rfl

/-- Settles O25: the assembly by its state, a frame in growth by its header. -/
theorem characterTaken : Obligations.CharacterTaken := by
  intro ch driven s u put gives grown
  have taken {a : Assembly} (assembly : s.bus.assembly = a) {v : State}
      (assembles : u.bus.assembly = a → assemble ch u = v) : gives v :=
    congrArg Host.Outcome.next (assembles assembly)
  have grows (chars : List Byte) : grown chars (growFrame chars u) := by
    refine ⟨fun short => growFrame_short short u, fun b0 b1 b2 b3 rest headed => ?_⟩
    subst headed
    rw [growFrame_headed]
    refine ⟨fun long => if_pos long, fun fits whole => ?_, fun fits partly => ?_⟩
    · rw [if_neg (by omega), if_pos whole]
    · rw [if_neg (by omega), if_neg partly]
  refine ⟨fun seeking => taken seeking fun h => ?_, fun seeking broken => taken seeking fun h => ?_,
    fun b seeking good => ⟨_, taken seeking fun h => ?_, grows [b]⟩,
    fun chars b assembling good => ⟨_, taken assembling fun h => ?_, grows (chars ++ [b])⟩,
    fun chars assembling broken => taken assembling fun h => ?_, fun chars stamp own complete => taken complete fun h => ?_,
    fun discarding => taken discarding fun h => ?_⟩
  all_goals
    unfold assemble
    rw [h]
  · cases ch <;> rfl
  · rw [broken]
    rfl
  · rw [good]
  · rw [good]
  · rw [broken]
    rfl
  · rfl

/-! ### A received frame as its row of the table (R161 to R164) -/

/-- A confirmation rests on the numbers, on what its kind allows and on the block that takes the frame. -/
theorem confirmFrame_congr (src : f'.src = f.src) (dst : f'.dst = f.dst)
    (allowed : f'.body.destinationAllowed f.dst = f.body.destinationAllowed f.dst)
    (roll : FrameBody.asRoll f'.body = FrameBody.asRoll f.body)
    (handed : ∀ u, dispatch f' stamp' straps' burst' u = dispatch f stamp straps burst u) :
    confirmFrame f' stamp' straps' burst' s = confirmFrame f stamp straps burst s := by
  unfold confirmFrame
  dsimp only
  rw [src, dst, allowed, roll, handed]

theorem parseRoll_eq {payload : List Byte} (parsed : parseRoll payload = some body) : ∃ r, body = .roll r := by
  unfold parseRoll at parsed
  split at parsed <;> cases parsed
  exact ⟨_, rfl⟩

theorem parseAlign_eq {payload : List Byte} (parsed : parseAlign payload = some body) : ∃ r, body = .align r := by
  unfold parseAlign at parsed
  split at parsed <;> cases parsed
  · exact ⟨_, rfl⟩
  · exact ⟨_, rfl⟩

theorem parseCue_eq {payload : List Byte} (parsed : parseCue payload = some body) :
    ∃ n ps, body = .cue n ps ∧ ps.length ≤ 4 := by
  unfold parseCue at parsed
  split at parsed
  · split at parsed
    · next short =>
      cases parsed
      exact ⟨_, _, rfl, short⟩
    · cases parsed
  · cases parsed

theorem parseQuery_eq {payload : List Byte} (parsed : parseQuery payload = some body) : ∃ q, body = .query q := by
  unfold parseQuery at parsed
  split at parsed <;> cases parsed
  exact ⟨_, rfl⟩

theorem parseEvac_eq {payload : List Byte} (parsed : parseEvac payload = some body) : ∃ set, body = .evac set := by
  unfold parseEvac at parsed
  split at parsed <;> cases parsed
  exact ⟨_, rfl⟩

theorem parseRestart_eq {payload : List Byte} (parsed : parseRestart payload = some body) : ∃ u, body = .restart u := by
  unfold parseRestart at parsed
  split at parsed <;> cases parsed
  exact ⟨_, rfl⟩

theorem parseReplyStatus_eq {payload : List Byte} (parsed : parseReplyStatus payload = some body) :
    body.isReply = true := by
  unfold parseReplyStatus at parsed
  split at parsed <;> cases parsed
  · rfl
  · rfl

/-- A CUE as parsed has at most 4 parameters (R199). -/
theorem parseBody_short {b0 b1 b2 b3 n : Byte} {payload ps : List Byte}
    (parsed : parseBody b0 b1 b2 b3 payload = some (.cue n ps)) : ps.length ≤ 4 := by
  unfold parseBody at parsed
  split at parsed
  · obtain ⟨_, other⟩ := parseRoll_eq parsed
    exact FrameBody.noConfusion other
  split at parsed
  · obtain ⟨_, other⟩ := parseAlign_eq parsed
    exact FrameBody.noConfusion other
  split at parsed
  · split at parsed <;> cases parsed
  split at parsed
  · obtain ⟨_, _, same, short⟩ := parseCue_eq parsed
    cases same
    exact short
  split at parsed
  · obtain ⟨_, other⟩ := parseQuery_eq parsed
    exact FrameBody.noConfusion other
  split at parsed
  · obtain ⟨_, other⟩ := parseEvac_eq parsed
    exact FrameBody.noConfusion other
  split at parsed
  · obtain ⟨_, other⟩ := parseRestart_eq parsed
    exact FrameBody.noConfusion other
  split at parsed
  · exact Bool.noConfusion (parseReplyStatus_eq parsed)
  split at parsed
  · split at parsed <;> cases parsed
  · cases parsed

theorem parseFrame_checked (parsed : parseFrame chars = some f) :
    f.body.destinationAllowed f.dst = true ∧ ∀ n ps, f.body = .cue n ps → ps.length ≤ 4 := by
  unfold parseFrame at parsed
  split at parsed
  · dsimp only at parsed
    split at parsed
    · cases parsed
    · split at parsed
      · cases parsed
      · next body content =>
        obtain ⟨good, same⟩ := Option.ite_none_right_eq_some.1 parsed
        cases same
        refine ⟨(Bool.and_eq_true_iff.1 good).2, fun n ps cue => ?_⟩
        cases cue
        exact parseBody_short content
  · cases parsed

/-- A checked frame is the row of its kind (log 4). -/
theorem frameRow_confirms (allowed : f.body.destinationAllowed f.dst = true)
    (short : ∀ n ps, f.body = .cue n ps → ps.length ≤ 4) :
    exec (frameRow f stamp burst s.stc.strapPins) s = .next (confirmFrame f stamp s.stc.strapPins burst s) := by
  obtain ⟨src, dst, body⟩ := f
  cases body with
  | align r =>
    obtain rfl := beq_iff_eq.1 allowed
    exact congrArg Host.Outcome.next (confirmFrame_congr rfl rfl rfl rfl fun _ => rfl)
  | roll b =>
    obtain rfl := beq_iff_eq.1 allowed
    exact congrArg Host.Outcome.next (confirmFrame_congr rfl rfl rfl rfl fun _ => rfl)
  | mark =>
    obtain rfl := beq_iff_eq.1 allowed
    exact congrArg Host.Outcome.next (confirmFrame_congr rfl rfl rfl rfl fun _ => rfl)
  | evac set =>
    obtain rfl := beq_iff_eq.1 allowed
    exact congrArg Host.Outcome.next (confirmFrame_congr rfl rfl rfl rfl fun _ => rfl)
  | restart u =>
    obtain rfl := beq_iff_eq.1 allowed
    exact congrArg Host.Outcome.next (confirmFrame_congr rfl rfl rfl rfl fun _ => rfl)
  | cue n ps =>
    exact (exec_cue_short (short n ps rfl)).trans
      (congrArg Host.Outcome.next (confirmFrame_congr rfl rfl rfl rfl fun _ => rfl))
  | query q => exact congrArg Host.Outcome.next (confirmFrame_congr rfl rfl rfl rfl fun _ => rfl)
  | replyData sp off d => exact congrArg Host.Outcome.next (confirmFrame_congr rfl rfl rfl rfl fun _ => rfl)
  | replyStatus st sp off cnt fl info => exact congrArg Host.Outcome.next (confirmFrame_congr rfl rfl rfl rfl fun _ => rfl)

theorem crcAgrees_iff (chars : List Byte) : crcAgrees chars = true ↔ chars.getLast? = some (crc8 chars.dropLast) := by
  unfold crcAgrees
  rw [beq_iff_eq, eq_comm]

/-- The line has been idle for a gap (R158, R159). -/
def gapped (s : State) : State :=
  { s with bus := { s.bus with assembly := .seeking true, idleMicros := max s.bus.idleMicros (3 * s.characterTime) } }

theorem exec_gap_complete (whole : s.bus.assembly = .complete chars stamp false) :
    exec (.interFrameGap burst) s = .next (checkFrame chars stamp burst (gapped s)) := by
  show execInterFrameGap burst s = _
  unfold execInterFrameGap
  dsimp only
  rw [whole]
  rfl

theorem checkFrame_right (right : chars.getLast? = some (crc8 chars.dropLast)) (parsed : parseFrame chars = some f) :
    checkFrame chars stamp burst s = confirmFrame f stamp s.stc.strapPins burst s := by
  unfold checkFrame
  rw [if_pos ((crcAgrees_iff chars).2 right), parsed]

/-- Settles O26: the checks in their order, and a checked frame is its row. -/
theorem gapChecksFrame : Obligations.GapChecksFrame := by
  intro burst s
  refine ⟨fun ready seeking => ?_, fun discarding => ?_, fun chars assembling => ?_, fun chars stamp own => ?_,
    fun chars stamp whole => ⟨fun wrong => (exec_gap_complete whole).trans (congrArg _ ?_),
      fun right bad => (exec_gap_complete whole).trans (congrArg _ ?_), fun f right parsed => ?_⟩⟩
  · show execInterFrameGap burst s = _
    unfold execInterFrameGap
    dsimp only
    rw [seeking]
    rfl
  · show execInterFrameGap burst s = _
    unfold execInterFrameGap
    dsimp only
    rw [discarding]
    rfl
  · show execInterFrameGap burst s = _
    unfold execInterFrameGap
    dsimp only
    rw [assembling]
    rfl
  · show execInterFrameGap burst s = _
    unfold execInterFrameGap
    dsimp only
    rw [own]
    rfl
  · exact if_neg (mt (crcAgrees_iff chars).1 wrong)
  · unfold checkFrame
    rw [if_pos ((crcAgrees_iff chars).2 right), bad]
    rfl
  · have checked : exec (.interFrameGap burst) s = .next (confirmFrame f stamp s.stc.strapPins burst (gapped s)) :=
      (exec_gap_complete whole).trans (congrArg _ (checkFrame_right (s := gapped s) right parsed))
    obtain ⟨allowed, short⟩ := parseFrame_checked parsed
    exact ⟨checked, checked.trans (frameRow_confirms (s := gapped s) allowed short).symm⟩

end Sys2Proof.Machine
end

section
/-! PROOFS. A frame's bytes are read back as the frame (R197 to R199). -/

namespace Sys2Proof.Machine

variable {f : Frame} {body : FrameBody} {src dst : Nat} {payload : List Byte}

/-! ### Fields of bytes -/

theorem extract_low {v w : Nat} (a : BitVec v) (b : BitVec w) : (a ++ b).extractLsb' 0 w = b :=
  BitVec.eq_of_getLsbD_eq fun i hi => by simp [BitVec.getLsbD_append, hi]

theorem extract_high {v w : Nat} (a : BitVec v) (b : BitVec w) : (a ++ b).extractLsb' w v = a :=
  BitVec.eq_of_getLsbD_eq fun i hi => by simp [BitVec.getLsbD_append, hi]

/-- The fields of a value, put together again. -/
theorem extract_join {n : Nat} (x : BitVec n) (k v w : Nat) :
    x.extractLsb' (k + w) v ++ x.extractLsb' k w = x.extractLsb' k (v + w) :=
  BitVec.eq_of_getLsbD_eq fun i hi => by
    rw [BitVec.getLsbD_append]
    split
    · next low => simp [low, hi]
    · next high =>
      have : i - w < v := by omega
      simp only [BitVec.getLsbD_extractLsb', this, hi, decide_true, Bool.true_and]
      congr 1
      omega

theorem extract_all {n : Nat} (x : BitVec n) : x.extractLsb' 0 n = x :=
  BitVec.eq_of_getLsbD_eq fun i hi => by simp [hi]

theorem join16 (x : BitVec 16) : x.extractLsb' 8 8 ++ x.extractLsb' 0 8 = x :=
  (extract_join x 0 8 8).trans (extract_all x)

theorem join24 (x : BitVec 24) : x.extractLsb' 16 8 ++ x.extractLsb' 8 8 ++ x.extractLsb' 0 8 = x := by
  rw [extract_join x 8 8 8]
  exact (extract_join x 0 16 8).trans (extract_all x)

theorem join32 (x : BitVec 32) :
    x.extractLsb' 24 8 ++ x.extractLsb' 16 8 ++ x.extractLsb' 8 8 ++ x.extractLsb' 0 8 = x := by
  rw [extract_join x 16 8 8, extract_join x 8 16 8]
  exact (extract_join x 0 24 8).trans (extract_all x)

/-- The offset of a REPLY in its data form, from the four fields that carry it (R198). -/
theorem join10 (x : BitVec 10) :
    x.extractLsb' 6 4 ++ x.extractLsb' 4 2 ++ x.extractLsb' 2 2 ++ x.extractLsb' 0 2 = x := by
  rw [extract_join x 4 4 2, extract_join x 2 6 2]
  exact (extract_join x 0 8 2).trans (extract_all x)

theorem byte_toNat {n : Nat} (small : n < 256) : (BitVec.ofNat 8 n).toNat = n := by
  rw [BitVec.toNat_ofNat]
  exact Nat.mod_eq_of_lt small

theorem field_toNat {n : Nat} (small : n < 64) : ((BitVec.ofNat 8 n).extractLsb' 0 6).toNat = n := by
  rw [BitVec.extractLsb'_toNat, byte_toNat (by omega)]
  exact Nat.mod_eq_of_lt small

/-! ### Coded bytes (R197) -/

theorem solverOfCode_code (st : SolverState) : solverOfCode (solverCode st) = st := by cases st <;> rfl

/-- The flags byte gives its flags and its spare bits. -/
theorem flagsByte_read (spare : BitVec 2) (f : AlignFlags) :
    flagsOfByte (flagsByte spare f) = f ∧ (flagsByte spare f).extractLsb' 6 2 = spare := by
  obtain ⟨degraded, airLost, contact, frozen, ampFault, range⟩ := f
  revert spare degraded airLost contact frozen ampFault range
  decide

theorem stateRankByte_read (st : SolverState) (spare : BitVec 2) (rank : BitVec 4) :
    solverOfCode ((stateRankByte st spare rank).extractLsb' 6 2) = st ∧
    (stateRankByte st spare rank).extractLsb' 4 2 = spare ∧ (stateRankByte st spare rank).extractLsb' 0 4 = rank := by
  have bits : ∀ (code spare : BitVec 2) (rank : BitVec 4),
      (code ++ spare ++ rank).extractLsb' 6 2 = code ∧ (code ++ spare ++ rank).extractLsb' 4 2 = spare ∧
      (code ++ spare ++ rank).extractLsb' 0 4 = rank := by decide
  obtain ⟨code, spare', rank'⟩ := bits (solverCode st) spare rank
  exact ⟨(congrArg solverOfCode code).trans (solverOfCode_code st), spare', rank'⟩

theorem byteOfBits_flag : ∀ b : Bool, (byteOfBits false false false false false false false b).getLsbD 0 = b := by decide

theorem reasonByte_read : ∀ (flag : Bool) (reason : BitVec 4),
    (BitVec.ofBool flag ++ 0#3 ++ reason).getLsbD 7 = flag ∧ (BitVec.ofBool flag ++ 0#3 ++ reason).extractLsb' 0 4 = reason := by
  decide

/-- The first byte of a REPLY in its data form (R198). -/
theorem replyByte_read : ∀ (sp : BitVec 3) (o : BitVec 4), sp.toNat ≤ 5 →
    isReplyByte (1#1 ++ sp ++ o) = true ∧ 8 ≤ (1#1 ++ sp ++ o).toNat ∧ (1#1 ++ sp ++ o).toNat < 0xF0 ∧
    (1#1 ++ sp ++ o).extractLsb' 4 3 = sp ∧ (1#1 ++ sp ++ o).extractLsb' 0 4 = o := by
  decide

theorem fieldByte_read : ∀ (hi : BitVec 2) (lo : BitVec 6),
    (hi ++ lo).extractLsb' 6 2 = hi ∧ (hi ++ lo).extractLsb' 0 6 = lo :=
  fun hi lo => ⟨extract_high hi lo, extract_low hi lo⟩

/-! ### Payloads (R199) -/

theorem parseRoll_payload (b : RollBody) : parseRoll (FrameBody.payload (.roll b)) = some (.roll b) := by
  obtain ⟨unit, imageId, mode, flag, reason, contact⟩ := b
  obtain ⟨flag', reason'⟩ := reasonByte_read flag reason
  show some (FrameBody.roll ⟨_, _, _, _, _, _⟩) = _
  rw [join32, join32, flag', reason', byteOfBits_flag]

theorem alignOf_read (r : AlignRecord) (temperature : Option (BitVec 16)) (same : temperature = r.temperature) :
    alignOf r.seq (stateRankByte r.solver r.stateSpare r.rank)
      (r.delay.extractLsb' 16 8 ++ r.delay.extractLsb' 8 8 ++ r.delay.extractLsb' 0 8)
      (r.path.extractLsb' 16 8 ++ r.path.extractLsb' 8 8 ++ r.path.extractLsb' 0 8) (flagsByte r.flagsSpare r.flags)
      temperature = r := by
  obtain ⟨solver, spare, rank⟩ := stateRankByte_read r.solver r.stateSpare r.rank
  obtain ⟨flags, spare'⟩ := flagsByte_read r.flagsSpare r.flags
  unfold alignOf
  rw [join24, join24, solver, spare, rank, flags, spare', same]

theorem carriedTemperature_split {t : BitVec 16} (present : t ≠ 0x8000#16) :
    carriedTemperature (t.extractLsb' 8 8) (t.extractLsb' 0 8) = some t := by
  unfold carriedTemperature
  dsimp only
  rw [join16, if_neg present]

theorem parseAlign_payload {r : AlignRecord} (good : r.wellFormed = true) :
    parseAlign (FrameBody.payload (.align r)) = some (.align r) := by
  unfold AlignRecord.wellFormed at good
  cases temperature : r.temperature with
  | none =>
    unfold FrameBody.payload
    dsimp only
    rw [temperature]
    show some (FrameBody.align (alignOf ..)) = _
    rw [alignOf_read r none temperature.symm]
  | some t =>
    rw [temperature] at good
    have present : t ≠ 0x8000#16 := fun absent => by
      rw [absent] at good
      exact Bool.noConfusion good
    unfold FrameBody.payload
    dsimp only
    rw [temperature]
    show some (FrameBody.align (alignOf ..)) = _
    rw [carriedTemperature_split present, alignOf_read r (some t) temperature.symm]

theorem parseQuery_payload (q : QueryBody) : parseQuery (FrameBody.payload (.query q)) = some (.query q) := by
  obtain ⟨space, offset, count, flags⟩ := q
  show some (FrameBody.query ⟨_, _, _, _⟩) = _
  rw [join16]

theorem parseEvac_payload (set : Bool) : parseEvac (FrameBody.payload (.evac set)) = some (.evac set) := by
  show some (FrameBody.evac _) = _
  rw [byteOfBits_flag]

theorem parseRestart_payload (u : BitVec 32) : parseRestart (FrameBody.payload (.restart u)) = some (.restart u) := by
  show some (FrameBody.restart _) = _
  rw [join32]

theorem parseReplyStatus_payload (st sp : Byte) (off : BitVec 16) (cnt fl : Byte) (info : Option (BitVec 32)) :
    parseReplyStatus (FrameBody.payload (.replyStatus st sp off cnt fl info)) = some (.replyStatus st sp off cnt fl info) := by
  cases info with
  | none =>
    show some (FrameBody.replyStatus ..) = _
    rw [join16]
  | some i =>
    show some (FrameBody.replyStatus ..) = _
    rw [join16, join32]

/-! ### Frames (R198) -/

/-- A frame read from its header, its payload and any last byte. -/
theorem parseFrame_of {b0 b1 b2 b3 crc : Byte} (length : declaredPayload b0 b3 = payload.length)
    (content : parseBody b0 b1 b2 b3 payload = some f.body)
    (source : (if isReplyByte b0 then (b1.extractLsb' 0 6).toNat else b1.toNat) = f.src)
    (destination : (if isReplyByte b0 then (b2.extractLsb' 0 6).toNat else b2.toNat) = f.dst)
    (station : isStation f.src = true) (allowed : f.body.destinationAllowed f.dst = true) :
    parseFrame ([b0, b1, b2, b3] ++ payload ++ [crc]) = some f := by
  have rest : (payload ++ [crc]).dropLast = payload := List.dropLast_concat
  show parseFrame (b0 :: b1 :: b2 :: b3 :: (payload ++ [crc])) = some f
  unfold parseFrame
  dsimp only
  rw [rest, if_neg (not_not.2 length), content]
  dsimp only
  rw [source, destination, station, allowed]
  rfl

/-- A frame of any kind but a REPLY in its data form: three numbers after the kind byte. -/
theorem parseFrame_plain {kind crc : Byte} (src : f.src < 64) (dst : f.dst < 64) (short : payload.length < 64)
    (content : parseBody kind (BitVec.ofNat 8 f.src) (BitVec.ofNat 8 f.dst) (BitVec.ofNat 8 payload.length) payload =
      some f.body)
    (station : isStation f.src = true) (allowed : f.body.destinationAllowed f.dst = true) :
    parseFrame ([kind, BitVec.ofNat 8 f.src, BitVec.ofNat 8 f.dst, BitVec.ofNat 8 payload.length] ++ payload ++ [crc]) =
      some f := by
  refine parseFrame_of ?_ content ?_ ?_ station allowed
  · unfold declaredPayload
    rw [field_toNat short, byte_toNat (by omega), ite_self]
  · rw [field_toNat src, byte_toNat (by omega), ite_self]
  · rw [field_toNat dst, byte_toNat (by omega), ite_self]

/-- A REPLY in its data form (R198). -/
theorem parseFrame_data {sp : BitVec 3} {off : BitVec 10} {crc : Byte} (src : f.src < 64) (dst : f.dst < 64)
    (space : sp.toNat ≤ 5) (some' : 1 ≤ payload.length) (short : payload.length ≤ 48)
    (data : f.body = .replyData sp off payload) (station : isStation f.src = true)
    (allowed : f.body.destinationAllowed f.dst = true) :
    parseFrame ([1#1 ++ sp ++ off.extractLsb' 6 4, off.extractLsb' 4 2 ++ (BitVec.ofNat 8 f.src).extractLsb' 0 6,
      off.extractLsb' 2 2 ++ (BitVec.ofNat 8 f.dst).extractLsb' 0 6,
      off.extractLsb' 0 2 ++ (BitVec.ofNat 8 payload.length).extractLsb' 0 6] ++ payload ++ [crc]) = some f := by
  obtain ⟨reply, low, high, sp', off'⟩ := replyByte_read sp (off.extractLsb' 6 4) space
  obtain ⟨off1, src'⟩ := fieldByte_read (off.extractLsb' 4 2) ((BitVec.ofNat 8 f.src).extractLsb' 0 6)
  obtain ⟨off2, dst'⟩ := fieldByte_read (off.extractLsb' 2 2) ((BitVec.ofNat 8 f.dst).extractLsb' 0 6)
  obtain ⟨off3, len'⟩ := fieldByte_read (off.extractLsb' 0 2) ((BitVec.ofNat 8 payload.length).extractLsb' 0 6)
  have plain {k : Byte} (other : k.toNat < 8 ∨ k = 0xF0#8) : ¬(1#1 ++ sp ++ off.extractLsb' 6 4 = k) := fun same => by
    rw [same] at low high
    rcases other with small | status
    · omega
    · rw [status] at high
      exact absurd high (by decide)
  refine parseFrame_of ?_ ?_ ?_ ?_ station allowed
  · unfold declaredPayload
    rw [if_pos reply, len', field_toNat (by omega)]
  · unfold parseBody
    rw [if_neg (plain (.inl (by decide))), if_neg (plain (.inl (by decide))), if_neg (plain (.inl (by decide))),
      if_neg (plain (.inl (by decide))), if_neg (plain (.inl (by decide))), if_neg (plain (.inl (by decide))),
      if_neg (plain (.inl (by decide))), if_neg (plain (.inr rfl)), if_pos reply, if_pos ⟨some', short⟩, sp', off', off1, off2,
      off3, join10, data]
  · rw [if_pos reply, src', field_toNat src]
  · rw [if_pos reply, dst', field_toNat dst]

theorem station_small {n : Nat} (station : isStation n = true) : n < 64 := by
  unfold isStation at station
  rw [Bool.and_eq_true, decide_eq_true_eq, decide_eq_true_eq] at station
  omega

theorem destination_small (allowed : body.destinationAllowed dst = true) : dst < 64 := by
  have broadcast (h : (dst == 63) = true) : dst < 64 := by
    rw [beq_iff_eq] at h
    omega
  cases body with
  | query | replyData | replyStatus => exact station_small allowed
  | cue =>
    rcases Bool.or_eq_true_iff.1 allowed with all | one
    · exact broadcast all
    · exact station_small one
  | _ => exact broadcast allowed

theorem data_wellFormed {sp : BitVec 3} {off : BitVec 10} {d : List Byte}
    (good : FrameBody.wellFormed (.replyData sp off d) = true) : sp.toNat ≤ 5 ∧ 1 ≤ d.length ∧ d.length ≤ 48 := by
  unfold FrameBody.wellFormed at good
  dsimp only at good
  rw [Bool.and_eq_true, Bool.and_eq_true, decide_eq_true_eq, decide_eq_true_eq, decide_eq_true_eq, and_assoc] at good
  exact good

/-- No payload is longer than a REPLY's (R199). -/
theorem payload_short (good : body.wellFormed = true) : (FrameBody.payload body).length < 64 := by
  cases body with
  | roll b => show 11 < 64; decide
  | align r =>
    unfold FrameBody.payload
    dsimp only
    cases r.temperature with
    | none => show 9 < 64; decide
    | some t => show 11 < 64; decide
  | mark => show 0 < 64; decide
  | cue n ps =>
    have short : ps.length ≤ 4 := of_decide_eq_true good
    show ps.length + 1 < 64
    omega
  | query q => show 5 < 64; decide
  | evac set => show 1 < 64; decide
  | restart u => show 4 < 64; decide
  | replyData sp off d =>
    obtain ⟨-, -, short⟩ := data_wellFormed good
    show d.length < 64
    omega
  | replyStatus st sp off cnt fl info =>
    cases info with
    | none => show 6 < 64; decide
    | some i => show 10 < 64; decide

/-- Settles O27: every field is read where it was put. -/
theorem frameBytesReadBack : Obligations.FrameBytesReadBack := by
  intro f wellFormed
  have crc : crcAgrees (Frame.bytes f) = true := by
    unfold crcAgrees Frame.bytes
    rw [List.dropLast_concat, List.getLast?_concat]
    exact beq_self_eq_true _
  refine ⟨?_, crc⟩
  unfold Frame.wellFormed at wellFormed
  rw [Bool.and_eq_true, Bool.and_eq_true] at wellFormed
  obtain ⟨⟨station, allowed⟩, good⟩ := wellFormed
  have src := station_small station
  have dst := destination_small allowed
  obtain ⟨source, destination, body⟩ := f
  have short : (FrameBody.payload body).length < 64 := payload_short good
  cases body with
  | roll b => exact parseFrame_plain src dst short (parseRoll_payload b) station allowed
  | align r => exact parseFrame_plain src dst short (parseAlign_payload good) station allowed
  | mark => exact parseFrame_plain src dst short rfl station allowed
  | cue n ps => exact parseFrame_plain src dst short (if_pos (of_decide_eq_true good)) station allowed
  | query q => exact parseFrame_plain src dst short (parseQuery_payload q) station allowed
  | evac set => exact parseFrame_plain src dst short (parseEvac_payload set) station allowed
  | restart u => exact parseFrame_plain src dst short (parseRestart_payload u) station allowed
  | replyData sp off d =>
    obtain ⟨space, some', short⟩ := data_wellFormed good
    exact parseFrame_data (payload := d) src dst space some' short rfl station allowed
  | replyStatus st sp off cnt fl info =>
    exact parseFrame_plain src dst short (parseReplyStatus_payload st sp off cnt fl info) station allowed

end Sys2Proof.Machine
end

section
/-! PROOFS. What EMERGENCY entry and exit make of a station does not rest on the cause of EMERGENCY (R131, R133). -/

namespace Sys2Proof.Machine

variable {a b s t : State} {c : Fin 4} {ch : Channel}

/-! ### States that show the channels the same -/

/-- The channels see the same station, EMERGENCY included. -/
structure ShowsSame (a b : State) : Prop where
  stc : b.stc = a.stc
  image : b.image = a.image
  level : b.level = a.level
  eq : b.eq = a.eq
  emergency : b.emc.emergency = a.emc.emergency

theorem ShowsSame.serving (h : ShowsSame a b) : b.serving = a.serving := by rw [State.serving, State.serving, h.stc]

theorem ShowsSame.inEmergency (h : ShowsSame a b) : b.inEmergency = a.inEmergency := h.emergency

theorem ShowsSame.autoStandby (h : ShowsSame a b) (c : Fin 4) : b.autoStandby c = a.autoStandby c := by
  rw [State.autoStandby, State.autoStandby, h.image]

theorem ShowsSame.wanted (h : ShowsSame a b) (c : Fin 4) (ch : Channel) : ch.wanted b c = ch.wanted a c := by
  unfold Channel.wanted
  rw [h.serving, h.inEmergency, h.image, h.eq]

theorem ShowsSame.gainWanted (h : ShowsSame a b) (c : Fin 4) (ch : Channel) : ch.gainWanted b c = ch.gainWanted a c := by
  unfold Channel.gainWanted
  rw [h.serving, h.inEmergency, h.image, h.stc]

theorem ShowsSame.wants (h : ShowsSame a b) (c : Fin 4) (ch : Channel) : ch.wants b c = ch.wants a c := by
  rw [Bool.eq_iff_iff, Channel.wants_iff, Channel.wants_iff, h.serving, h.autoStandby, h.level, h.emergency]

theorem ShowsSame.moved (h : ShowsSame a b) (p : Power) (cause : Option FaultCause) (c : Fin 4) (ch : Channel) :
    ch.moved b p cause c = ch.moved a p cause c := by
  unfold Channel.moved State.standbyDelay State.wakeLimit
  rw [h.image]

theorem ShowsSame.activated (h : ShowsSame a b) (c : Fin 4) (ch : Channel) : ch.activated b c = ch.activated a c := by
  unfold Channel.activated
  dsimp only
  rw [h.moved, h.wants, h.moved]

theorem ShowsSame.woken (h : ShowsSame a b) (c : Fin 4) (ch : Channel) : ch.woken b c = ch.woken a c := by
  unfold Channel.woken
  dsimp only
  rw [h.moved, h.activated]

theorem ShowsSame.heeding (h : ShowsSame a b) (c : Fin 4) (ch : Channel) : ch.heeding b c = ch.heeding a c := by
  unfold Channel.heeding
  rw [h.serving, h.level, h.wants, h.woken, h.moved, h.moved]

theorem ShowsSame.alarmed (h : ShowsSame a b) (c : Fin 4) (ch : Channel) : ch.alarmed b c = ch.alarmed a c := by
  unfold Channel.alarmed
  rw [h.woken, h.moved]

theorem ShowsSame.calmed (h : ShowsSame a b) (c : Fin 4) (ch : Channel) : ch.calmed b c = ch.calmed a c := by
  unfold Channel.calmed
  rw [h.heeding, h.moved]

theorem ShowsSame.equalised (h : ShowsSame a b) (c : Fin 4) (ch : Channel) : ch.equalised b c = ch.equalised a c := by
  unfold Channel.equalised
  rw [h.serving, h.wanted, h.gainWanted]

/-! ### The channels at entry and exit -/

/-- A channel at EMERGENCY entry, in any mode (R118 to R120). -/
def Channel.entering (s : State) (c : Fin 4) (ch : Channel) : Channel :=
  if s.serving then (ch.equalised s c).alarmed s c
  else if s.stc.mode = .configFault then (ch.equalised s c).woken s c
  else ch.equalised s c

/-- A channel at EMERGENCY exit, in any mode (R119, R120). -/
def Channel.leaving (s : State) (c : Fin 4) (ch : Channel) : Channel :=
  if s.serving then (ch.equalised s c).calmed s c
  else if s.stc.mode = .configFault then (ch.equalised s c).moved s .standby none c
  else ch.equalised s c

theorem entry_get (s : State) (c : Fin 4) :
    (powerEmergencyEntry (equaliserEmergency s)).channels[c] = s.channels[c].entering s c := by
  unfold Channel.entering
  cases serves : s.serving with
  | true => rw [if_pos rfl, entered_get serves]
  | false =>
    rw [if_neg Bool.false_ne_true]
    have view := equaliserEmergency_view s
    by_cases mode : s.stc.mode = .configFault
    · rw [if_pos mode, entered_get_fault serves mode]
    · unfold powerEmergencyEntry
      rw [if_neg mode, if_neg (by rw [serving_view s view, serves]; exact Bool.false_ne_true), if_neg (by rw [view.1]; exact mode),
        equaliserEmergency_get]

theorem exit_get (s : State) (c : Fin 4) :
    (powerEmergencyExit (equaliserEmergency s)).channels[c] = s.channels[c].leaving s c := by
  unfold Channel.leaving
  cases serves : s.serving with
  | true => rw [if_pos rfl, left_get serves]
  | false =>
    rw [if_neg Bool.false_ne_true]
    have view := equaliserEmergency_view s
    by_cases mode : s.stc.mode = .configFault
    · rw [if_pos mode, left_get_fault serves mode]
    · unfold powerEmergencyExit
      rw [if_neg mode, if_neg (by rw [serving_view s view, serves]; exact Bool.false_ne_true), if_neg (by rw [view.1]; exact mode),
        equaliserEmergency_get]

theorem ShowsSame.entering (h : ShowsSame a b) (c : Fin 4) (ch : Channel) : ch.entering b c = ch.entering a c := by
  unfold Channel.entering
  rw [h.serving, h.stc, h.equalised, h.alarmed, h.woken]

theorem ShowsSame.leaving (h : ShowsSame a b) (c : Fin 4) (ch : Channel) : ch.leaving b c = ch.leaving a c := by
  unfold Channel.leaving
  rw [h.serving, h.stc, h.equalised, h.calmed, h.moved]

/-! ### The blocks that EMERGENCY touches -/

/-- The blocks that EMERGENCY touches, but the line, the counters and its own, are the same. -/
structure SameBlocks (a b : State) : Prop where
  channels : b.channels = a.channels
  cue : b.cue = a.cue
  probe : b.probe = a.probe
  eq : b.eq = a.eq
  solver : b.solver = a.solver

/-- Two stations that differ in the line, the counters and the causes of EMERGENCY alone. -/
structure Kin (a b : State) : Prop extends SameBlocks a b where
  stc : b.stc = a.stc
  image : b.image = a.image
  level : b.level = a.level

theorem probeEmergency_probe (s : State) :
    (probeEmergency s).probe =
      { (if s.probe.round = .idle then s.probe
         else
          { s.probe with
            round := .idle, deadline := none, startsAt := none, started := false, lag := 0, position := 0
            timer := some 5000000, slots := mapVector Slot.freeReserved s.probe.slots }) with
        slots := mapVector (Slot.cancel fun _ => true)
          (if s.probe.round = .idle then s.probe.slots else mapVector Slot.freeReserved s.probe.slots) } := by
  unfold probeEmergency
  by_cases idle : s.probe.round = .idle
  · rw [if_pos idle, if_pos idle, if_pos idle]
    rfl
  · rw [if_neg idle, if_neg idle, if_neg idle]
    rfl

theorem probeEmergency_round (s : State) : (probeEmergency s).probe.round = .idle := by
  rw [probeEmergency_probe]
  dsimp only
  split
  · next idle => exact idle
  · rfl

theorem abandonList_congr (cue : b.cue = a.cue) : (abandonList b).cue = (abandonList a).cue := by
  unfold abandonList
  rw [cue]
  cases a.cue.list.context with
  | none => exact cue
  | some c => exact congrArg (fun e : CueEngine => { e with list := .idle, lastList := some ⟨c.cue, .emergency, c.position⟩ }) cue

/-- EMERGENCY entry, block by block. -/
theorem enterEmergency_blocks (s : State) :
    (∀ c : Fin 4, (enterEmergency s).channels[c] = s.channels[c].entering (emergencyBegun s) c) ∧
    (enterEmergency s).cue = (abandonList s).cue ∧ (enterEmergency s).probe = (probeEmergency s).probe ∧
    (enterEmergency s).eq = s.eq ∧
    (enterEmergency s).solver = { s.solver with emergencyFreeze := true, hold := s.solver.hold.follow true } ∧
    (enterEmergency s).bus = (probeEmergency s).bus ∧
    (enterEmergency s).emc = { s.emc with emergency := true } := by
  have begun := emergencyBegun_line s
  have calmed : (probeCalmed s).probe = (probeEmergency s).probe ∧ (probeCalmed s).bus = (probeEmergency s).bus := by
    unfold probeCalmed
    rw [probeEmergency_probe, probeEmergency_probe]
    refine ⟨rfl, ?_⟩
    unfold probeEmergency
    by_cases idle : s.probe.round = .idle
    · rw [if_pos idle, if_pos (show (s.modEmc fun e => { e with emergency := true }).probe.round = .idle from idle)]
      rfl
    · rw [if_neg idle, if_neg (show ¬(s.modEmc fun e => { e with emergency := true }).probe.round = .idle from idle)]
      rfl
  have cue : (probeCalmed s).cue = s.cue := by
    unfold probeCalmed
    rw [probeEmergency_line]
    rfl
  rw [calmed.1, calmed.2, abandonList_congr cue] at begun
  have channels : (emergencyBegun s).channels = s.channels := by rw [begun]
  have only := entered_only (s := emergencyBegun s) (by rw [begun]; exact probeEmergency_round s)
  have frame := only.frame
  refine ⟨fun c => ?_, ?_⟩
  · rw [enterEmergency_eq, entry_get, channels]
  · rw [enterEmergency_eq]
    generalize powerEmergencyEntry (equaliserEmergency (emergencyBegun s)) = t at frame
    rw [begun] at frame
    rw [frame]
    exact ⟨rfl, rfl, rfl, rfl, rfl, rfl⟩

theorem enterEmergency_kin (kin : Kin a b) : SameBlocks (enterEmergency a) (enterEmergency b) := by
  obtain ⟨⟨channels, cue, probe, eq, solver⟩, stc, image, level⟩ := kin
  obtain ⟨channelsA, cueA, probeA, eqA, solverA, -, -⟩ := enterEmergency_blocks a
  obtain ⟨channelsB, cueB, probeB, eqB, solverB, -, -⟩ := enterEmergency_blocks b
  have same : ShowsSame (emergencyBegun a) (emergencyBegun b) := by
    rw [emergencyBegun_line a, emergencyBegun_line b]
    exact ⟨stc, image, level, eq, rfl⟩
  refine ⟨channels_ext fun c => ?_, ?_, ?_, by rw [eqA, eqB, eq], by rw [solverA, solverB, solver]⟩
  · rw [channelsA, channelsB, same.entering, channels]
  · rw [cueA, cueB, abandonList_congr cue]
  · rw [probeA, probeB, probeEmergency_probe, probeEmergency_probe, probe]

/-- EMERGENCY exit, block by block. -/
theorem leaveEmergency_blocks (idle : s.probe.round = .idle) :
    (∀ c : Fin 4, (leaveEmergency s).channels[c] = s.channels[c].leaving (emergencyEnded s) c) ∧
    (leaveEmergency s).cue = s.cue ∧ (leaveEmergency s).probe = s.probe ∧ (leaveEmergency s).eq = s.eq ∧
    (leaveEmergency s).solver =
      { s.solver with
        emergencyFreeze := false, settle := settleTriggered s, hold := s.solver.hold.follow s.solver.cueFreeze } ∧
    (leaveEmergency s).bus = s.bus ∧ (leaveEmergency s).emc = { s.emc with emergency := false } := by
  have ended := emergencyEnded_line s
  have channels : (emergencyEnded s).channels = s.channels := by rw [ended]
  have only := left_only (s := emergencyEnded s) (by rw [ended]; exact idle)
  have frame := only.frame
  refine ⟨fun c => ?_, ?_⟩
  · rw [leaveEmergency_eq, exit_get, channels]
  · rw [leaveEmergency_eq]
    generalize powerEmergencyExit (equaliserEmergency (emergencyEnded s)) = t at frame
    rw [ended] at frame
    rw [frame]
    exact ⟨rfl, rfl, rfl, rfl, rfl, rfl⟩

theorem leaveEmergency_kin (kin : Kin a b) (idle : a.probe.round = .idle) :
    SameBlocks (leaveEmergency a) (leaveEmergency b) := by
  obtain ⟨⟨channels, cue, probe, eq, solver⟩, stc, image, level⟩ := kin
  obtain ⟨channelsA, cueA, probeA, eqA, solverA, -, -⟩ := leaveEmergency_blocks idle
  obtain ⟨channelsB, cueB, probeB, eqB, solverB, -, -⟩ := leaveEmergency_blocks (s := b) (by rw [probe]; exact idle)
  have same : ShowsSame (emergencyEnded a) (emergencyEnded b) := by
    rw [emergencyEnded_line a, emergencyEnded_line b]
    exact ⟨stc, image, level, eq, rfl⟩
  have settle : settleTriggered b = settleTriggered a := by
    unfold settleTriggered State.serving
    rw [stc, solver]
  refine ⟨channels_ext fun c => ?_, by rw [cueA, cueB, cue], by rw [probeA, probeB, probe], by rw [eqA, eqB, eq], ?_⟩
  · rw [channelsA, channelsB, same.leaving, channels]
  · rw [solverA, solverB, settle, solver]

end Sys2Proof.Machine
end

section
/-! PROOFS. The own alarm: the EVAC, the ROLL and the ALIGN that its change hands, and EMERGENCY that follows it (R125 to R127,
R131, R134 to R137, R70). -/

namespace Sys2Proof.Machine

variable {s t u : State} {f g : Frame} {e : QueueEntry} {set : Bool}

/-! ### What hand-overs leave of the queue (R166, R167) -/

/-- The line without the MARK and an attempt on it. -/
def cutMarks (s : State) : State :=
  { s with
    bus :=
      { s.bus with
        queue := s.bus.queue.filter fun e => !e.frame.body.isMark
        attempt := s.bus.attempt.filter fun a => !a.frame.body.isMark } }

/-- The line after a hand-over, without the count of what was dropped. -/
def handOver (f : Frame) (s : State) : State := { s with bus := (handFrame f s).bus }

theorem mem_joinFrame (f : Frame) (b : Bus) :
    (∃ e ∈ (joinFrame f b).queue, e.frame = f) ∧ ∀ e ∈ b.queue, e ∈ (joinFrame f b).queue := by
  have perm := insertByClass_perm ⟨f, b.nextArrival, false⟩ b.queue
  exact ⟨⟨_, perm.mem_iff.2 List.mem_cons_self, rfl⟩, fun e mem => perm.mem_iff.2 (List.mem_cons_of_mem _ mem)⟩

/-- A waiting entry of a class no lower stays through a hand-over that does not replace it. -/
theorem handFrame_survives (mem : e ∈ s.bus.queue) (other : g.body.replaces e.frame.body = false) (cls : e.cls ≤ g.body.cls) :
    e ∈ (handFrame g s).bus.queue := by
  cases admitted : admission s g.body with
  | replaces =>
    unfold handFrame
    rw [admitted]
    exact List.mem_map.2 ⟨e, mem, by rw [other]; rfl⟩
  | joins =>
    rw [handFrame_joins admitted]
    exact (mem_joinFrame g s.bus).2 e mem
  | refused =>
    rw [handFrame_refused admitted]
    exact mem
  | displaces =>
    rw [handFrame_displaces admitted]
    refine (mem_joinFrame g { s.bus with queue := s.bus.queue.dropLast }).2 e ?_
    have displaced : displaceable s.bus g.body.cls = true := by
      by_contra stays
      unfold admission at admitted
      rw [if_neg stays] at admitted
      repeat' split at admitted
      all_goals cases admitted
    have nonempty : s.bus.queue ≠ [] := List.ne_nil_of_mem mem
    have queue := List.dropLast_append_getLast nonempty
    rw [← queue] at mem
    rcases List.mem_append.1 mem with kept | isLast
    · exact kept
    · obtain ⟨higher, -⟩ := (displaceable_last queue.symm _).1 displaced
      rw [List.mem_singleton.1 isLast] at cls
      omega

/-- What a hand-over puts in the queue is there, unless it is refused. -/
theorem handFrame_puts (admitted : admission s f.body ≠ .refused) : ∃ e ∈ (handFrame f s).bus.queue, e.frame = f := by
  cases how : admission s f.body with
  | replaces =>
    have found : s.bus.queue.any (fun e => f.body.replaces e.frame.body) = true := by
      by_contra new
      unfold admission at how
      rw [if_neg new] at how
      repeat' split at how
      all_goals cases how
    obtain ⟨e, mem, replaced⟩ := List.any_eq_true.1 found
    unfold handFrame
    rw [how]
    exact ⟨{ e with frame := f, attempted := false }, List.mem_map.2 ⟨e, mem, by rw [replaced]; rfl⟩, rfl⟩
  | joins =>
    rw [handFrame_joins how]
    exact (mem_joinFrame f s.bus).1
  | displaces =>
    rw [handFrame_displaces how]
    exact (mem_joinFrame f { s.bus with queue := s.bus.queue.dropLast }).1
  | refused => exact absurd how admitted

theorem cut_short (s : State) : (cutMarks s).bus.queue.length ≤ s.bus.queue.length := List.length_filter_le ..

/-- With the MARK withdrawn, an EVAC is refused only where it was refused before (R167). -/
theorem refused_of_cut (fits : s.bus.queue.length ≤ 8) (refused : admission (cutMarks s) f.body = .refused)
    (may : s.bus.txQuiet = false) (mode : s.stc.mode ≠ .conflict) :
    admission s f.body = .refused ∧ ∀ e ∈ s.bus.queue, f.body.replaces e.frame.body = false := by
  have noneCut : ∀ e ∈ (cutMarks s).bus.queue, f.body.replaces e.frame.body = false := fun e mem => by
    by_contra replaced
    have found : (cutMarks s).bus.queue.any (fun e => f.body.replaces e.frame.body) = true :=
      List.any_eq_true.2 ⟨e, mem, by simpa using replaced⟩
    unfold admission at refused
    rw [found] at refused
    cases refused
  have none : ∀ e ∈ s.bus.queue, f.body.replaces e.frame.body = false := fun e mem => by
    by_contra replaced
    have isTrue : f.body.replaces e.frame.body = true := by simpa using replaced
    have kept : e ∈ (cutMarks s).bus.queue := List.mem_filter.2 ⟨mem, by rw [replaces_mark isTrue]; rfl⟩
    exact replaced (noneCut e kept)
  have quiet : ¬(s.bus.txQuiet || s.stc.mode == .conflict) = true := by
    rw [may, Bool.false_or, beq_iff_eq]
    exact mode
  refine ⟨?_, none⟩
  rw [admission_new noneCut, if_neg (show ¬((cutMarks s).bus.txQuiet || (cutMarks s).stc.mode == .conflict) = true from quiet)]
    at refused
  rw [admission_new none, if_neg quiet]
  split at refused
  · cases refused
  · next full =>
    have same : (cutMarks s).bus.queue = s.bus.queue :=
      List.filter_sublist.eq_of_length (le_antisymm (cut_short s) (fits.trans (Nat.not_lt.1 full)))
    rw [if_neg (by rw [← same]; exact full)]
    split at refused
    · cases refused
    · next stays =>
      refine if_neg fun displaced => stays ?_
      unfold displaceable at displaced ⊢
      rw [same]
      cases last : s.bus.queue.getLast? with
      | none =>
        rw [last] at displaced
        exact displaced
      | some v =>
        rw [last] at displaced
        dsimp only at displaced ⊢
        rw [Bool.and_eq_true, Bool.not_eq_true'] at displaced ⊢
        refine ⟨displaced.1, Bool.eq_false_iff.2 fun under => ?_⟩
        have attempted : underAttempt s.bus v = true := by
          unfold underAttempt at under ⊢
          obtain ⟨a, held, same⟩ := (Option.any_eq_true _ _).1 under
          exact (Option.any_eq_true _ _).2 ⟨a, (Option.filter_eq_some_iff.1 held).1, same⟩
        rw [displaced.2] at attempted
        cases attempted

/-- With the MARK withdrawn an EVAC is in the queue after its hand-over, if it is there with the MARK left waiting. -/
theorem evac_after_cut {evac : Frame} (kind : evac.body = .evac set) (fits : s.bus.queue.length ≤ 8)
    (may : s.bus.txQuiet = false) (mode : s.stc.mode ≠ .conflict)
    (waits : ∃ e ∈ (handFrame evac s).bus.queue, e.frame = evac) :
    ∃ e ∈ (handFrame evac (cutMarks s)).bus.queue, e.frame = evac := by
  refine handFrame_puts fun refused => ?_
  obtain ⟨refused', none⟩ := refused_of_cut fits refused may mode
  obtain ⟨e, mem, same⟩ := waits
  rw [handFrame_refused refused'] at mem
  have free := none e mem
  rw [same, kind] at free
  cases free

/-! ### EMERGENCY follows, and what it makes of the line -/

/-- EMERGENCY is wanted (R131). -/
def State.alarmed (s : State) : Bool := s.ownAlarm || !s.emc.sources.isEmpty

theorem followInputs_enters (calm : s.emc.emergency = false) (alarmed : s.alarmed = true) :
    followInputs s = enterEmergency s := by
  have outside : s.inEmergency = false := calm
  unfold followInputs
  dsimp only
  rw [show (s.ownAlarm || !s.emc.sources.isEmpty) = true from alarmed, outside]
  rfl

theorem followInputs_leaves (inside : s.emc.emergency = true) (calm : s.alarmed = false) :
    followInputs s = leaveEmergency s := by
  have inside : s.inEmergency = true := inside
  unfold followInputs
  dsimp only
  rw [show (s.ownAlarm || !s.emc.sources.isEmpty) = false from calm, inside]
  rfl

/-- With no round in MARKING no MARK waits, and the withdrawal changes nothing. -/
theorem cutMarks_idle (fit : QueueFit s.bus s.probe.round) (unmarked : s.probe.round ≠ .marking) : (cutMarks s).bus = s.bus := by
  have queue : s.bus.queue.filter (fun e => !e.frame.body.isMark) = s.bus.queue :=
    List.filter_eq_self.2 fun e mem => by
      rw [fit.unmarked unmarked e mem]
      rfl
  have attempt : s.bus.attempt.filter (fun a => !a.frame.body.isMark) = s.bus.attempt := by
    cases under : s.bus.attempt with
    | none => rfl
    | some a =>
      refine Option.filter_some_pos ?_
      by_contra marked
      exact unmarked (fit.driven a under (by simpa using marked)).1
  unfold cutMarks
  rw [queue, attempt]

/-- Where EMERGENCY is wanted, no MARK is left on the line once it has followed (R30, R33). -/
theorem followInputs_bus (fit : QueueFit s.bus s.probe.round) (quiet : s.emc.emergency = true → s.probe.round = .idle)
    (alarmed : s.alarmed = true) : (followInputs s).bus = (cutMarks s).bus := by
  cases emergency : s.emc.emergency with
  | false =>
    obtain ⟨-, -, -, -, -, bus, -⟩ := enterEmergency_blocks s
    rw [followInputs_enters emergency alarmed, bus, probeEmergency_bus fit]
    rfl
  | true =>
    rw [followInputs_of_follows (emergency.trans alarmed.symm),
      cutMarks_idle fit (by rw [quiet emergency]; exact Round.noConfusion)]

/-- Where EMERGENCY holds already, what follows leaves the line. -/
theorem followInputs_bus_inside (inside : s.emc.emergency = true) (idle : s.probe.round = .idle) :
    (followInputs s).bus = s.bus := by
  cases alarmed : s.alarmed with
  | true => rw [followInputs_of_follows (inside.trans alarmed.symm)]
  | false =>
    obtain ⟨-, -, -, -, -, bus, -⟩ := leaveEmergency_blocks idle
    rw [followInputs_leaves inside alarmed, bus]

/-! ### A change of the own alarm -/

/-- The EVAC of this station. -/
def evacOf (set : Bool) (s : State) : Frame := ⟨s.number, 63, .evac set⟩

theorem mayHandEvac_congr (stc : t.stc = s.stc) (quiet : t.bus.txQuiet = s.bus.txQuiet) : mayHandEvac t = mayHandEvac s := by
  unfold mayHandEvac State.number
  rw [stc, quiet]

theorem handEvac_bus (set : Bool) (s : State) :
    (handEvac set s).bus = if mayHandEvac s = true then (handFrame (evacOf set s) s).bus else s.bus := by
  unfold handEvac
  split <;> rfl

/-- Where no EVAC may be handed, no MARK waits (R136, R172). -/
theorem cutMarks_unsent (lawful : Lawful s) (barred : ¬mayHandEvac s = true) : (cutMarks s).bus = s.bus := by
  by_cases silent : s.bus.txQuiet = true ∨ s.stc.mode = .conflict
  · obtain ⟨-, -, -, empty⟩ := lawful.line
    obtain ⟨queue, attempt⟩ := empty silent
    unfold cutMarks
    rw [queue, attempt]
    show Bus.mk .. = Bus.mk ..
    congr 1
    · exact queue.symm
    · exact attempt.symm
  · obtain ⟨noisy, mode⟩ := not_or.1 silent
    obtain ⟨-, -, -, -, -, -, -, numbered⟩ := lawful.start
    obtain ⟨rests, -⟩ := lawful.round
    have fault : s.stc.mode = .configFault := by
      refine numbered.resolve_left fun station => barred ?_
      exact mayHandEvac_iff.2 ⟨mode, by simpa using noisy, station⟩
    refine cutMarks_idle ((queueLaw_iff s).1 lawful.queue) ?_
    rw [(rests (by rw [fault]; exact Mode.noConfusion)).1]
    exact Round.noConfusion

/-- The blocks that EMERGENCY does not touch are the same. -/
def Bystanders (s t : State) : Prop :=
  t.stc = s.stc ∧ t.image = s.image ∧ t.peers = s.peers ∧ t.selfRec = s.selfRec ∧ t.air = s.air ∧ t.delay = s.delay ∧
  t.level = s.level ∧ t.timeBase = s.timeBase ∧ t.pending = s.pending

theorem Bystanders.trans (h : Bystanders s t) (h' : Bystanders t u) : Bystanders s u := by
  obtain ⟨stc, image, peers, selfRec, air, delay, level, timeBase, pending⟩ := h
  obtain ⟨stc', image', peers', selfRec', air', delay', level', timeBase', pending'⟩ := h'
  exact ⟨stc'.trans stc, image'.trans image, peers'.trans peers, selfRec'.trans selfRec, air'.trans air, delay'.trans delay,
    level'.trans level, timeBase'.trans timeBase, pending'.trans pending⟩

theorem followInputs_bystanders (s : State) : Bystanders s (followInputs s) := by simp [Bystanders]

theorem sendSet_bystanders (s : State) : Bystanders s (sendSet s) := by simp [Bystanders]

theorem handEvac_bystanders (set : Bool) (s : State) : Bystanders s (handEvac set s) := by simp [Bystanders]

/-- What a change of the own alarm makes of the station, before a waiting ROLL is handed anew. -/
structure Reacted (s : State) (e : EmergencyControl) (set : Bool) (H : State) : Prop where
  emc : H.emc = { e with
    refresh := if set then some 1000000 else none, emergency := set || !e.sources.isEmpty }
  line : ∃ handed : State, handed.bus = H.bus ∧ handed.stc = s.stc ∧
    (mayHandEvac s = true → handed = handOver (evacOf set s) (cutMarks s) ∨ handed = cutMarks (handOver (evacOf set s) s)) ∧
    (¬mayHandEvac s = true → handed = s)
  stays : s.emc.emergency = (set || !e.sources.isEmpty) → SameBlocks s H
  enters : s.emc.emergency = false → (set || !e.sources.isEmpty) = true → SameBlocks (enterEmergency s) H
  leaves : s.emc.emergency = true → (set || !e.sources.isEmpty) = false → SameBlocks (leaveEmergency s) H
  frame : Bystanders s H

theorem SameBlocks.refl (s : State) : SameBlocks s s := ⟨rfl, rfl, rfl, rfl, rfl⟩

theorem SameBlocks.trans (h : SameBlocks s t) (h' : SameBlocks t u) : SameBlocks s u :=
  ⟨h'.channels.trans h.channels, h'.cue.trans h.cue, h'.probe.trans h.probe, h'.eq.trans h.eq, h'.solver.trans h.solver⟩

theorem sendSet_emc (s : State) : (sendSet s).emc = { s.emc with refresh := some 1000000 } := by
  unfold sendSet
  simp

theorem sendSet_blocks (s : State) : SameBlocks s (sendSet s) := ⟨by simp, by simp, by simp, by simp, by simp⟩

theorem sendSet_bus (s : State) :
    (sendSet s).bus = if mayHandEvac s = true then (handFrame (evacOf true s) s).bus else s.bus := by
  unfold sendSet
  rw [handEvac_bus]
  refine if_congr Iff.rfl ?_ rfl
  exact handFrame_bus_congr _ rfl rfl

theorem cutMarks_congr (bus : t.bus = s.bus) : (cutMarks t).bus = (cutMarks s).bus := by
  unfold cutMarks
  rw [bus]

/-- The line after an EVAC hand-over keeps its law, whether one may be handed or not. -/
theorem evac_fit (fit : QueueFit s.bus s.probe.round) (set : Bool) (bus : t.bus =
      if mayHandEvac s = true then (handFrame (evacOf set s) s).bus else s.bus) (probe : t.probe = s.probe) :
    QueueFit t.bus t.probe.round := by
  rw [bus, probe]
  split
  · exact handFrame_queueFit fit fun marked => Bool.noConfusion marked
  · exact fit

/-- EMERGENCY follows in a station that is kin to `s`, block by block. -/
theorem followInputs_blocks (kin : Kin s t) (emergency : t.emc.emergency = s.emc.emergency)
    (idle : s.emc.emergency = true → s.probe.round = .idle) :
    (s.emc.emergency = t.alarmed → SameBlocks s (followInputs t)) ∧
    (s.emc.emergency = false → t.alarmed = true → SameBlocks (enterEmergency s) (followInputs t)) ∧
    (s.emc.emergency = true → t.alarmed = false → SameBlocks (leaveEmergency s) (followInputs t)) := by
  refine ⟨fun same => ?_, fun calm alarmed => ?_, fun inside calm => ?_⟩
  · rw [followInputs_of_follows (emergency.trans same)]
    exact kin.toSameBlocks
  · rw [followInputs_enters (emergency.trans calm) alarmed]
    exact enterEmergency_kin kin
  · rw [followInputs_leaves (emergency.trans inside) calm]
    exact leaveEmergency_kin kin (idle inside)

theorem alarmed_idleRound (lawful : Lawful s) (inside : s.emc.emergency = true) : s.probe.round = .idle := by
  obtain ⟨quiet, -⟩ := lawful.calm
  exact (quiet inside).1

section

variable {e : EmergencyControl} {s1 : State}

/-- The own alarm asserted, the EVAC handed before EMERGENCY follows. -/
theorem reacted_evacFirst (lawful : Lawful s) (line : s1 = { s with emc := e, freeCount := s1.freeCount })
    (emergency : e.emergency = s.emc.emergency) (alarm : s1.ownAlarm = true) :
    Reacted s e true (followInputs (sendSet s1)) := by
  have stc : s1.stc = s.stc := by rw [line]
  have bus1 : s1.bus = s.bus := by rw [line]
  have emc : (sendSet s1).emc = { e with refresh := some 1000000 } := by
    rw [sendSet_emc, line]
  have alarmed : (sendSet s1).alarmed = true := by
    have own : (sendSet s1).ownAlarm = s1.ownAlarm := by
      unfold State.ownAlarm
      rw [sendSet_emc, show (sendSet s1).stc = s1.stc by simp]
    unfold State.alarmed
    rw [own, alarm, Bool.true_or]
  have bus : (sendSet s1).bus = if mayHandEvac s = true then (handFrame (evacOf true s) s).bus else s.bus := by
    rw [sendSet_bus, mayHandEvac_congr stc (by rw [bus1]), bus1, show evacOf true s1 = evacOf true s by
      unfold evacOf State.number; rw [stc], handFrame_bus_congr (evacOf true s) bus1 stc]
  have probe : (sendSet s1).probe = s.probe := by
    rw [show (sendSet s1).probe = s1.probe by simp, line]
  have fit := evac_fit ((queueLaw_iff s).1 lawful.queue) true bus probe
  have idle := alarmed_idleRound lawful
  have followed := followInputs_bus fit (fun inside => by
    rw [probe]
    exact idle (by rw [← emergency]; rw [emc] at inside; exact inside)) alarmed
  have kin : Kin s (sendSet s1) := by
    refine ⟨?_, (by simp [stc]), ?_, ?_⟩
    · refine SameBlocks.trans ?_ (sendSet_blocks s1)
      rw [line]
      exact ⟨rfl, rfl, rfl, rfl, rfl⟩
    · rw [show (sendSet s1).image = s1.image by simp, line]
    · rw [show (sendSet s1).level = s1.level by simp, line]
  obtain ⟨stays, enters, leaves⟩ := followInputs_blocks kin (by rw [emc]; exact emergency) idle
  rw [alarmed] at stays enters leaves
  refine ⟨?_, ?_, fun same => stays same, fun calm _ => enters calm rfl, fun _ none => Bool.noConfusion none, ?_⟩
  · rw [followInputs_emc, show ((sendSet s1).ownAlarm || !(sendSet s1).emc.sources.isEmpty) = true from alarmed, emc]
    rfl
  · by_cases may : mayHandEvac s = true
    · rw [if_pos may] at bus
      refine ⟨cutMarks (handOver (evacOf true s) s), ?_, rfl, fun _ => .inr rfl, fun barred => absurd may barred⟩
      rw [followed]
      exact (cutMarks_congr bus).symm
    · rw [if_neg may] at bus
      refine ⟨s, ?_, rfl, fun h => absurd h may, fun _ => rfl⟩
      rw [followed, cutMarks_congr bus, cutMarks_unsent lawful may]
  · have begun : Bystanders s s1 := by
      rw [line]
      exact ⟨rfl, rfl, rfl, rfl, rfl, rfl, rfl, rfl, rfl⟩
    exact begun.trans ((sendSet_bystanders s1).trans (followInputs_bystanders _))

/-- The own alarm asserted, EMERGENCY followed before the EVAC is handed. -/
theorem reacted_emergencyFirst (lawful : Lawful s) (line : s1 = { s with emc := e, freeCount := s1.freeCount })
    (emergency : e.emergency = s.emc.emergency) (alarm : s1.ownAlarm = true) :
    Reacted s e true (sendSet (followInputs s1)) := by
  have stc1 : s1.stc = s.stc := by rw [line]
  have stc : (followInputs s1).stc = s.stc := (by simp : (followInputs s1).stc = s1.stc).trans stc1
  have emc1 : s1.emc = e := by rw [line]
  have alarmed : s1.alarmed = true := by
    unfold State.alarmed
    rw [alarm, Bool.true_or]
  have idle := alarmed_idleRound lawful
  have followed : (followInputs s1).bus = (cutMarks s).bus := by
    have bus := followInputs_bus (s := s1) (by rw [line]; exact (queueLaw_iff s).1 lawful.queue)
      (fun inside => by
        have probe : s1.probe = s.probe := by rw [line]
        rw [probe]
        exact idle (by rw [← emergency, ← emc1]; exact inside)) alarmed
    rw [bus]
    exact cutMarks_congr (by rw [line])
  have number : evacOf true (followInputs s1) = evacOf true s := by
    unfold evacOf State.number
    rw [stc]
  have quiet : (followInputs s1).bus.txQuiet = s.bus.txQuiet := by rw [followed]; rfl
  have bus : (sendSet (followInputs s1)).bus =
      if mayHandEvac s = true then (handFrame (evacOf true s) (cutMarks s)).bus else (cutMarks s).bus := by
    rw [sendSet_bus, mayHandEvac_congr stc quiet, number, followed, handFrame_bus_congr (evacOf true s) followed stc]
  have kin : Kin s s1 := by
    rw [line]
    exact ⟨⟨rfl, rfl, rfl, rfl, rfl⟩, rfl, rfl, rfl⟩
  obtain ⟨stays, enters, leaves⟩ := followInputs_blocks kin (by rw [emc1]; exact emergency) idle
  rw [alarmed] at stays enters leaves
  have sent := sendSet_blocks (followInputs s1)
  refine ⟨?_, ?_, fun same => (stays same).trans sent, fun calm _ => (enters calm rfl).trans sent,
    fun _ none => Bool.noConfusion none, ?_⟩
  · rw [sendSet_emc, followInputs_emc, show (s1.ownAlarm || !s1.emc.sources.isEmpty) = true from alarmed, emc1]
    rfl
  · by_cases may : mayHandEvac s = true
    · rw [if_pos may] at bus
      exact ⟨handOver (evacOf true s) (cutMarks s), bus.symm, rfl, fun _ => .inl rfl, fun barred => absurd may barred⟩
    · rw [if_neg may] at bus
      exact ⟨s, (cutMarks_unsent lawful may).symm.trans bus.symm, rfl, fun h => absurd h may, fun _ => rfl⟩
  · have begun : Bystanders s s1 := by
      rw [line]
      exact ⟨rfl, rfl, rfl, rfl, rfl, rfl, rfl, rfl, rfl⟩
    exact begun.trans ((followInputs_bystanders s1).trans (sendSet_bystanders _))

/-- The own alarm released: the EVAC CLEAR is handed, and EMERGENCY follows. -/
theorem reacted_released (lawful : Lawful s) (line : s1 = { s with emc := { e with refresh := none } })
    (emergency : e.emergency = s.emc.emergency) (inside : s.emc.emergency = true) (alarm : s1.ownAlarm = false) :
    Reacted s e false (followInputs (handEvac false s1)) := by
  have stc : s1.stc = s.stc := by rw [line]
  have bus1 : s1.bus = s.bus := by rw [line]
  have emc : (handEvac false s1).emc = { e with refresh := none } := by
    rw [show (handEvac false s1).emc = s1.emc by simp, line]
  have alarmed : (handEvac false s1).alarmed = !e.sources.isEmpty := by
    have own : (handEvac false s1).ownAlarm = s1.ownAlarm := by
      unfold State.ownAlarm
      rw [show (handEvac false s1).emc = s1.emc by simp, show (handEvac false s1).stc = s1.stc by simp]
    unfold State.alarmed
    rw [own, alarm, Bool.false_or, emc]
  have bus : (handEvac false s1).bus = if mayHandEvac s = true then (handFrame (evacOf false s) s).bus else s.bus := by
    rw [handEvac_bus, mayHandEvac_congr stc (by rw [bus1]), bus1, show evacOf false s1 = evacOf false s by
      unfold evacOf State.number; rw [stc], handFrame_bus_congr (evacOf false s) bus1 stc]
  have probe : (handEvac false s1).probe = s.probe := by
    rw [show (handEvac false s1).probe = s1.probe by simp, line]
  have idle := alarmed_idleRound lawful
  have followed := followInputs_bus_inside (s := handEvac false s1) (by rw [emc]; exact emergency.trans inside)
    (by rw [probe]; exact idle inside)
  have kin : Kin s (handEvac false s1) := by
    refine ⟨⟨?_, ?_, probe, ?_, ?_⟩, (by simp [stc]), ?_, ?_⟩
    · rw [show (handEvac false s1).channels = s1.channels by simp, line]
    · rw [show (handEvac false s1).cue = s1.cue by simp, line]
    · rw [show (handEvac false s1).eq = s1.eq by simp, line]
    · rw [show (handEvac false s1).solver = s1.solver by simp, line]
    · rw [show (handEvac false s1).image = s1.image by simp, line]
    · rw [show (handEvac false s1).level = s1.level by simp, line]
  obtain ⟨stays, enters, leaves⟩ := followInputs_blocks kin (by rw [emc]; exact emergency) idle
  rw [alarmed] at stays enters leaves
  refine ⟨?_, ?_, stays, enters, leaves, ?_⟩
  · rw [followInputs_emc,
      show ((handEvac false s1).ownAlarm || !(handEvac false s1).emc.sources.isEmpty) = !e.sources.isEmpty from alarmed, emc]
    rfl
  · by_cases may : mayHandEvac s = true
    · rw [if_pos may] at bus
      refine ⟨handOver (evacOf false s) (cutMarks s), ?_, rfl, fun _ => .inl rfl, fun barred => absurd may barred⟩
      have unmarked := cutMarks_idle ((queueLaw_iff s).1 lawful.queue) (by rw [idle inside]; exact Round.noConfusion)
      rw [followed, bus]
      exact handFrame_bus_congr _ unmarked rfl
    · rw [if_neg may] at bus
      exact ⟨s, (followed.trans bus).symm, rfl, fun h => absurd h may, fun _ => rfl⟩
  · have begun : Bystanders s s1 := by
      rw [line]
      exact ⟨rfl, rfl, rfl, rfl, rfl, rfl, rfl, rfl, rfl⟩
    exact begun.trans ((handEvac_bystanders false s1).trans (followInputs_bystanders _))

end

end Sys2Proof.Machine
end

section
/-! PROOFS. The debounced contacts, and all that a change of the own alarm brings about (R125 to R127, R131, R134 to R137,
R70). -/

namespace Sys2Proof.Machine

variable {s t u v H handed : State} {e : EmergencyControl} {set : Bool}

/-! ### The ROLL and the ALIGN that follow the EVAC -/

/-- A waiting EVAC stays through the hand-over of a ROLL or an ALIGN. -/
theorem evac_survives {g : Frame} (kind : g.body.isRoll = true ∨ g.body.isAlign = true)
    (waits : ∃ e ∈ u.bus.queue, e.frame = evacOf set s) : ∃ e ∈ (handFrame g u).bus.queue, e.frame = evacOf set s := by
  obtain ⟨e, mem, frame⟩ := waits
  have other : g.body.replaces e.frame.body = false := by
    rw [frame]
    show g.body.replaces (.evac set) = false
    cases body : g.body with
    | evac set' => rw [body] at kind; simp [FrameBody.isRoll, FrameBody.isAlign] at kind
    | _ => rfl
  have first : e.cls ≤ g.body.cls := by
    unfold QueueEntry.cls
    rw [frame]
    exact Nat.zero_le _
  exact ⟨e, handFrame_survives mem other first, frame⟩

/-- A waiting ROLL is handed anew (R137, R182), told over the line alone. -/
theorem renewRoll_rolled (bus : handed.bus = H.bus) (stc : handed.stc = H.stc) :
    ∃ rolled : State, rolled.bus = (renewRoll H).bus ∧ rolled.stc = H.stc ∧
      (rollWaits handed = true → H.stc.mode ≠ .loading → H.stc.mode ≠ .conflict → isStation H.number = true →
        ∃ roll : RollBody, rolled = handOver ⟨H.number, 63, .roll roll⟩ handed ∧ roll.unit = H.stc.unit ∧
          roll.contact = H.ownAlarm ∧ roll.faultFlag = decide (H.stc.mode = .configFault)) ∧
      (rollWaits handed = false ∨ H.stc.mode = .loading ∨ H.stc.mode = .conflict ∨ isStation H.number = false →
        rolled = handed) := by
  have waits : rollWaits handed = rollWaits H := by
    unfold rollWaits
    rw [bus]
  by_cases renewed : rollWaits H = true ∧ ¬(H.stc.mode = .loading ∨ H.stc.mode = .conflict ∨ isStation H.number = false)
  · obtain ⟨waiting, may⟩ := renewed
    have hand : renewRoll H = handFrame ⟨H.number, 63, .roll (composeRoll H)⟩ H := by
      unfold renewRoll handRoll
      rw [if_pos waiting, if_neg may]
    refine ⟨handOver ⟨H.number, 63, .roll (composeRoll H)⟩ handed, ?_, stc, fun _ _ _ _ => ⟨composeRoll H, rfl, rfl, rfl, ?_⟩,
      fun barred => ?_⟩
    · rw [hand]
      exact handFrame_bus_congr _ bus stc
    · exact (Bool.beq_eq_decide_eq H.stc.mode .configFault)
    · rcases barred with none | barred
      · rw [waits, waiting] at none
        cases none
      · exact absurd barred may
  · have rests : renewRoll H = H := by
      unfold renewRoll handRoll
      by_cases waiting : rollWaits H = true
      · rw [if_pos waiting, if_pos (not_not.1 fun may => renewed ⟨waiting, may⟩)]
      · rw [if_neg waiting]
    refine ⟨handed, by rw [rests]; exact bus, stc, fun waiting loading conflict station => ?_, fun _ => rfl⟩
    refine absurd ⟨waits.symm.trans waiting, ?_⟩ renewed
    rintro (h | h | h)
    · exact loading h
    · exact conflict h
    · exact Bool.noConfusion (station.symm.trans h)

theorem renewRoll_evac (waits : ∃ e ∈ H.bus.queue, e.frame = evacOf set s) :
    ∃ e ∈ (renewRoll H).bus.queue, e.frame = evacOf set s := by
  unfold renewRoll handRoll
  split
  · split
    · exact waits
    · exact evac_survives (.inl rfl) waits
  · exact waits

theorem handAlign_bus (s : State) : (handAlign s).bus = (handFrame ⟨s.number, 63, .align (composeAlign s)⟩ s).bus := by
  rw [handAlign_eq]

theorem handAlign_flags (s : State) : alignFlags (handAlign s) = alignFlags s := by
  have same : published (handAlign s) = published s := by
    refine published_same (by simp [handAlign]) (by simp [handAlign]) (by simp [handAlign, State.frozen])
      (by simp [handAlign]) (by simp [handAlign]) (by simp [handAlign]) (by simp [handAlign])
      (by simp [handAlign, State.ownAlarm])
  exact congrArg (·.flags) same

/-! ### The own alarm changes -/

/-- The choice of the order of an EVAC and the withdrawal of a MARK is counted (log 8). -/
def freeCounted (s : State) : State := if markWaits s then s.setFreeCount (s.freeCount + 1) else s

theorem freeCounted_line (s : State) : freeCounted s = { s with freeCount := (freeCounted s).freeCount } := by
  unfold freeCounted
  split <;> rfl

/-- A change of the own alarm, before a waiting ROLL is handed anew. -/
theorem changeContacts_reacted (lawful : Lawful s) (f : EmergencyControl → EmergencyControl)
    (emergency : (f s.emc).emergency = s.emc.emergency) (differ : ({ s with emc := f s.emc } : State).ownAlarm ≠ s.ownAlarm) :
    ∃ H, Reacted s (f s.emc) ({ s with emc := f s.emc } : State).ownAlarm H ∧ changeContacts f s = renewRoll H := by
  have changed : changeContacts f s =
      if ({ s with emc := f s.emc } : State).ownAlarm then alarmAsserted { s with emc := f s.emc }
      else alarmReleased { s with emc := f s.emc } := if_neg fun same => differ same.symm
  cases alarm : ({ s with emc := f s.emc } : State).ownAlarm with
  | true =>
    rw [alarm, if_pos rfl] at changed
    have line := freeCounted_line { s with emc := f s.emc }
    generalize counted : freeCounted { s with emc := f s.emc } = u at line
    have own : u.ownAlarm = true := by
      rw [line]
      exact alarm
    cases evacFirst : markWaits { s with emc := f s.emc } && Config.freeOrder s.freeCount with
    | true =>
      refine ⟨_, reacted_evacFirst lawful line emergency own, changed.trans ?_⟩
      rw [← counted]
      exact congrArg renewRoll (if_pos evacFirst)
    | false =>
      refine ⟨_, reacted_emergencyFirst lawful line emergency own, changed.trans ?_⟩
      rw [← counted]
      exact congrArg renewRoll (if_neg (by rw [evacFirst]; exact Bool.false_ne_true))
  | false =>
    rw [alarm, if_neg Bool.false_ne_true] at changed
    have was : s.ownAlarm = true := by
      rw [alarm] at differ
      simpa using differ.symm
    have inside : s.emc.emergency = true := by
      obtain ⟨follows, -⟩ := lawful.alarm
      rw [follows, was, Bool.true_or]
    refine ⟨_, reacted_released (s1 := { s with emc := { f s.emc with refresh := none } }) lawful rfl emergency inside alarm, ?_⟩
    rw [changed]
    rfl

/-- What the debounced contacts make of the line when the own alarm changes (R70, R135 to R137). -/
def LineFollows (s t : State) : Prop :=
  (mayHandEvac s = true → s.bus.queue = [] → ∃ e ∈ t.bus.queue, e.frame = evacOf t.ownAlarm s) ∧
  (mayHandEvac s = true → (∃ e ∈ (handFrame (evacOf t.ownAlarm s) s).bus.queue, e.frame = evacOf t.ownAlarm s) →
    ∃ e ∈ t.bus.queue, e.frame = evacOf t.ownAlarm s) ∧
  ∃ handed rolled : State,
    (mayHandEvac s = true → handed = handOver (evacOf t.ownAlarm s) (cutMarks s) ∨
      handed = cutMarks (handOver (evacOf t.ownAlarm s) s)) ∧
    (¬mayHandEvac s = true → handed = s) ∧
    (rollWaits handed = true → s.stc.mode ≠ .loading → s.stc.mode ≠ .conflict → isStation s.number = true →
      ∃ roll : RollBody, rolled = handOver ⟨s.number, 63, .roll roll⟩ handed ∧ roll.unit = s.stc.unit ∧
        roll.contact = t.ownAlarm ∧ roll.faultFlag = decide (s.stc.mode = .configFault)) ∧
    (rollWaits handed = false ∨ s.stc.mode = .loading ∨ s.stc.mode = .conflict ∨ isStation s.number = false →
      rolled = handed) ∧
    (s.stc.mode ≠ .run → t.bus = rolled.bus) ∧
    (s.stc.mode = .run → ∃ r : AlignRecord, r.flags = alignFlags t ∧ r.flags.contact = t.ownAlarm ∧
      r.solver = t.solver.state ∧ t.bus = (handFrame ⟨s.number, 63, .align r⟩ rolled).bus)

/-- The blocks that EMERGENCY touches are the same, but for what the ALIGN writes. -/
def AlikeButAlign (t v : State) : Prop :=
  t.channels = v.channels ∧ t.cue = v.cue ∧ t.probe = v.probe ∧ t.eq = v.eq ∧
  t.solver = { v.solver with seq := t.solver.seq, handed := t.solver.handed, refresh := t.solver.refresh }

/-- The EVAC is in the queue before the ROLL and the ALIGN are handed, where it would be with the MARK left waiting. -/
theorem Reacted.evac (h : Reacted s e set H) (lawful : Lawful s) (may : mayHandEvac s = true)
    (waits : ∃ e ∈ (handFrame (evacOf set s) s).bus.queue, e.frame = evacOf set s) :
    ∃ e ∈ H.bus.queue, e.frame = evacOf set s := by
  obtain ⟨handed, bus, -, sent, -⟩ := h.line
  obtain ⟨mode, noisy, -⟩ := mayHandEvac_iff.1 may
  obtain ⟨fits, -⟩ := lawful.queue
  rw [← bus]
  rcases sent may with first | second
  · rw [first]
    exact evac_after_cut rfl fits noisy mode waits
  · rw [second]
    obtain ⟨e, mem, frame⟩ := waits
    exact ⟨e, List.mem_filter.2 ⟨mem, by rw [frame]; rfl⟩, frame⟩

/-- An empty queue takes the EVAC. -/
theorem evac_joins (may : mayHandEvac s = true) (empty : s.bus.queue = []) :
    ∃ e ∈ (handFrame (evacOf set s) s).bus.queue, e.frame = evacOf set s := by
  obtain ⟨mode, noisy, -⟩ := mayHandEvac_iff.1 may
  refine handFrame_puts fun refused => ?_
  have quiet : ¬(s.bus.txQuiet || s.stc.mode == .conflict) = true := by
    rw [noisy, Bool.false_or, beq_iff_eq]
    exact mode
  rw [admission_new (by rw [empty]; simp), if_neg quiet, if_pos (by rw [empty]; decide)] at refused
  cases refused

/-- The event of a change of the own alarm ends with one ALIGN in RUN (R70). -/
theorem finishEvent_alarm (stc : u.stc = s.stc) (differ : u.ownAlarm ≠ s.ownAlarm) :
    finishEvent s u = if s.stc.mode = .run then handAlign u else u := by
  have published : published s ≠ published u := fun same => by
    have contact : (alignFlags s).contact = (alignFlags u).contact := congrArg (fun p : Published => p.flags.contact) same
    exact differ contact.symm
  unfold finishEvent
  rw [stc]
  exact if_congr ⟨fun h => h.1, fun run => ⟨run, run, published⟩⟩ rfl rfl

theorem finishEvent_alarm_bus (stc : u.stc = s.stc) (differ : u.ownAlarm ≠ s.ownAlarm) :
    (finishEvent s u).ownAlarm = u.ownAlarm ∧ (s.stc.mode ≠ .run → (finishEvent s u).bus = u.bus) ∧
    (s.stc.mode = .run → (finishEvent s u).bus = (handFrame ⟨s.number, 63, .align (composeAlign u)⟩ u).bus ∧
      alignFlags (finishEvent s u) = alignFlags u) := by
  rw [finishEvent_alarm stc differ]
  refine ⟨?_, fun rests => by rw [if_neg rests], fun run => ?_⟩
  · split
    · exact congrArg (·.contact) (handAlign_flags u)
    · rfl
  · rw [if_pos run]
    refine ⟨?_, handAlign_flags u⟩
    rw [handAlign_bus]
    show (handFrame ⟨u.number, 63, _⟩ u).bus = _
    rw [show u.number = s.number by unfold State.number; rw [stc]]

/-- The line after a change of the own alarm. -/
theorem Reacted.lineFollows (h : Reacted s e set H) (lawful : Lawful s) (own : H.ownAlarm = set) (differ : set ≠ s.ownAlarm) :
    LineFollows s (finishEvent s (renewRoll H)) := by
  have stcH : H.stc = s.stc := by
    obtain ⟨stc, -⟩ := h.frame
    exact stc
  have stc : (renewRoll H).stc = s.stc := (by simp : (renewRoll H).stc = H.stc).trans stcH
  have numberH : H.number = s.number := by
    unfold State.number
    rw [stcH]
  have alarm : (renewRoll H).ownAlarm = set := by
    rw [← own]
    unfold State.ownAlarm
    simp
  obtain ⟨alarmT, outside, inRun⟩ := finishEvent_alarm_bus stc (by rw [alarm]; exact differ)
  rw [alarm] at alarmT
  have evac (may : mayHandEvac s = true)
      (waits : ∃ e ∈ (handFrame (evacOf set s) s).bus.queue, e.frame = evacOf set s) :
      ∃ e ∈ (finishEvent s (renewRoll H)).bus.queue, e.frame = evacOf set s := by
    have renewed := renewRoll_evac (h.evac lawful may waits)
    by_cases run : s.stc.mode = .run
    · rw [(inRun run).1]
      exact evac_survives (.inr rfl) renewed
    · rw [outside run]
      exact renewed
  obtain ⟨handed, bus, stcHanded, sent, unsent⟩ := h.line
  obtain ⟨rolled, busRolled, stcRolled, rolls, rests⟩ := renewRoll_rolled bus (stcHanded.trans stcH.symm)
  rw [numberH, own, stcH] at rolls
  rw [numberH, stcH] at rests
  unfold LineFollows
  rw [alarmT]
  refine ⟨fun may empty => evac may (evac_joins may empty), evac, handed, rolled, sent, unsent, rolls, rests,
    fun out => ?_, fun run => ?_⟩
  · rw [outside out, busRolled]
  · obtain ⟨busT, flags⟩ := inRun run
    refine ⟨composeAlign (renewRoll H), flags.symm, alarm, ?_, ?_⟩
    · show (renewRoll H).solver.state = _
      simp
    · rw [busT]
      exact (handFrame_bus_congr _ busRolled (stcRolled.trans (stcH.trans stc.symm))).symm

/-- What the debounced contacts make of the station, where Emergency Control is told `e`. -/
structure ContactsFollowed (s : State) (e : EmergencyControl) (t : State) : Prop where
  emc : t.emc = { e with refresh := t.emc.refresh, emergency := t.emc.emergency }
  alarm : t.ownAlarm = ({ s with emc := e } : State).ownAlarm
  emergency : t.emc.emergency = (t.ownAlarm || !e.sources.isEmpty)
  quiet : t.ownAlarm = s.ownAlarm → t.emc.refresh = e.refresh ∧ t = { s with emc := t.emc }
  sets : s.ownAlarm = false → t.ownAlarm = true → t.emc.refresh = some 1000000
  clears : s.ownAlarm = true → t.ownAlarm = false → t.emc.refresh = none
  line : t.ownAlarm ≠ s.ownAlarm → LineFollows s t
  stays : s.emc.emergency = t.emc.emergency → AlikeButAlign t s
  enters : s.emc.emergency = false → t.emc.emergency = true → AlikeButAlign t (enterEmergency s)
  leaves : s.emc.emergency = true → t.emc.emergency = false → AlikeButAlign t (leaveEmergency s)
  frame : Bystanders s t

theorem SameBlocks.alike (h : SameBlocks s H) (t : State) (u : State) (renewed : u.channels = H.channels ∧ u.cue = H.cue ∧
    u.probe = H.probe ∧ u.eq = H.eq ∧ u.solver = H.solver) : AlikeButAlign (finishEvent t u) s := by
  obtain ⟨channels, cue, probe, eq, solver⟩ := renewed
  obtain ⟨q, k, r, wrote⟩ := finishEvent_solver t u
  refine ⟨?_, ?_, ?_, ?_, ?_⟩
  · rw [show (finishEvent t u).channels = u.channels by simp, channels, h.channels]
  · rw [show (finishEvent t u).cue = u.cue by simp, cue, h.cue]
  · rw [show (finishEvent t u).probe = u.probe by simp, probe, h.probe]
  · rw [show (finishEvent t u).eq = u.eq by simp, eq, h.eq]
  · rw [wrote, solver, h.solver]

/-- The contacts move, whether the own alarm changes or not. -/
theorem contactsFollowed (lawful : Lawful s) (f : EmergencyControl → EmergencyControl)
    (kept : (f s.emc).emergency = s.emc.emergency ∧ (f s.emc).refresh = s.emc.refresh ∧ (f s.emc).sources = s.emc.sources) :
    ContactsFollowed s (f s.emc) (event (changeContacts f) s) := by
  obtain ⟨emergency, refresh, sources⟩ := kept
  obtain ⟨follows, -⟩ := lawful.alarm
  by_cases same : ({ s with emc := f s.emc } : State).ownAlarm = s.ownAlarm
  · have changed : changeContacts f s = { s with emc := f s.emc } := if_pos same.symm
    have quiet : event (changeContacts f) s = { s with emc := f s.emc } := by
      rw [event_quiet, changed]
      rw [changed]
      exact published_same ⟨rfl, rfl⟩ ⟨rfl, rfl, rfl, rfl, rfl⟩ rfl (fun _ => ⟨rfl, rfl⟩) rfl rfl (fun _ => Iff.rfl) same
    rw [quiet]
    exact {
      emc := rfl
      alarm := rfl
      emergency := by
        rw [same, sources]
        exact emergency.trans follows
      quiet := fun _ => ⟨rfl, rfl⟩
      sets := fun was is => Bool.noConfusion (was.symm.trans (same.symm.trans is))
      clears := fun was is => Bool.noConfusion (was.symm.trans (same.symm.trans is))
      line := fun differ => absurd same differ
      stays := fun _ => ⟨rfl, rfl, rfl, rfl, rfl⟩
      enters := fun was is => Bool.noConfusion (was.symm.trans (emergency.symm.trans is))
      leaves := fun was is => Bool.noConfusion (was.symm.trans (emergency.symm.trans is))
      frame := ⟨rfl, rfl, rfl, rfl, rfl, rfl, rfl, rfl, rfl⟩ }
  · obtain ⟨H, reacted, changed⟩ := changeContacts_reacted lawful f emergency same
    have turned : event (changeContacts f) s = finishEvent s (renewRoll H) := congrArg (finishEvent s) changed
    rw [turned]
    generalize alarmWas : ({ s with emc := f s.emc } : State).ownAlarm = set at reacted same
    have stcH : H.stc = s.stc := by
      obtain ⟨stc, -⟩ := reacted.frame
      exact stc
    have own : H.ownAlarm = set := by
      rw [← alarmWas]
      unfold State.ownAlarm
      rw [reacted.emc, stcH]
    have emc : (finishEvent s (renewRoll H)).emc =
        { f s.emc with
          refresh := if set then some 1000000 else none, emergency := set || !(f s.emc).sources.isEmpty } := by
      rw [← reacted.emc]
      simp
    have alarm : (finishEvent s (renewRoll H)).ownAlarm = set := by
      rw [← own]
      unfold State.ownAlarm
      simp
    have renewed : (renewRoll H).channels = H.channels ∧ (renewRoll H).cue = H.cue ∧ (renewRoll H).probe = H.probe ∧
      (renewRoll H).eq = H.eq ∧ (renewRoll H).solver = H.solver := by simp
    exact {
      emc := by rw [emc]
      alarm := by rw [alarm, alarmWas]
      emergency := by rw [alarm, emc]
      quiet := fun h => absurd (alarm.symm.trans h) same
      sets := fun _ is => by
        rw [emc]
        exact if_pos (alarm.symm.trans is)
      clears := fun _ is => by
        rw [emc]
        exact if_neg (by rw [alarm.symm.trans is]; exact Bool.false_ne_true)
      line := fun _ => reacted.lineFollows lawful own same
      stays := fun h => (reacted.stays (by rw [emc] at h; exact h)).alike s _ renewed
      enters := fun was is => (reacted.enters was (by rw [emc] at is; exact is)).alike s _ renewed
      leaves := fun was is => (reacted.leaves was (by rw [emc] at is; exact is)).alike s _ renewed
      frame := reacted.frame.trans (by simp [Bystanders]) }

end Sys2Proof.Machine
end

section
/-! PROOFS. The four debounced contacts (R125 to R127, R131, R134 to R137, R70). -/

namespace Sys2Proof.Machine

variable {s t v : State}

theorem AlikeButAlign.follows {a b : State} (alike : AlikeButAlign t a) (same : SameBlocks a b) (old : State)
    (taken : (.next (finishEvent old b) : Host.Outcome State Fault Refusal) = .next v) : AlikeButAlign t v := by
  obtain ⟨channels, cue, probe, eq, solver⟩ := alike
  obtain ⟨q, k, r, wrote⟩ := finishEvent_solver old b
  cases taken
  refine ⟨?_, ?_, ?_, ?_, ?_⟩
  · rw [show (finishEvent old b).channels = b.channels by simp, same.channels, channels]
  · rw [show (finishEvent old b).cue = b.cue by simp, same.cue, cue]
  · rw [show (finishEvent old b).probe = b.probe by simp, same.probe, probe]
  · rw [show (finishEvent old b).eq = b.eq by simp, same.eq, eq]
  · rw [wrote, same.solver]
    exact solver

/-- An EVAC SET that ends the calm brings EMERGENCY as the own alarm does (R131, R134). -/
theorem alike_evac_set (lawful : Lawful s) (calm : s.emc.emergency = false) {n : Nat} (station : isStation n = true)
    (other : n ≠ s.number) (taken : exec (.evac n true) s = .next v) (alike : AlikeButAlign t (enterEmergency s)) :
    AlikeButAlign t v := by
  have kin : Kin s (alarmRaised n s) := by
    rw [alarmRaised_line]
    exact ⟨⟨rfl, rfl, rfl, rfl, rfl⟩, rfl, rfl, rfl⟩
  rw [exec_evac_kept station other, takeEvac_enters lawful.alarm calm, ← enterEmergency_eq] at taken
  exact alike.follows (enterEmergency_kin kin) _ taken

/-- An EVAC CLEAR of the last source ends EMERGENCY as the own alarm does. -/
theorem alike_evac_clear {e : EmergencyControl} (round : s.probe.round = .idle) {n : Nat} (station : isStation n = true)
    (other : n ≠ s.number) (inside : e.emergency = true) (sources : e.sources = [n])
    (ordinary : ({ s with emc := e } : State).ownAlarm = false) (taken : exec (.evac n false) { s with emc := e } = .next v)
    (alike : AlikeButAlign t (leaveEmergency s)) : AlikeButAlign t v := by
  have line := alarmCleared_line n { s with emc := e }
  have kin : Kin s (alarmCleared n { s with emc := e }) := by
    rw [line]
    exact ⟨⟨rfl, rfl, rfl, rfl, rfl⟩, rfl, rfl, rfl⟩
  have calm : (alarmCleared n { s with emc := e }).alarmed = false := by
    rw [line]
    show (({ s with emc := e } : State).ownAlarm || !(e.sources.filter (· != n)).isEmpty) = false
    rw [ordinary, sources]
    simp
  have left : takeEvac n false (countValid { s with emc := e }) = leaveEmergency (alarmCleared n { s with emc := e }) :=
    followInputs_leaves (s := alarmCleared n { s with emc := e }) (by rw [line]; exact inside) calm
  rw [exec_evac_kept (s := { s with emc := e }) station other, left] at taken
  exact alike.follows (leaveEmergency_kin kin round) _ taken

/-- Settles O51: a change of the own alarm reacts (EVAC, EMERGENCY, ROLL), and the event ends with the ALIGN. -/
theorem ownAlarmFollowsContacts : Obligations.OwnAlarmFollowsContacts := by
  intro s lawful latched follows
  have main : ∀ (i : Instr) (f : EmergencyControl → EmergencyControl) (contact resetContact latch : Bool)
      (contactSpan resetSpan : Option Nat) (c : Prop) [Decidable c], c →
      exec i s = .next (finishEvent s (if c then changeContacts f s else s)) →
      f s.emc =
        { s.emc with
          contact := contact, resetContact := resetContact, latch := latch, contactSpan := contactSpan
          resetSpan := resetSpan } → follows i contact resetContact latch contactSpan resetSpan := by
    intro i f contact resetContact latch contactSpan resetSpan c _ holds runs told
    rw [if_pos holds] at runs
    have all := contactsFollowed lawful f (by rw [told]; exact ⟨rfl, rfl, rfl⟩)
    rw [told] at all
    unfold event at all
    generalize finishEvent s (changeContacts f s) = t at runs all
    have emc := all.emc
    have alarm : t.ownAlarm = if latched then latch else contact := all.alarm
    refine ⟨t, runs, congrArg (·.contact) emc, congrArg (·.resetContact) emc, congrArg (·.latch) emc,
      congrArg (·.contactSpan) emc, congrArg (·.resetSpan) emc, congrArg (·.sources) emc, congrArg (·.contactPin) emc,
      congrArg (·.resetPin) emc, alarm, all.emergency, all.quiet, all.sets, all.clears, fun differ => ?_, ?_, all.frame⟩
    · have line := all.line differ
      unfold LineFollows at line
      rw [mayHandEvac_iff] at line
      exact line
    · refine ⟨fun was is => all.stays (was.trans is.symm), fun was is => all.stays (was.trans is.symm),
        fun was is n v station other taken => alike_evac_set lawful was station other taken (all.enters was is),
        fun was is n v station other taken => ?_⟩
      have ordinary : t.ownAlarm = false := by
        have rests := all.emergency
        rw [is] at rests
        exact (Bool.or_eq_false_iff.1 rests.symm).1
      have stc : t.stc = s.stc := by
        obtain ⟨stc, -⟩ := all.frame
        exact stc
      have ordinary' : ({ s with emc := { t.emc with sources := [n], emergency := true } } : State).ownAlarm = false := by
        rw [← ordinary]
        unfold State.ownAlarm
        rw [stc]
      exact alike_evac_clear (alarmed_idleRound lawful was) station other rfl rfl ordinary' taken (all.leaves was is)
  refine ⟨fun left span contact => ?_, fun left span contact => ?_, fun left span contact => ?_, fun left span contact => ?_⟩
  · exact main _ _ _ _ _ _ _ _ ⟨by rw [span]; rfl, contact⟩ rfl rfl
  · exact main _ _ _ _ _ _ _ _ ⟨by rw [span]; rfl, contact⟩ rfl rfl
  · refine main _ _ _ _ _ _ _ _ ⟨by rw [span]; rfl, contact⟩ rfl ?_
    · have latch : (s.emc.latch && !(s.stc.straps.latched && !s.emc.contact)) = (s.emc.latch && s.emc.contact) := by
        obtain ⟨-, -, -, unlatched⟩ := lawful.alarm
        cases strap : s.stc.straps.latched with
        | true => rw [Bool.true_and, Bool.not_not]
        | false => rw [unlatched strap, Bool.false_and, Bool.false_and]
      exact congrArg (fun l => { s.emc with latch := l, resetContact := true, resetSpan := none }) latch
  · exact main _ _ _ _ _ _ _ _ ⟨by rw [span]; rfl, contact⟩ rfl rfl

end Sys2Proof.Machine
end

section
/-! PROOFS. The correlator of a capture window: scores, local maxima and peaks (R29, R37 to R39). -/

namespace Sys2Proof.Machine

variable {s : State} {w : Window} {n station magnitude : Nat}

/-! ### The sequence in the samples heard (R29, R38) -/

/-- The sign of a sample of a station's probe sequence. -/
def signOf (station k : Nat) : Int := if Config.sequence station k then 1 else -1

theorem signOf_natAbs (station k : Nat) : (signOf station k).natAbs = 1 := by
  unfold signOf
  split <;> rfl

/-- The correlation is the sum of the samples, each with the sign of the sequence at its place. -/
theorem correlation_eq_sum (station k : Nat) (l : List Int) :
    correlation station k l = ((l.zipIdx k).map fun p => signOf station p.2 * p.1).sum := by
  induction l generalizing k with
  | nil => rfl
  | cons x xs ih =>
    rw [correlation, ih, List.zipIdx_cons, List.map_cons, List.sum_cons]
    congr 1
    unfold signOf
    split <;> simp

theorem followsSequence_iff (k : Nat) (l : List Int) :
    followsSequence station magnitude k l = true ↔
      l = (List.range' k l.length).map fun i => signOf station i * magnitude := by
  induction l generalizing k with
  | nil => exact ⟨fun _ => rfl, fun _ => rfl⟩
  | cons x xs ih =>
    have place : (if Config.sequence station k then (magnitude : Int) else -magnitude) = signOf station k * magnitude := by
      unfold signOf
      split <;> simp
    rw [followsSequence, Bool.and_eq_true, beq_iff_eq, ih, place, List.length_cons, List.range'_succ, List.map_cons,
      List.cons.injEq]

/-- The samples are the sequence alone, at some magnitude. -/
theorem isSequenceAlone_iff (l : List Int) :
    isSequenceAlone station l = true ↔
      ∃ m : Nat, 0 < m ∧ l = (List.range 8192).map fun k => signOf station k * m := by
  cases l with
  | nil =>
    refine ⟨fun none => Bool.noConfusion none, fun ⟨m, _, empty⟩ => ?_⟩
    have length := congrArg List.length empty
    simp at length
  | cons x xs =>
    have unfolded : isSequenceAlone station (x :: xs) = true ↔
        x ≠ 0 ∧ xs.length = 8191 ∧ followsSequence station x.natAbs 0 (x :: xs) = true := by
      rw [isSequenceAlone, Bool.and_eq_true, Bool.and_eq_true, bne_iff_ne, beq_iff_eq, and_assoc]
    rw [unfolded, followsSequence_iff, List.length_cons]
    constructor
    · rintro ⟨nonzero, length, follows⟩
      rw [length, ← List.range_eq_range'] at follows
      exact ⟨x.natAbs, Int.natAbs_pos.2 nonzero, follows⟩
    · rintro ⟨m, pos, follows⟩
      have length : xs.length = 8191 := by simpa using congrArg List.length follows
      have first : x.natAbs = m := by
        have head := congrArg List.head? follows
        rw [List.head?_cons, List.head?_map] at head
        have : x = signOf station 0 * m := by simpa [List.head?_range] using head
        rw [this, Int.natAbs_mul, signOf_natAbs, Int.natAbs_natCast, one_mul]
      refine ⟨Int.natAbs_pos.1 (by rw [first]; exact pos), length, ?_⟩
      rw [length, ← List.range_eq_range', first]
      exact follows

/-- The score of a window at a sample, where the sequence is not alone (R38). -/
theorem Window.gridScore_mixed (mixed : w.aloneAt n = false) :
    w.gridScore n =
      if (w.span n).length < 8192 ∨ maxOffset < w.offsetOf n ∨ correlation w.owner 0 (w.span n) ≤ 0 then 0
      else min 255 (Config.scaled (correlation w.owner 0 (w.span n)).toNat (w.span n)) := by
  unfold Window.gridScore
  exact if_neg (by rw [mixed]; exact Bool.false_ne_true)

theorem Window.aloneAt_iff (w : Window) (n : Nat) :
    w.aloneAt n = true ↔
      (∃ m : Nat, 0 < m ∧ w.span n = (List.range 8192).map fun k => signOf w.owner k * m) ∧ w.offsetOf n ≤ 1369333 := by
  unfold Window.aloneAt
  rw [Bool.and_eq_true, isSequenceAlone_iff, decide_eq_true_iff, maxOffset]

theorem Window.gridScore_spec (w : Window) (n : Nat) :
    let alone := ∃ m : Nat, 0 < m ∧ w.span n = (List.range 8192).map fun k => signOf w.owner k * m
    let sum := ((w.span n).zipIdx.map fun p => signOf w.owner p.2 * p.1).sum
    (alone → w.offsetOf n ≤ 1369333 → w.gridScore n = 255) ∧
    (¬alone → (w.span n).length = 8192 → w.offsetOf n ≤ 1369333 →
      w.gridScore n = if sum ≤ 0 then 0 else min 255 (Config.scaled sum.toNat (w.span n))) ∧
    ((w.span n).length < 8192 ∨ 1369333 < w.offsetOf n → w.gridScore n = 0) := by
  intro alone sum
  have correlated : correlation w.owner 0 (w.span n) = sum := correlation_eq_sum ..
  refine ⟨fun isAlone early => Window.gridScore_alone ((w.aloneAt_iff n).2 ⟨isAlone, early⟩), fun isMixed length early => ?_,
    fun outside => ?_⟩
  · have mixed : w.aloneAt n = false := Bool.eq_false_iff.2 fun h => isMixed ((w.aloneAt_iff n).1 h).1
    rw [Window.gridScore_mixed mixed, correlated]
    refine if_congr ⟨?_, fun low => .inr (.inr low)⟩ rfl rfl
    rintro (short | late | low)
    · exact absurd length short.ne
    · exact absurd early (Nat.not_le.2 late)
    · exact low
  · have mixed : w.aloneAt n = false := Bool.eq_false_iff.2 fun h => by
      obtain ⟨⟨m, -, follows⟩, early⟩ := (w.aloneAt_iff n).1 h
      rcases outside with short | late
      · rw [follows] at short
        simp at short
      · omega
    rw [Window.gridScore_mixed mixed]
    exact if_pos (outside.imp_right .inl)

/-! ### Local maxima, peaks -/

/-- What the first of the values that differ says. -/
theorem find_all_iff (f : Nat → Nat) (N top : Nat) :
    ((((List.range N).map f).find? (· != top)).all fun x => decide (x < top)) = true ↔
      ∀ d < N, f d ≠ top → (∀ e < d, f e = top) → f d < top := by
  rw [Option.all_eq_true]
  simp only [decide_eq_true_iff, List.find?_map, Option.map_eq_some_iff, List.find?_range_eq_some]
  constructor
  · intro first d inside differs before
    exact first _ ⟨d, ⟨bne_iff_ne.2 differs, List.mem_range.2 inside, fun e lower => by simpa using before e lower⟩, rfl⟩
  · rintro all y ⟨d, ⟨differs, inside, before⟩, rfl⟩
    exact all d (List.mem_range.1 inside) (bne_iff_ne.1 differs) fun e lower => by simpa using before e lower

theorem Window.isMaximum_iff (w : Window) (n : Nat) :
    w.isMaximum n = true ↔
      0 < w.gridScore n ∧ (∀ k, k + 1 = n → w.standing k < w.standing n) ∧
      ∀ d < 24, w.standing (n + d + 1) ≠ w.standing n → (∀ e < d, w.standing (n + e + 1) = w.standing n) →
        w.standing (n + d + 1) < w.standing n := by
  have before : (n == 0 || decide (w.standing (n - 1) < w.standing n)) = true ↔
      ∀ k, k + 1 = n → w.standing k < w.standing n := by
    rw [Bool.or_eq_true, beq_iff_eq, decide_eq_true_iff]
    constructor
    · rintro (first | rises) k rfl
      · exact absurd first (Nat.succ_ne_zero k)
      · exact rises
    · intro all
      cases n with
      | zero => exact .inl rfl
      | succ k => exact .inr (all k rfl)
  unfold Window.isMaximum
  rw [Bool.and_eq_true, Bool.and_eq_true, decide_eq_true_iff, before, find_all_iff (fun d => w.standing (n + d + 1)), and_assoc]

theorem Window.scored_plain (h : w.isMaximum n = false) : w.scored n = ⟨w.offsetOf n, w.gridScore n⟩ :=
  if_neg (by rw [h]; exact Bool.false_ne_true)

theorem Window.scored_maximum (h : w.isMaximum n = true) : w.scored n = w.refined n := if_pos h

/-- What a peak writes in its window, given that the peaks held are of half the best at least (R39). -/
theorem Window.takePeak_spec (half : ∀ p ∈ w.peaks, w.best ≤ p.score * 2) (offset score : Nat) :
    (w.takePeak offset score).best = max w.best score ∧
    (w.takePeak offset score).peaks =
      if (max w.best score) ≤ score * 2 ∧ (w.peaks.filter fun p => decide (max w.best score ≤ p.score * 2)).length < 8 then
        (w.peaks.filter fun p => decide (max w.best score ≤ p.score * 2)) ++ [⟨offset, score⟩]
      else w.peaks.filter fun p => decide (max w.best score ≤ p.score * 2) := by
  by_cases higher : w.best < score
  · have kept : (w.peaks.filter fun p => decide (max w.best score ≤ p.score * 2)) =
        w.peaks.filter fun p => !(p.score * 2 < score) := by
      refine List.filter_congr fun p _ => ?_
      rw [max_eq_right higher.le, ← decide_not, decide_eq_decide]
      exact Nat.not_lt.symm
    rw [kept, max_eq_right higher.le]
    unfold Window.takePeak
    dsimp only
    rw [if_pos higher]
    dsimp only
    split <;> exact ⟨rfl, rfl⟩
  · have best : max w.best score = w.best := max_eq_left (Nat.not_lt.1 higher)
    have kept : (w.peaks.filter fun p => decide (max w.best score ≤ p.score * 2)) = w.peaks := by
      rw [best]
      exact List.filter_eq_self.2 fun p mem => decide_eq_true (half p mem)
    rw [kept, best]
    unfold Window.takePeak
    dsimp only
    rw [if_neg higher]
    dsimp only
    split <;> exact ⟨rfl, rfl⟩

theorem setSlot_published (i : Fin 2) (slot : Slot) (s : State) : published (setSlot i slot s) = published s :=
  published_same ⟨rfl, rfl⟩ ⟨rfl, rfl, rfl, rfl, rfl⟩ rfl (fun _ => ⟨rfl, rfl⟩) rfl rfl (fun _ => Iff.rfl) rfl

/-- CORRELATOR_PEAK at an open window: the peak is taken where it is one, and nothing happens otherwise. -/
theorem exec_correlatorPeak {i : Fin 2} (opened : s.probe.slots[i] = .opened w) (offset : Nat) (score : Byte) :
    exec (.correlatorPeak i offset score) s = .next
      (if peakPossible s w offset score.toNat = true then setSlot i (.opened (w.takePeak offset score.toNat)) s else s) := by
  have body : (match s.probe.slots[i] with
      | .opened w => if peakPossible s w offset score.toNat = true then setSlot i (.opened (w.takePeak offset score.toNat)) s else s
      | _ => s) =
      if peakPossible s w offset score.toNat = true then setSlot i (.opened (w.takePeak offset score.toNat)) s else s := by
    rw [opened]
  refine congrArg Host.Outcome.next ((congrArg (finishEvent s) body).trans (finishEvent_quiet ?_))
  split
  · exact setSlot_published ..
  · rfl

/-- Settles O34: the scores, the local maxima and the peaks of a window, and what CORRELATOR_PEAK makes of a peak. -/
theorem peakUpdatesWindow : Obligations.PeakUpdatesWindow := by
  refine ⟨fun w n => ?_, fun w n => ?_, fun w n => ?_, fun i offset score w img s opened image => ?_⟩
  · intro heard sign sum alone offset
    exact ⟨rfl, w.aloneAt_iff n, w.gridScore_spec n⟩
  · intro stands around
    refine ⟨w.isMaximum_iff n, Window.scored_plain, fun maximum alone => ?_, fun maximum alone => ?_⟩
    · rw [Window.scored_maximum maximum]
      exact if_pos alone
    · have refined : w.refined n = _ := if_neg (by rw [alone]; exact Bool.false_ne_true)
      rw [Window.scored_maximum maximum, refined]
      exact ⟨rfl, rfl⟩
  · exact ⟨w.isPeak_iff n, Window.isPeak_alone⟩
  · intro found
    have possible : peakPossible s w offset score.toNat = true ↔ ∃ n, found n := by
      rw [peakPossible_iff, image]
      exact ⟨fun ⟨high, beyond, n, rest⟩ => ⟨n, high, beyond, rest⟩, fun ⟨n, high, beyond, rest⟩ => ⟨high, beyond, n, rest⟩⟩
    refine ⟨fun none => ?_, fun n isFound law => ?_⟩
    · rw [exec_correlatorPeak opened, if_neg fun may => (possible.1 may).elim none]
    · have beyond := isFound.2.1
      have half := law.2.2.2.2.2.2.1
      obtain ⟨best, peaks⟩ := Window.takePeak_spec half offset score.toNat
      refine ⟨w.takePeak offset score.toNat, ?_, best, ?_, Window.takePeak_frame .., ?_⟩
      · rw [exec_correlatorPeak opened, if_pos (possible.2 ⟨n, isFound⟩)]
        rfl
      · rw [best]
        exact peaks
      · refine law.takePeak (by have := score.isLt; omega) fun l latest => ?_
        have := beyond l latest
        omega

end Sys2Proof.Machine
end

section
/-! PROOFS. RUN entry (R181, R52, R53, R82, R90, R92, R101, R118, R70, R71): the set-up of the solver, the first settings and
gains, the release of the channels and the first ALIGN. -/

namespace Sys2Proof.Machine

variable {s t u : State} {img : Image} {c : Fin 4} {ch : Channel}

/-! ### A hand-over where the mode alone moves -/

theorem handFrame_of_admission {f : Frame} (same : admission t f.body = admission s f.body) (bus : t.bus = s.bus)
    (counters : t.counters = s.counters) :
    (handFrame f t).bus = (handFrame f s).bus ∧ (handFrame f t).counters = (handFrame f s).counters := by
  unfold handFrame
  rw [same]
  split
  · exact ⟨congrArg (replaceFrame f) bus, counters⟩
  · exact ⟨congrArg (joinFrame f) bus, counters⟩
  · exact ⟨congrArg (fun b : Bus => joinFrame f { b with queue := b.queue.dropLast }) bus, bump_counters_congr _ counters⟩
  · exact ⟨bus, bump_counters_congr _ counters⟩

/-- Out of CONFLICT the mode does not meet the admission to the queue (R167). -/
theorem admission_moded (f : FrameBody) (bus : t.bus = s.bus) (was : s.stc.mode ≠ .conflict) (is : t.stc.mode ≠ .conflict) :
    admission t f = admission s f := by
  have mode : (t.stc.mode == .conflict) = (s.stc.mode == .conflict) := by
    rw [beq_eq_false_iff_ne.2 was, beq_eq_false_iff_ne.2 is]
  unfold admission
  rw [bus, mode]

/-! ### A silent channel takes its target, its setting and its gain at once -/

/-- A silent channel with nothing under way: settled, with no crossfade and no ramp. -/
structure Channel.Still (ch : Channel) : Prop where
  silent : ch.power.sounding = false
  crossfade : ch.crossfade = .idle
  ramp : ch.ramp = .idle
  factor : ch.factor = .of ch.gainTarget
  applied : ch.applied = ch.target * 4096
  slew : ch.slew = .settled

theorem ChannelLaws.still (laws : ChannelLaws ch) (silent : ch.power.sounding = false) : ch.Still := by
  obtain ⟨applied, slew, crossfade, ramp⟩ := laws.silent silent
  obtain ⟨-, ⟨-, -, -, factor, -, -, -⟩, -⟩ := laws
  exact ⟨silent, crossfade, ramp, factor ramp, applied, slew⟩

theorem Channel.Still.request (h : ch.Still) (w : Setting) : ch.request w = { ch with active := w } := by
  by_cases same : w = ch.active
  · rw [request_active same.symm h.crossfade, same]
  · rw [request_idle h.crossfade same, h.silent, if_neg Bool.false_ne_true]

theorem Channel.Still.retarget (h : ch.Still) (g : GainTarget) : ch.retarget g = { ch with gainTarget := g, factor := .of g } := by
  unfold Channel.retarget
  split
  · next same => rw [same, ← h.factor]
  · rw [h.silent, if_neg Bool.false_ne_true, ← h.ramp]

/-- The channel with a delay written in whole samples. -/
def Channel.placed (target : Nat) (jumps : BitVec 16) (ch : Channel) : Channel :=
  ch.delayed target (target * 4096) .settled jumps

theorem Channel.Still.takeTarget (h : ch.Still) (target : Nat) :
    ch.takeTarget target = ch.placed target (if target = ch.target then ch.jumps else satInc ch.jumps) := by
  by_cases same : target = ch.target
  · rw [takeTarget_same same.symm, if_pos same, same]
    unfold Channel.placed Channel.delayed
    rw [← h.applied, ← h.slew]
  · rw [takeTarget_silent same h.silent, if_neg same]
    rfl

/-- The channel as RUN entry leaves it before its release: a target, a setting and a gain target, all reached. -/
def Channel.settled (target : Nat) (jumps : BitVec 16) (w : Setting) (g : GainTarget) (ch : Channel) : Channel :=
  { ch.placed target jumps with active := w, gainTarget := g, factor := .of g }

/-- A shelf, a target, a setting and a gain target reach a still channel. -/
theorem Channel.Still.settles (h : ch.Still) (w₀ : Option Setting) (target : Nat) (w : Setting) (g : GainTarget) :
    (((w₀.elim ch fun v => ch.request v).takeTarget target).request w).retarget g =
      ch.settled target (if target = ch.target then ch.jumps else satInc ch.jumps) w g := by
  have first : ∃ a, (w₀.elim ch fun v => ch.request v) = { ch with active := a } := by
    cases w₀ with
    | none => exact ⟨ch.active, rfl⟩
    | some v => exact ⟨v, h.request v⟩
  obtain ⟨a, asked⟩ := first
  have still : ({ ch with active := a } : Channel).Still := ⟨h.silent, h.crossfade, h.ramp, h.factor, h.applied, h.slew⟩
  have placed := still.takeTarget target
  have still' (j : BitVec 16) : (({ ch with active := a } : Channel).placed target j).Still :=
    ⟨h.silent, h.crossfade, h.ramp, h.factor, rfl, rfl⟩
  have still'' (j : BitVec 16) : ({ ({ ch with active := a } : Channel).placed target j with active := w } : Channel).Still :=
    ⟨h.silent, h.crossfade, h.ramp, h.factor, rfl, rfl⟩
  rw [asked, placed, (still' _).request, (still'' _).retarget]
  rfl

/-! ### Channels released (R118) -/

/-- No channel's mark of a wake loss stands, and nothing has been counted. -/
def Uncounted (s t : State) : Prop :=
  t.counters = s.counters ∧ t.probe.round = .idle ∧ ∀ c : Fin 4, t.channels[c].wakeLoss = false

theorem repowered_uncounted {p : Power} {cause : Option FaultCause} (kept : s.channels[c].wakeLoss = false) :
    (repowered c p cause s).counters = s.counters := by
  unfold repowered
  rw [kept, if_neg (fun lost => Bool.false_ne_true lost.2)]
  show s.counters.set _ (satIncBy 0 _) = s.counters
  unfold satIncBy
  simp

theorem uncounted_stable (s : State) : PowerStable (Uncounted s) := by
  rintro u c p cause - ⟨counters, idle, kept⟩
  by_cases same : u.channels[c].power = p
  · rw [setPower, if_pos same]
    exact ⟨counters, idle, kept⟩
  · have rests : followed c p (repowered c p cause u) = repowered c p cause u := by
      unfold followed
      split
      · rw [probeFollows_eq, show (repowered c p cause u).probe.round = .idle from idle]
        rfl
      · rfl
    have moved := setPower_followed (cause := cause) same
    rw [rests] at moved
    refine ⟨?_, ?_, fun d => ?_⟩
    · rw [moved, repowered_uncounted (kept c), counters]
    · rw [moved]
      exact idle
    · by_cases here : d = c
      · rw [here]
        exact (setPower_spared (kept c)).2
      · rw [((setPower_acts u p cause).one (SameView.refl u) c).2 d here]
        exact kept d

/-- The power state of a channel released from STANDBY. -/
theorem released_power (serves : s.serving = true) (standby : ch.power = .standby) :
    (ch.released s c).power =
      if s.inEmergency || !s.autoStandby c || (s.level.present && ch.gainTarget != .silence) then
        (if ch.ready then .active else .waking)
      else .standby := by
  have muted : ch.muted = !(ch.gainTarget != .silence) := by
    unfold Channel.muted bne
    rw [Bool.not_not]
  have wants : ch.wants s c = !(s.inEmergency || !s.autoStandby c || (s.level.present && ch.gainTarget != .silence)) := by
    unfold Channel.wants
    rw [serves, muted]
    generalize s.inEmergency = a, s.autoStandby c = b, s.level.present = d, (ch.gainTarget != .silence) = e
    revert a b d e
    decide
  have silence : (s.inEmergency = true ∨ s.autoStandby c = false ∨ (!s.level.present || ch.muted) = false) ↔
      (s.inEmergency || !s.autoStandby c || (s.level.present && ch.gainTarget != .silence)) = true := by
    rw [muted]
    simp [or_assoc]
  unfold Channel.released
  by_cases leaves : (s.inEmergency || !s.autoStandby c || (s.level.present && ch.gainTarget != .silence)) = true
  · rw [if_pos (silence.2 leaves), if_pos leaves, woken_power]
    unfold Channel.wakingPower Channel.activePower
    rw [wants, leaves]
    rfl
  · rw [if_neg (mt silence.1 leaves), if_neg leaves, standby]

theorem released_sound (ch : Channel) : SameSound ch (ch.released s c) := by
  unfold Channel.released
  split
  · exact woken_sound ch
  · exact .refl ch

/-! ### The set-up of the solver (R52, R53) -/

/-- The request that a new shelf makes. -/
def shelfRequest (img : Image) (s t : State) (c : Fin 4) : Option Setting :=
  if t.eq.shelf = s.eq.shelf then none
  else
    some (if s.serving then
        .eq (if s.emc.emergency then img.channels[c].evacPreset else s.channels[c].preset) t.eq.shelf
       else .flat)

theorem afterShelf_eq (img : Image) (s t : State) (c : Fin 4) :
    afterShelf img s t c = (shelfRequest img s t c).elim s.channels[c] fun w => s.channels[c].request w := by
  unfold afterShelf shelfRequest
  split <;> rfl

/-- The solver after its set-up, before the trigger of a delay station. -/
def solverBegun (img : Image) (v : Solver) : Solver :=
  if img.kind = .origin then
    { v with state := .origin, rank := 0, winner := none, delay := img.originDelay, path := 0 }
  else
    { v with
      state := .fallback, rank := 15, winner := none, range := false, delay := img.fallbackDelay, path := img.fallbackDelay
      settle := some (v.settle.getD 200000) }

/-- What the set-up of the solver leaves: the bands, the shelf and the channels follow. -/
theorem solverSetup_spec (image : s.image = some img) (kind : s.stc.kind = some img.kind) (run : s.stc.mode = .run)
    (formed : FormedLaw s) :
    let t := solverSetup s
    t.solver = solverBegun img s.solver ∧ BandFollowsPath s t ∧ ShelfFollowsBands img s t ∧
    (∀ c : Fin 4, ∃ w₀ : Option Setting, t.channels[c] =
      (w₀.elim s.channels[c] fun w => s.channels[c].request w).takeTarget
        ((t.solver.delay * 48 + 500) / 1000 + img.channels[c].trim)) ∧
    t = { s with solver := t.solver, eq := t.eq, channels := t.channels } := by
  intro t
  have placed {x : State} (eq : x.solver.delay = t.solver.delay) (c : Fin 4) :
      afterPass img s x c = (afterShelf img s x c).takeTarget ((t.solver.delay * 48 + 500) / 1000 + img.channels[c].trim) := by
    unfold afterPass
    rw [eq]
    split
    · next same =>
      refine (takeTarget_same ?_).symm
      have held : (afterShelf img s x c).target = s.channels[c].target := by
        unfold afterShelf
        split
        · rfl
        · exact (request_keepsDelay _ _).1
      rw [held, formed img image c, same]
    · rw [if_neg (by rw [run]; exact Mode.noConfusion)]
  have follows (c : Fin 4) {x : State} (channels : x.channels[c] = afterPass img s x c) (eq : x.solver.delay = t.solver.delay) :
      ∃ w₀ : Option Setting, x.channels[c] =
        (w₀.elim s.channels[c] fun w => s.channels[c].request w).takeTarget
          ((t.solver.delay * 48 + 500) / 1000 + img.channels[c].trim) :=
    ⟨_, channels.trans ((placed eq c).trans (congrArg _ (afterShelf_eq img s x c)))⟩
  cases station : img.kind with
  | origin =>
    have isOrigin : s.stc.kind = some .origin := kind.trans (congrArg some station)
    have begun : t = setPathTime 0 (setDelayTarget img.originDelay (s.modSolver fun v =>
        { v with state := .origin, rank := 0, winner := none })) := by
      refine (if_pos isOrigin).trans ?_
      rw [image]
      rfl
    obtain ⟨solver, band, -, shelf, channels, frame⟩ :=
      retargeted_spec (s := s.modSolver fun v => { v with state := .origin, rank := 0, winner := none }) img.originDelay 0 image
    rw [← begun] at solver band shelf channels frame
    refine ⟨?_, band, shelf, fun c => follows c (channels c) rfl, frame⟩
    rw [solver]
    unfold solverBegun
    rw [if_pos station]
    rfl
  | delay =>
    have isDelay : s.stc.kind = some .delay := kind.trans (congrArg some station)
    have begun : t = trigger (setPathTime img.fallbackDelay (setDelayTarget img.fallbackDelay (s.modSolver fun v =>
        { v with state := .fallback, rank := 15, winner := none, range := false }))) := by
      refine (if_neg (by rw [isDelay]; decide)).trans ?_
      rw [image]
      rfl
    obtain ⟨solver, band, -, shelf, channels, frame⟩ :=
      retargeted_spec (s := s.modSolver fun v => { v with state := .fallback, rank := 15, winner := none, range := false })
        img.fallbackDelay img.fallbackDelay image
    generalize setPathTime img.fallbackDelay _ = x at begun solver band shelf channels frame
    have serves : s.serving = true := by
      unfold State.serving
      rw [run]
      rfl
    have triggered : t = { x with solver := { x.solver with settle := some (x.solver.settle.getD 200000) } } := by
      rw [begun, trigger_eq, if_pos]
      rw [frame]
      exact ⟨isDelay, serves⟩
    refine ⟨?_, ?_, ?_, fun c => ?_, ?_⟩
    · rw [triggered, solver]
      unfold solverBegun
      rw [if_neg (by rw [station]; exact StationKind.noConfusion)]
      rfl
    · rw [triggered]
      exact band
    · rw [triggered]
      exact shelf
    · have same : x.solver.delay = t.solver.delay := by rw [triggered]
      have channelsT : t.channels = x.channels := by rw [triggered]
      rw [channelsT]
      exact follows c (channels c) same
    · rw [triggered]
      rw [frame]
      rfl

/-! ### RUN entry up to the release of the channels -/

/-- The gain target that a station in service gives a channel (R101). -/
def serviceGain (img : Image) (emergency : Bool) (c : Fin 4) (ch : Channel) : GainTarget :=
  if emergency then .gain img.channels[c].evacGain else if ch.storedMute then .silence else .gain ch.storedGain

/-- The setting that a station in service gives a channel (R94). -/
def serviceSetting (img : Image) (emergency : Bool) (shelf : Option Shelf) (c : Fin 4) (ch : Channel) : Setting :=
  .eq (if emergency then img.channels[c].evacPreset else ch.preset) shelf

/-- The stored settings of a channel. -/
structure SameStored (a b : Channel) : Prop where
  preset : b.preset = a.preset
  storedGain : b.storedGain = a.storedGain
  storedMute : b.storedMute = a.storedMute

theorem request_stored (w : Setting) (ch : Channel) : SameStored ch (ch.request w) := by
  rw [request_rest]
  exact ⟨rfl, rfl, rfl⟩

theorem takeTarget_stored (target : Nat) (ch : Channel) : SameStored ch (ch.takeTarget target) := by
  rw [takeTarget_eq]
  split
  · exact ⟨rfl, rfl, rfl⟩
  · split <;> exact ⟨rfl, rfl, rfl⟩

theorem SameStored.trans {a b d : Channel} (h : SameStored a b) (h' : SameStored b d) : SameStored a d :=
  ⟨h'.preset.trans h.preset, h'.storedGain.trans h.storedGain, h'.storedMute.trans h.storedMute⟩

theorem elim_stored (w₀ : Option Setting) (ch : Channel) : SameStored ch (w₀.elim ch fun w => ch.request w) := by
  cases w₀ with
  | none => exact ⟨rfl, rfl, rfl⟩
  | some w => exact request_stored w ch

theorem retargetAll_line (s : State) :
    forChannels retargetChannel s = { s with channels := (forChannels retargetChannel s).channels } := rfl

theorem firstSettings_line (s : State) :
    forChannels retargetChannel (requestAll s) = { s with channels := (forChannels retargetChannel (requestAll s)).channels } := by
  have first := requestAll_line s
  have second := retargetAll_line (requestAll s)
  generalize forChannels retargetChannel (requestAll s) = t at second
  rw [first] at second
  exact second

theorem wanted_service (image : s.image = some img) (serves : s.serving = true) (ch : Channel) :
    ch.wanted s c = serviceSetting img s.emc.emergency s.eq.shelf c ch := by
  rw [wanted_eq image rfl rfl, serves, if_pos rfl]
  rfl

theorem gainWanted_service (image : s.image = some img) (serves : s.serving = true) (ch : Channel) :
    ch.gainWanted s c = serviceGain img s.emc.emergency c ch := by
  unfold Channel.gainWanted serviceGain State.inEmergency
  rw [serves, if_pos rfl, image]
  rfl

/-- The first settings and gains of a channel that was still before the set-up of the solver. -/
theorem settled_channel (image : s.image = some img) (serves : s.serving = true) (still : ch.Still) {w₀ : Option Setting}
    {target : Nat} (formed : s.channels[c] = (w₀.elim ch fun w => ch.request w).takeTarget target) :
    ∃ j, (forChannels retargetChannel (requestAll s)).channels[c] =
      ch.settled target j (serviceSetting img s.emc.emergency s.eq.shelf c ch) (serviceGain img s.emc.emergency c ch) := by
  have stored : SameStored ch s.channels[c] := by
    rw [formed]
    exact (elim_stored w₀ _).trans (takeTarget_stored _ _)
  have wanted : s.channels[c].wanted s c = serviceSetting img s.emc.emergency s.eq.shelf c ch := by
    rw [wanted_service image serves]
    unfold serviceSetting
    rw [stored.preset]
  have asked : (requestAll s).channels[c] =
      s.channels[c].request (serviceSetting img s.emc.emergency s.eq.shelf c ch) := by
    rw [requestAll_get, wanted]
  have stored' : SameStored ch (requestAll s).channels[c] := by
    rw [asked]
    exact stored.trans (request_stored _ _)
  have gain : (requestAll s).channels[c].gainWanted (requestAll s) c = serviceGain img s.emc.emergency c ch := by
    rw [gainWanted_service (s := requestAll s) image serves]
    unfold serviceGain
    rw [stored'.storedMute, stored'.storedGain]
    rfl
  exact ⟨_, by rw [retargetAll_get, gain, asked, formed, still.settles]⟩

/-- What RUN entry has made of the station before it releases the channels. -/
structure Settled (img : Image) (s r : State) : Prop where
  solver : r.solver = solverBegun img s.solver
  band : BandFollowsPath s r
  shelf : ShelfFollowsBands img s r
  channel : ∀ c : Fin 4, ∃ j, r.channels[c] =
    s.channels[c].settled ((r.solver.delay * 48 + 500) / 1000 + img.channels[c].trim) j
      (serviceSetting img s.emc.emergency r.eq.shelf c s.channels[c]) (serviceGain img s.emc.emergency c s.channels[c])
  frame : r = { s with
    stc := { s.stc with mode := .run, claim := none }, solver := r.solver, eq := r.eq, channels := r.channels }

/-- The passes of the first settings and gains after the set-up. -/
theorem settled_of_setup {x : State} (still : ∀ c : Fin 4, s.channels[c].Still) (image : s.image = some img)
    (solver : x.solver = solverBegun img s.solver) (band : BandFollowsPath s x) (shelf : ShelfFollowsBands img s x)
    (channels : ∀ c : Fin 4, ∃ w₀ : Option Setting, x.channels[c] =
      (w₀.elim s.channels[c] fun w => s.channels[c].request w).takeTarget
        ((x.solver.delay * 48 + 500) / 1000 + img.channels[c].trim))
    (frame : x = { s with
      stc := { s.stc with mode := .run, claim := none }, solver := x.solver, eq := x.eq, channels := x.channels }) :
    Settled img s (forChannels retargetChannel (requestAll x)) := by
  have line := firstSettings_line x
  have imageX : x.image = some img := by rw [frame]; exact image
  have emcX : x.emc = s.emc := by rw [frame]
  have serves : x.serving = true := by
    unfold State.serving
    rw [frame]
    rfl
  have channel (c : Fin 4) := (channels c).elim fun w₀ formed => settled_channel imageX serves (still c) formed
  rw [emcX] at channel
  generalize forChannels retargetChannel (requestAll x) = r at line channel
  have eq : r.eq = x.eq := by rw [line]
  have solverR : r.solver = x.solver := by rw [line]
  constructor
  case solver => exact solverR.trans solver
  case band =>
    unfold BandFollowsPath at band ⊢
    rw [solverR, eq]
    exact band
  case shelf =>
    unfold ShelfFollowsBands at shelf ⊢
    rw [eq]
    exact shelf
  case channel =>
    intro c
    rw [solverR, eq]
    exact channel c
  case frame =>
    rw [line]
    rw [frame]

/-- What RUN entry rests on: the image, and channels, round and solver at rest. -/
structure ReadyToRun (img : Image) (s : State) : Prop where
  image : s.image = some img
  kind : s.stc.kind = some img.kind
  formed : FormedLaw s
  still : ∀ c : Fin 4, s.channels[c].Still
  standby : ∀ c : Fin 4, s.channels[c].power = .standby
  spared : ∀ c : Fin 4, s.channels[c].wakeLoss = false
  idle : s.probe.round = .idle
  settle : s.solver.settle = none
  hold : s.solver.hold = .stopped

theorem Lawful.readyToRun (lawful : Lawful s) (mode : s.stc.mode = .announce) (image : s.image = some img) :
    ReadyToRun img s := by
  obtain ⟨-, -, kind, -⟩ := lawful.start
  obtain ⟨-, standby, -⟩ := lawful.held
  obtain ⟨rests, -⟩ := lawful.round
  obtain ⟨rank, -⟩ := lawful.rank
  obtain ⟨-, -, settle, hold⟩ := SolverRank.resting rank (by simp [State.serving, mode])
  have power (c : Fin 4) : s.channels[c].power = .standby := (standby (.inr mode) c).1
  exact {
    image := image
    kind := by rw [kind, image]; rfl
    formed := lawful.formed
    still := fun c => (lawful.channel c).still (by rw [power c]; rfl)
    standby := power
    spared := fun c => by
      obtain ⟨-, -, -, -, -, marked⟩ := (lawful.channel c).power
      exact Bool.eq_false_iff.2 fun lost => Power.noConfusion ((power c).symm.trans (marked lost))
    idle := (rests (by rw [mode]; exact Mode.noConfusion)).1
    settle := settle
    hold := hold }

/-- Neither the line nor the counters nor the contests of a number meet RUN entry. -/
theorem ReadyToRun.same (h : ReadyToRun img s) (stc : t.stc.kind = s.stc.kind) (image : t.image = s.image)
    (channels : t.channels = s.channels) (probe : t.probe = s.probe) (solver : t.solver = s.solver) : ReadyToRun img t := by
  obtain ⟨image', kind, formed, still, standby, spared, idle, settle, hold⟩ := h
  refine ⟨image.trans image', stc.trans kind, ?_, ?_, ?_, ?_, ?_, ?_, ?_⟩
  · unfold FormedLaw
    rw [image, channels, solver]
    exact formed
  · rw [channels]
    exact still
  · rw [channels]
    exact standby
  · rw [channels]
    exact spared
  · rw [probe]
    exact idle
  · rw [solver]
    exact settle
  · rw [solver]
    exact hold

theorem runSettled_settled (ready : ReadyToRun img s) : Settled img s (runSettled s) := by
  obtain ⟨solver, band, shelf, channels, frame⟩ := solverSetup_spec
    (s := s.modStc fun c => { c with mode := .run, claim := none }) ready.image ready.kind rfl ready.formed
  exact settled_of_setup ready.still ready.image solver band shelf channels frame

end Sys2Proof.Machine
end

section
/-! PROOFS. The claim timer runs out: the station enters service (R181). -/

namespace Sys2Proof.Machine

variable {s t r : State} {img : Image} {c : Fin 4} {ch : Channel}

/-- A pass of power changes, while no round runs and no wake is lost, moves the channels alone. -/
theorem powerPass_only {f : Fin 4 → State → State}
    (stable : ∀ {P : State → Prop}, PowerStable P → ∀ (c : Fin 4) {u : State}, P u → P (f c u))
    (idle : r.probe.round = .idle) (kept : ∀ c : Fin 4, r.channels[c].wakeLoss = false) :
    forChannels f r = { r with channels := (forChannels f r).channels } := by
  have only : OnlyChannels r (forChannels f r) := PowerStable.pass (fun c _ => stable (onlyChannels_stable idle) c) (.refl r)
  have spared : Uncounted r (forChannels f r) := PowerStable.pass (fun c _ => stable (uncounted_stable r) c) ⟨rfl, idle, kept⟩
  have frame := only.frame
  rw [spared.1] at frame
  exact frame

/-- What RUN entry makes of the station, but for the first ALIGN. -/
structure Released (img : Image) (s u : State) : Prop where
  solver : u.solver = solverBegun img s.solver
  band : BandFollowsPath s u
  shelf : ShelfFollowsBands img s u
  channel : ∀ c : Fin 4, ∃ j, SameSound
    (s.channels[c].settled ((u.solver.delay * 48 + 500) / 1000 + img.channels[c].trim) j
      (serviceSetting img s.emc.emergency u.eq.shelf c s.channels[c]) (serviceGain img s.emc.emergency c s.channels[c]))
    u.channels[c]
  power : ∀ c : Fin 4, u.channels[c].power =
    if s.emc.emergency || !img.channels[c].autoStandby ||
        (s.level.present && serviceGain img s.emc.emergency c s.channels[c] != .silence) then
      (if s.channels[c].ready then .active else .waking)
    else .standby
  frame : u = { s with
    stc := { s.stc with mode := .run, claim := none }, solver := u.solver, eq := u.eq, channels := u.channels }

theorem runReleased_released (ready : ReadyToRun img s) : Released img s (runReleased s) := by
  have settled := runSettled_settled ready
  have released (c : Fin 4) : (runReleased s).channels[c] = (runSettled s).channels[c].released (runSettled s) c :=
    releaseAll_get (runSettled s) c
  have line := settled.frame
  have kept (c : Fin 4) : (runSettled s).channels[c].wakeLoss = false := by
    obtain ⟨j, channel⟩ := settled.channel c
    rw [channel]
    exact ready.spared c
  have only := powerPass_only (r := runSettled s) (fun stable c _ => stable.releaseChannel c) (by rw [line]; exact ready.idle) kept
  unfold runReleased at released ⊢
  generalize forChannels releaseChannel (runSettled s) = u at released only
  generalize runSettled s = r at settled released only line
  have eq : u.eq = r.eq := by rw [only]
  have solver : u.solver = r.solver := by rw [only]
  have serves : r.serving = true := by
    unfold State.serving
    rw [line]
    rfl
  constructor
  case solver => exact solver.trans settled.solver
  case band =>
    have band := settled.band
    unfold BandFollowsPath at band ⊢
    rw [solver, eq]
    exact band
  case shelf =>
    have shelf := settled.shelf
    unfold ShelfFollowsBands at shelf ⊢
    rw [eq]
    exact shelf
  case channel =>
    intro c
    obtain ⟨j, channel⟩ := settled.channel c
    refine ⟨j, ?_⟩
    rw [released, solver, eq, ← channel]
    exact released_sound _
  case power =>
    intro c
    obtain ⟨j, channel⟩ := settled.channel c
    have alone : r.channels[c].power = .standby := by
      rw [channel]
      exact ready.standby c
    rw [released, released_power serves alone, channel]
    have inEmergency : r.inEmergency = s.emc.emergency := by rw [line]; rfl
    have auto : r.autoStandby c = img.channels[c].autoStandby := by
      unfold State.autoStandby
      rw [line, ready.image]
      rfl
    have level : r.level = s.level := by rw [line]
    rw [inEmergency, auto, level]
    rfl
  case frame =>
    rw [only]
    rw [line]

/-- Channels, bands and solver of a station that has entered service. -/
theorem Released.entersService (h : Released img s t) (ready : ReadyToRun img s) {u : State}
    (solver : u.solver = { t.solver with seq := u.solver.seq, handed := true, refresh := u.solver.refresh })
    (eq : u.eq = t.eq) (channels : u.channels = t.channels) : EntersService img s u := by
  have settle := ready.settle
  have hold := ready.hold
  have begun := h.solver
  refine ⟨fun delay => ?_, fun origin => ?_, by rw [solver], ?_, ?_, ?_, ?_, ?_, ?_, fun c => ?_, fun c => ?_⟩
  · have other : img.kind ≠ .origin := by rw [delay]; exact StationKind.noConfusion
    rw [solver, begun]
    unfold solverBegun
    rw [if_neg other, settle]
    exact ⟨rfl, rfl, rfl, rfl, rfl, rfl, rfl⟩
  · rw [solver, begun]
    unfold solverBegun
    rw [if_pos origin]
    exact ⟨rfl, rfl, rfl, rfl, rfl, settle⟩
  · rw [solver, begun]
    unfold solverBegun
    split <;> rfl
  · rw [solver, begun]
    unfold solverBegun
    split <;> rfl
  · rw [solver, begun]
    unfold solverBegun
    split <;> rfl
  · rw [solver, begun, ← hold]
    unfold solverBegun
    split <;> rfl
  · have band := h.band
    unfold BandFollowsPath at band ⊢
    rw [solver, eq]
    exact band
  · have shelf := h.shelf
    unfold ShelfFollowsBands at shelf ⊢
    rw [eq]
    exact shelf
  · obtain ⟨j, sound⟩ := h.channel c
    have delay : u.solver.delay = t.solver.delay := by rw [solver]
    rw [delay, channels, eq, sound]
    exact ⟨rfl, rfl, rfl, rfl, rfl, rfl, rfl, rfl⟩
  · obtain ⟨j, sound⟩ := h.channel c
    have gain : u.channels[c].gainTarget = serviceGain img s.emc.emergency c s.channels[c] := by rw [channels, sound]; rfl
    rw [gain, channels]
    exact h.power c

theorem handFrame_line (f : Frame) (s : State) :
    handFrame f s = { s with bus := (handFrame f s).bus, counters := (handFrame f s).counters } := by
  unfold handFrame
  split <;> rfl

theorem exec_claimTimerExpiry (mode : s.stc.mode = .announce) (runs : s.stc.claim.isSome = true) :
    exec .claimTimerExpiry s = .next (enterRun s) := congrArg Host.Outcome.next (if_pos ⟨mode, runs⟩)

/-- The first ALIGN is composed of the state that RUN entry leaves, and handed on the line that stood before. -/
def FirstAlign (s t : State) : Prop :=
  ∃ r : AlignRecord, t.bus = (handFrame ⟨s.number, 63, .align r⟩ s).bus ∧
    t.counters = (handFrame ⟨s.number, 63, .align r⟩ s).counters ∧ t.solver.seq = r.seq ∧
    (s.solver.handed = false → r.seq = 0) ∧ r.solver = t.solver.state ∧ r.rank = BitVec.ofNat 4 t.solver.rank ∧
    r.delay = BitVec.ofNat 24 t.solver.delay ∧ r.path = BitVec.ofNat 24 t.solver.path ∧ r.flags = alignFlags t ∧
    r.temperature = (if s.air.state = .valid then some (BitVec.ofInt 16 s.air.temperature) else none)

/-- The station has entered RUN (R181). -/
structure RunEntered (img : Image) (s t : State) : Prop where
  stc : t.stc = { s.stc with mode := .run, claim := none }
  image : t.image = s.image
  service : EntersService img s t
  align : FirstAlign s t
  refresh : t.solver.refresh = some (img.refresh * 1000000)
  probe : t.probe = { s.probe with timer := some (5000000 + s.stc.unit.toNat % 32 * 1000000) }
  rest : t.peers = s.peers ∧ t.selfRec = s.selfRec ∧ t.air = s.air ∧ t.delay = s.delay ∧ t.level = s.level ∧
    t.cue = s.cue ∧ t.emc = s.emc ∧ t.timeBase = s.timeBase ∧ t.freeCount = s.freeCount ∧ t.pending = s.pending

theorem enterRun_entered (ready : ReadyToRun img s) (mode : s.stc.mode = .announce) : RunEntered img s (enterRun s) := by
  have image := ready.image
  have released := runReleased_released ready
  have line := released.frame
  have entered := enterRun_eq s
  generalize runReleased s = u at released line entered
  have stcU : u.stc = { s.stc with mode := .run, claim := none } := by rw [line]
  have jitter : u.jitter = s.stc.unit.toNat % 32 * 1000000 := by
    unfold State.jitter
    rw [stcU]
  rw [jitter] at entered
  generalize timed : (u.modProbe fun p => { p with timer := some (5000000 + s.stc.unit.toNat % 32 * 1000000) }) = v at entered
  have lineV : v = { u with probe := { u.probe with timer := some (5000000 + s.stc.unit.toNat % 32 * 1000000) } } := timed.symm
  have busV : v.bus = s.bus := by rw [lineV, line]
  have countersV : v.counters = s.counters := by rw [lineV, line]
  have stcV : v.stc = { s.stc with mode := .run, claim := none } := by rw [lineV, line]
  have imageV : v.image = some img := by rw [lineV, line]; exact image
  have numberV : v.number = s.number := by
    unfold State.number
    rw [stcV]
  have handed := handAlign_eq v
  have flags := handAlign_flags v
  rw [← entered] at handed flags
  rw [numberV, imageV] at handed
  obtain ⟨state, rank, delay, path, alignFlags, -, -, temperature, first, -⟩ := composeAlign_composed v
  obtain ⟨bus, counters⟩ := handFrame_of_admission (f := ⟨s.number, 63, .align (composeAlign v)⟩)
    (admission_moded _ busV (by rw [mode]; exact Mode.noConfusion) (by rw [stcV]; exact Mode.noConfusion)) busV countersV
  have frame := handFrame_line ⟨s.number, 63, .align (composeAlign v)⟩ v
  rw [bus, counters] at frame
  rw [frame] at handed
  have solver : (enterRun s).solver = { u.solver with
      seq := (enterRun s).solver.seq, handed := true, refresh := (enterRun s).solver.refresh } := by
    rw [handed, lineV]
  have eq : (enterRun s).eq = u.eq := by rw [handed, lineV]
  have channels : (enterRun s).channels = u.channels := by rw [handed, lineV]
  have seq : (enterRun s).solver.seq = (composeAlign v).seq := by rw [handed]
  have solverV : (enterRun s).solver = { v.solver with
      seq := (enterRun s).solver.seq, handed := true, refresh := (enterRun s).solver.refresh } := by
    rw [handed]
  constructor
  case stc => rw [handed, stcV]
  case image => rw [handed, imageV, image]
  case service => exact released.entersService ready solver eq channels
  case align =>
    refine ⟨composeAlign v, ?_, ?_, seq, fun unhanded => first ?_, ?_, ?_, ?_, ?_, alignFlags.trans flags.symm, ?_⟩
    · rw [handed]
    · rw [handed]
    · rw [← unhanded, lineV]
      show u.solver.handed = _
      rw [released.solver]
      unfold solverBegun
      split <;> rfl
    · rw [solverV, state]
    · rw [solverV, rank]
    · rw [solverV, delay]
    · rw [solverV, path]
    · rw [temperature, lineV, line]
  case refresh =>
    rw [handed]
    rfl
  case probe => rw [handed, lineV, line]
  case rest =>
    rw [handed, lineV, line]
    exact ⟨rfl, rfl, rfl, rfl, rfl, rfl, rfl, rfl, rfl, rfl⟩

/-- Settles O9: RUN entry, from the set-up of the solver to the first ALIGN. -/
theorem claimExpiryEntersRun : Obligations.ClaimExpiryEntersRun := by
  intro s img lawful mode image
  obtain ⟨-, -, -, -, claim, -⟩ := lawful.start
  obtain ⟨stc, image', service, align, refresh, probe, rest⟩ := enterRun_entered (lawful.readyToRun mode image) mode
  exact ⟨enterRun s, exec_claimTimerExpiry mode (claim.2 mode), stc, image', service, align, refresh, probe, rest⟩

end Sys2Proof.Machine
end

section
/-! PROOFS. A valid image is installed in every block and the station enters ANNOUNCE (R180, R20, R21, R104). -/

namespace Sys2Proof.Machine

variable {s t : State} {img : Image} {c : Fin 4} {ch : Channel} {header rest : List Byte} {left : Nat}

/-! ### The image in the blocks -/

/-- The station with the image in every block, before the air shelf is looked up. -/
def filled (img : Image) (s : State) : State :=
  { s with
    image := some img
    peers := tabulate 16 fun i => installEntry img.bindings[i] s.stc.kept[i]
    air := { s.air with temperature := img.defaultTemp }
    solver := { s.solver with offset := img.offset }
    eq := { s.eq with pathBand := some (plainPathBand s.solver.path), humidityBand := some img.defaultBand }
    channels := (forChannels (fun c s => s.modChannel c (installChannel img c)) s).channels
    cue := { s.cue with memory := Cells.ofList 0#8 0 img.cueBytes } }

theorem installImage_filled (img : Image) (s : State) : installImage img s = refreshShelf (filled img s) := rfl

theorem filled_channel (img : Image) (s : State) (c : Fin 4) :
    (filled img s).channels[c] = installChannel img c s.channels[c] :=
  ((ActsAt.mod (s₀ := s) (installChannel img)).all (SameView.refl s)).2 c

/-- The station as it hands the ROLL of ANNOUNCE. -/
def announced (img : Image) (s : State) : State :=
  formTargets ((installImage img s).modStc fun c =>
    { c with
      mode := .announce
      identity := some (img.id, img.length)
      kind := some img.kind
      claim := some 500000
      reading := .none
      kept := Vector.replicate 16 none })

theorem enterAnnounce_announced (img : Image) (s : State) : enterAnnounce img s = handRoll (announced img s) := rfl

theorem announced_line (img : Image) (s : State) :
    announced img s =
      { filled img s with
        stc := { s.stc with
          mode := .announce, identity := some (img.id, img.length), kind := some img.kind, claim := some 500000
          reading := .none, kept := Vector.replicate 16 none }
        eq := (refreshShelf (filled img s)).eq
        channels := (announced img s).channels } := by
  have shelf := refreshShelf_line (filled img s)
  unfold announced
  rw [formTargets_line, installImage_filled]
  generalize refreshShelf (filled img s) = u at shelf
  dsimp only
  generalize (formTargets _).channels = v
  rw [shelf]
  rfl

/-- Where nothing is served, a new shelf makes no channel ask for another setting than FLAT (R93, R94). -/
theorem shelved_unserved (serves : t.serving = false) (flat : ch.active = .flat) (idle : ch.crossfade = .idle) :
    ch.shelved s t c = ch := by
  have wanted : ch.wanted t c = .flat := by
    unfold Channel.wanted
    rw [serves]
    rfl
  unfold Channel.shelved
  split
  · rfl
  · rw [wanted, request_active flat idle]

/-- A channel as ANNOUNCE leaves it: the stored values of the image, and the target of the trim (R76, R104). -/
theorem announced_channel (lawful : Lawful s) (mode : s.stc.mode = .loading) (c : Fin 4) :
    (announced img s).channels[c] =
      { s.channels[c] with
        storedGain := img.channels[c].startGain
        storedMute := img.channels[c].startMute
        preset := 0
        target := img.channels[c].trim
        applied := img.channels[c].trim * 4096
        jumps := if img.channels[c].trim = 0 then s.channels[c].jumps else satInc s.channels[c].jumps } := by
  obtain ⟨unserved, standby, zero, -⟩ := lawful.held
  obtain ⟨power, flat, -⟩ := standby (.inl mode) c
  have target := zero (.inl mode) c
  have serves : s.serving = false := by
    unfold State.serving
    rw [mode]
    rfl
  have delay : s.solver.delay = 0 := (unserved serves).1
  have still : s.channels[c].Still := (lawful.channel c).still (by rw [power]; rfl)
  have stored : (installChannel img c s.channels[c]).Still :=
    ⟨still.silent, still.crossfade, still.ramp, still.factor, still.applied, still.slew⟩
  have shelf := refreshShelf_line (filled img s)
  have shelved : (refreshShelf (filled img s)).channels[c] = installChannel img c s.channels[c] := by
    have unserved' : (refreshShelf (filled img s)).serving = false := by
      unfold State.serving
      rw [shelf]
      exact serves
    rw [refreshShelf_channel, filled_channel]
    exact shelved_unserved unserved' flat still.crossfade
  unfold announced
  rw [installImage_filled, formTargets_get, formedTarget_eq (img := img) (by rw [shelf]; rfl)]
  show ((refreshShelf (filled img s)).channels[c]).takeTarget
    (if Mode.announce = Mode.configFault then 0
      else ((refreshShelf (filled img s)).solver.delay * 48 + 500) / 1000 + img.channels[c].trim) = _
  have delay' : (refreshShelf (filled img s)).solver.delay = 0 := by
    rw [shelf]
    exact delay
  rw [if_neg Mode.noConfusion, shelved, delay', show (0 * 48 + 500) / 1000 + img.channels[c].trim = img.channels[c].trim from
    Nat.zero_add _, stored.takeTarget]
  show Channel.mk .. = Channel.mk ..
  congr 1
  · exact still.slew.symm
  · show (if img.channels[c].trim = s.channels[c].target then _ else _) = _
    rw [target]
    rfl

/-! ### The command -/

theorem exec_imageRead_valid (mode : s.stc.mode = .loading) (reading : s.stc.reading = .body header left)
    (length : rest.length = field header 2 2 - 10) (checked : checkImage s.number (header ++ rest) = .ok img) :
    exec (.imageReadComplete rest) s = .next (enterAnnounce img s) := by
  show execImageReadComplete rest s = _
  simp only [execImageReadComplete, mode, reading, ← length, Nat.lt_irrefl, if_false, List.take_length, checked]

theorem exec_imageRead_invalid {reason : FaultReason} (mode : s.stc.mode = .loading)
    (reading : s.stc.reading = .body header left) (length : rest.length = field header 2 2 - 10)
    (checked : checkImage s.number (header ++ rest) = .error reason) :
    exec (.imageReadComplete rest) s = .next (enterConfigFault reason s) := by
  show execImageReadComplete rest s = _
  simp only [execImageReadComplete, mode, reading, ← length, Nat.lt_irrefl, if_false, List.take_length, checked]

/-- An entry installed for its binding, with the lists kept for it (R2, R20, R21). -/
theorem installEntry_fields (b : Binding) (kept : Option KeptLists) :
    let e := installEntry b kept
    e.binding = b ∧ e.peer = b.singleStation ∧ e.state = .waiting ∧ e.record = none ∧ e.unread = false ∧ e.age = none ∧
    e.lastMark = none ∧ e.flights.misses = 0 ∧ e.flights.stale = false ∧
    (∀ k, kept = some k → b = .single k.station → e.flights.history = k.history ∧ e.flights.suspects = k.suspects) ∧
    ((∀ k, kept = some k → b ≠ .single k.station) → e.flights.history = [] ∧ e.flights.suspects = []) := by
  cases b with
  | unused => exact ⟨rfl, rfl, rfl, rfl, rfl, rfl, rfl, rfl, rfl, fun _ _ h => Binding.noConfusion h, fun _ => ⟨rfl, rfl⟩⟩
  | pool lo hi => exact ⟨rfl, rfl, rfl, rfl, rfl, rfl, rfl, rfl, rfl, fun _ _ h => Binding.noConfusion h, fun _ => ⟨rfl, rfl⟩⟩
  | single st =>
    cases kept with
    | none => exact ⟨rfl, rfl, rfl, rfl, rfl, rfl, rfl, rfl, rfl, fun k held => absurd held.symm (Option.some_ne_none k), fun _ => ⟨rfl, rfl⟩⟩
    | some k =>
      by_cases same : k.station = st
      · have entry : installEntry (.single st) (some k) =
            { PeerEntry.blank (.single st) (some st) with
              flights := { (PeerEntry.blank (.single st) (some st)).flights with
                history := k.history, suspects := k.suspects } } := if_pos same
        rw [entry]
        refine ⟨rfl, rfl, rfl, rfl, rfl, rfl, rfl, rfl, rfl, ?_, fun other => absurd (by rw [same]) (other k rfl)⟩
        rintro _ ⟨⟩ _
        exact ⟨rfl, rfl⟩
      · have entry : installEntry (.single st) (some k) = PeerEntry.blank (.single st) (some st) := if_neg same
        rw [entry]
        refine ⟨rfl, rfl, rfl, rfl, rfl, rfl, rfl, rfl, rfl, ?_, fun _ => ⟨rfl, rfl⟩⟩
        rintro _ ⟨⟩ single
        exact absurd (Binding.single.inj single).symm same

/-- A ROLL handed in a new mode, told over the line that stood before (R182). -/
theorem handRoll_moded {a : State} (bus : a.bus = s.bus) (counters : a.counters = s.counters)
    (straps : a.stc.straps = s.stc.straps) (station : isStation s.number = true) (was : s.stc.mode ≠ .conflict)
    (loading : a.stc.mode ≠ .loading) (conflict : a.stc.mode ≠ .conflict) :
    handRoll a =
      { a with
        bus := (handFrame ⟨s.number, 63, .roll (composeRoll a)⟩ s).bus
        counters := (handFrame ⟨s.number, 63, .roll (composeRoll a)⟩ s).counters } := by
  have number : a.number = s.number := by
    unfold State.number
    rw [straps]
  have handed : handRoll a = handFrame ⟨s.number, 63, .roll (composeRoll a)⟩ a := by
    unfold handRoll
    rw [number, if_neg]
    rintro (h | h | h)
    · exact loading h
    · exact conflict h
    · exact Bool.noConfusion (station.symm.trans h)
  obtain ⟨sameBus, sameCounters⟩ := handFrame_of_admission (f := ⟨s.number, 63, .roll (composeRoll a)⟩)
    (admission_moded _ bus was conflict) bus counters
  rw [← sameBus, ← sameCounters, handed]
  exact handFrame_line _ a

/-- Settles O8: a valid image, block by block, and the ROLL of ANNOUNCE. -/
theorem validImageEntersAnnounce : Obligations.ValidImageEntersAnnounce := by
  intro s h rest l img lawful mode reading length checked
  obtain ⟨-, -, -, -, -, -, fault, number⟩ := lawful.start
  have runs := exec_imageRead_valid mode reading length checked
  have sound : s.stc.reason = .none := by
    by_contra other
    exact Mode.noConfusion (mode.symm.trans (fault.1 other))
  have station : isStation s.number = true := number.resolve_right (by rw [mode]; exact Mode.noConfusion)
  obtain ⟨unserved, -⟩ := lawful.held
  have path : s.solver.path = 0 := (unserved (by unfold State.serving; rw [mode]; rfl)).2
  have channels := announced_channel (img := img) lawful mode
  have line := announced_line img s
  have eq := refreshShelf_eq (filled img s)
  have looked := lookupShelf_eq (s := filled img s) (img := img) (p := 0) (h := img.defaultBand) rfl
    (by show some (plainPathBand s.solver.path) = _; rw [path]; rfl) rfl
  have entered := enterAnnounce_announced img s
  generalize announced img s = a at channels line entered
  generalize refreshShelf (filled img s) = u at line eq
  have stcA : a.stc = { s.stc with
      mode := .announce, identity := some (img.id, img.length), kind := some img.kind, claim := some 500000
      reading := .none, kept := Vector.replicate 16 none } := by rw [line]
  have busA : a.bus = s.bus := by rw [line]; rfl
  have countersA : a.counters = s.counters := by rw [line]; rfl
  have eqA : a.eq = u.eq := by rw [line]
  have final := handRoll_moded busA countersA (by rw [stcA]) station (by rw [mode]; exact Mode.noConfusion)
    (by rw [stcA]; exact Mode.noConfusion) (by rw [stcA]; exact Mode.noConfusion)
  rw [← entered] at final
  have bus := congrArg State.bus final
  have counters := congrArg State.counters final
  generalize enterAnnounce img s = t at final bus counters entered runs
  have peersT : t.peers = tabulate 16 fun i => installEntry img.bindings[i] s.stc.kept[i] := by rw [final, line]; rfl
  have cueT : t.cue = { s.cue with memory := Cells.ofList 0#8 0 img.cueBytes } := by rw [final, line]; rfl
  have eqT : t.eq = u.eq := by rw [final, eqA]
  refine ⟨t, ?_, ?_, ?_, fun i => ?_, ?_, ?_, fun b => ?_, ?_, ?_, ?_, ?_, ?_, fun c => ?_, ?_, ?_, ?_, ?_, ?_⟩
  · exact runs
  · rw [final, stcA]
  · rw [final, line]; rfl
  · rw [peersT, tabulate_get]
    exact installEntry_fields _ _
  · rw [final, line]; rfl
  · rw [final, line]; rfl
  · unfold cueByte
    rw [cueT]
    have := Cells.read_ofList (d := 0#8) (l := img.cueBytes) (a := 0) (c := b)
    rwa [Nat.zero_add] at this
  · rw [cueT]
  · rw [cueT]
  · rw [cueT]
  · rw [cueT]
  · rw [cueT]
  · have channelsT : t.channels = a.channels := by rw [final]
    rw [channelsT]
    exact channels c
  · rw [eqT, eq]
    show some (plainPathBand s.solver.path) = _
    rw [path]
    rfl
  · rw [eqT, eq]
    rfl
  · rw [eqT, eq]
    show (lookupShelf (filled img s)).map (·.1) = _
    rw [looked]
    cases findCell img.absorption img.defaultBand 0 <;> rfl
  · refine ⟨composeRoll a, ?_, ?_, ?_, ?_, ?_, ?_, bus, counters⟩
    · show a.stc.unit = _
      rw [stcA]
    · show a.stc.identity.elim 0 (·.1) = _
      rw [stcA]
      rfl
    · show BitVec.ofNat 8 a.stc.mode.code = _
      rw [stcA]
      rfl
    · show (a.stc.mode == .configFault) = _
      rw [stcA]
      rfl
    · show BitVec.ofNat 4 a.stc.reason.code = _
      rw [stcA]
      dsimp only
      rw [sound]
      rfl
    · show a.ownAlarm = _
      unfold State.ownAlarm
      rw [stcA, line]
      rfl
  · rw [final, line]
    exact ⟨rfl, rfl, rfl, rfl, rfl, rfl, rfl, rfl⟩

end Sys2Proof.Machine
end

section
/-! PROOFS. CONFIG_FAULT entry from LOADING (R186, R1, R21, R52, R83, R106, R120, R182), and the checks of the image header
(R178). -/

namespace Sys2Proof.Machine

variable {s t : State} {reason : FaultReason} {c : Fin 4}

theorem faulted_line (reason : FaultReason) (s : State) :
    faulted reason s =
      { s with
        stc := { s.stc with
          mode := .configFault, reason := reason, identity := none, kind := none, claim := none, reading := .none
          kept := Vector.replicate 16 none }
        image := none, peers := Vector.replicate 16 (PeerEntry.blank .unused none), solver := Solver.reset } := rfl

/-- In LOADING no channel has a target, a setting or a gain target of its own. -/
theorem loading_mute (lawful : Lawful s) (mode : s.stc.mode = .loading) (c : Fin 4) : s.channels[c].Mute := by
  obtain ⟨-, standby, target, -⟩ := lawful.held
  obtain ⟨power, flat, silence⟩ := standby (.inl mode) c
  obtain ⟨-, -, idle, -⟩ := (lawful.channel c).silent (by rw [power]; rfl)
  exact ⟨⟨target (.inl mode) c, ⟨flat, idle⟩⟩, silence⟩

/-- The station at CONFIG_FAULT entry, before the ROLL: in EMERGENCY every channel wakes at 0.0 dB (R106, R120). -/
structure Faulted (reason : FaultReason) (s a : State) : Prop where
  frame : a = { faulted reason s with channels := a.channels }
  calm : s.emc.emergency = false → a.channels = s.channels
  alarm : s.emc.emergency = true → ∀ c : Fin 4,
    a.channels[c].target = 0 ∧ a.channels[c].applied = 0 ∧ a.channels[c].active = .flat ∧
    a.channels[c].gainTarget = .gain 160 ∧ a.channels[c].factor = .of (.gain 160) ∧
    a.channels[c].power = (if s.channels[c].ready then .active else .waking) ∧ a.channels[c].enable = true

theorem enterConfigFault_faulted (lawful : Lawful s) (mode : s.stc.mode = .loading) (reason : FaultReason) :
    ∃ a, Faulted reason s a ∧ enterConfigFault reason s = handRoll a := by
  have mute := loading_mute lawful mode
  cases emergency : s.emc.emergency with
  | false =>
    exact ⟨faulted reason s, ⟨rfl, fun _ => rfl, fun alarm => Bool.noConfusion (emergency.symm.trans alarm)⟩,
      enterConfigFault_mute reason mute emergency⟩
  | true =>
    obtain ⟨-, standby, -⟩ := lawful.held
    obtain ⟨quiet, -⟩ := lawful.calm
    have retargeted := retargetAll_line (faulted reason s)
    have wanted (c : Fin 4) : (forChannels retargetChannel (faulted reason s)).channels[c] = s.channels[c].retarget (.gain 160) := by
      rw [retargetAll_get]
      have gain : (faulted reason s).channels[c].gainWanted (faulted reason s) c = .gain 160 := by
        unfold Channel.gainWanted
        rw [faulted_not_serving, if_neg Bool.false_ne_true]
        exact if_pos ⟨rfl, emergency⟩
      rw [gain]
      rfl
    have entered := enterConfigFault_vacant reason fun c => (mute c).toVacant
    rw [if_pos emergency] at entered
    have woken (c : Fin 4) := wakeAll_get (forChannels retargetChannel (faulted reason s)) c
    have kept (c : Fin 4) : (forChannels retargetChannel (faulted reason s)).channels[c].wakeLoss = false := by
      rw [wanted, retarget_rest]
      obtain ⟨-, -, -, -, -, marked⟩ := (lawful.channel c).power
      exact Bool.eq_false_iff.2 fun lost => Power.noConfusion ((standby (.inl mode) c).1.symm.trans (marked lost))
    have only := powerPass_only (r := forChannels retargetChannel (faulted reason s)) (fun stable c _ => stable.enterWaking c)
      (by rw [retargeted]; exact (quiet emergency).1) kept
    refine ⟨_, ⟨?_, fun calm => Bool.noConfusion (emergency.symm.trans calm), fun _ c => ?_⟩, entered⟩
    · generalize forChannels enterWaking _ = a at only
      rw [retargeted] at only
      exact only
    · have laws := lawful.channel c
      obtain ⟨power, flat, -⟩ := standby (.inl mode) c
      have target := (mute c).target
      have applied := (laws.silent (by rw [power]; rfl)).1
      rw [woken c, wanted c, woken_fault laws power (by rw [retargeted]; rfl) (by rw [retargeted]; rfl)]
      exact ⟨target, by rw [← Nat.zero_mul 4096, ← target]; exact applied, flat, rfl, rfl, rfl, rfl⟩

theorem enterConfigFault_enters (lawful : Lawful s) (mode : s.stc.mode = .loading) (reason : FaultReason) :
    EntersConfigFault reason s (enterConfigFault reason s) := by
  obtain ⟨a, faulted, entered⟩ := enterConfigFault_faulted lawful mode reason
  obtain ⟨-, -, -, -, -, -, -, number⟩ := lawful.start
  have station : isStation s.number = true := number.resolve_right (by rw [mode]; exact Mode.noConfusion)
  have line := faulted.frame
  rw [faulted_line] at line
  have stc : a.stc = { s.stc with
      mode := .configFault, reason := reason, identity := none, kind := none, claim := none, reading := .none
      kept := Vector.replicate 16 none } := by rw [line]
  have handed := handRoll_moded (a := a) (s := s) (by rw [line]) (by rw [line]) (by rw [stc]) station
    (by rw [mode]; exact Mode.noConfusion) (by rw [stc]; exact Mode.noConfusion) (by rw [stc]; exact Mode.noConfusion)
  rw [← entered] at handed
  have channels : (enterConfigFault reason s).channels = a.channels := by rw [handed]
  refine ⟨?_, ?_, fun i => ?_, ?_, fun calm => ?_, fun alarm c => ?_,
    ⟨composeRoll a, ?_, ?_, ?_, ?_, ?_, ?_, ?_, ?_⟩, ?_⟩
  · rw [handed, stc]
  · rw [handed, line]
  · have peers : (enterConfigFault reason s).peers = Vector.replicate 16 (PeerEntry.blank .unused none) := by
      rw [handed, line]
    rw [peers]
    simp
  · rw [handed, line]
  · rw [channels, faulted.calm calm]
  · rw [channels]
    exact faulted.alarm alarm c
  · show a.stc.unit = _
    rw [stc]
  · show a.stc.identity.elim 0 (·.1) = _
    rw [stc]
    rfl
  · show BitVec.ofNat 8 a.stc.mode.code = _
    rw [stc]
    rfl
  · show (a.stc.mode == .configFault) = _
    rw [stc]
    rfl
  · show BitVec.ofNat 4 a.stc.reason.code = _
    rw [stc]
  · show a.ownAlarm = _
    unfold State.ownAlarm
    rw [stc, line]
  · rw [handed]
  · rw [handed]
  · rw [handed, line]
    exact ⟨rfl, rfl, rfl, rfl, rfl, rfl, rfl, rfl, rfl, rfl, rfl⟩

/-! ### The header and the time-out (R178) -/

theorem exec_imageHeaderRead {h : List Byte} {l : Nat} (mode : s.stc.mode = .loading) (reading : s.stc.reading = .header l)
    (length : h.length = 10) :
    exec (.imageHeaderRead h) s = .next
      (if checkHeader h = .none then s.modStc fun c => { c with reading := .body h 100000 }
       else enterConfigFault (checkHeader h) s) := by
  have whole : h.take 10 = h := List.take_of_length_le length.le
  show execImageHeaderRead h s = _
  simp only [execImageHeaderRead, mode, reading, length, Nat.lt_irrefl, if_false, whole]

theorem exec_imageReadTimeout (mode : s.stc.mode = .loading) (reading : s.stc.reading ≠ .none) :
    exec .imageReadTimeout s = .next (enterConfigFault .noImage s) := by
  show execImageReadTimeout s = _
  cases read : s.stc.reading with
  | none => exact absurd read reading
  | header l => simp only [execImageReadTimeout, mode, read]
  | body h l => simp only [execImageReadTimeout, mode, read]

theorem checkHeader_badCookie {h : List Byte} (cookie : field h 0 2 ≠ 0x6C3E) : checkHeader h = .badCookie := if_pos cookie

theorem checkHeader_badLength {h : List Byte} (cookie : field h 0 2 = 0x6C3E)
    (length : field h 2 2 < 1100 ∨ 4096 < field h 2 2) : checkHeader h = .badLength :=
  (if_neg (not_not.2 cookie)).trans (if_pos length)

theorem checkHeader_good {h : List Byte} (cookie : field h 0 2 = 0x6C3E) (low : 1100 ≤ field h 2 2)
    (high : field h 2 2 ≤ 4096) : checkHeader h = .none :=
  (if_neg (not_not.2 cookie)).trans (if_neg (by omega))

end Sys2Proof.Machine
end

section
/-! PROOFS. The checks of an image (R179, R200, R201): which bytes pass check 6 and what they give, and checks 7 to 11 entry by
entry. -/

namespace Sys2Proof.Machine

variable {b : List Byte} {own : Nat}

/-! ### Bytes and lists -/

theorem field_drop (b : List Byte) (k offset size : Nat) : field (b.drop k) offset size = field b (k + offset) size := by
  unfold field
  rw [List.drop_drop]

theorem field_byte (b : List Byte) (offset : Nat) : field b offset 1 ≤ 255 := by
  unfold field
  cases b.drop offset with
  | nil => exact Nat.zero_le _
  | cons x xs =>
    have value : valueBE ((x :: xs).take 1) = x.toNat := by simp [valueBE]
    rw [value]
    have := x.isLt
    omega

/-- All of a range of optional values, each given under a condition of its own. -/
theorem allSome_range_iff {α : Type} {n : Nat} {f : Nat → Option α} {ok : Nat → Prop} {val : Nat → α}
    (each : ∀ i < n, ∀ x, f i = some x ↔ ok i ∧ x = val i) (r : List α) :
    allSome ((List.range n).map f) = some r ↔ (∀ i < n, ok i) ∧ r = (List.range n).map val := by
  constructor
  · intro all
    obtain ⟨length, at_⟩ := allSome_range all
    have got (i : Nat) (inside : i < n) : ok i ∧ r[i]? = some (val i) := by
      have some_ := at_ i inside
      rw [List.getElem?_eq_getElem (length ▸ inside)] at some_
      obtain ⟨good, value⟩ := (each i inside _).1 some_
      exact ⟨good, by rw [List.getElem?_eq_getElem (length ▸ inside), value]⟩
    refine ⟨fun i inside => (got i inside).1, List.ext_getElem? fun i => ?_⟩
    by_cases inside : i < n
    · rw [(got i inside).2, List.getElem?_map, List.getElem?_range inside]
      rfl
    · rw [List.getElem?_eq_none (by omega), List.getElem?_eq_none (by simp; omega)]
  · rintro ⟨good, rfl⟩
    rw [allSome_eq_some_iff, List.map_map]
    exact List.map_congr_left fun i mem => (each i (List.mem_range.1 mem) _).2 ⟨good i (List.mem_range.1 mem), rfl⟩

/-! ### The parts of an image -/

theorem guarded_iff {α : Type} {p : Bool} {q : Prop} {v x : α} (h : p = true ↔ q) :
    (if p then some v else none) = some x ↔ q ∧ x = v := by
  rw [Option.ite_none_right_eq_some, h, Option.some_inj, eq_comm (a := v)]

theorem parseStage_iff (b : List Byte) (x : Stage) : parseStage b = some x ↔ StageInRange b ∧ x = stageAt b := by
  unfold parseStage StageInRange stageAt
  generalize field b 0 1 = kind, field b 1 2 = f, field b 3 1 = g, field b 4 1 = q
  match kind with
  | 0 => simp [eq_comm]
  | 1 =>
    refine guarded_iff ?_
    simp only [Bool.and_eq_true, within_iff]
    exact ⟨fun ⟨⟨freq, gain⟩, width⟩ => ⟨by decide, fun _ => freq, fun _ _ => gain.2, fun _ => width⟩,
      fun ⟨_, freq, gain, width⟩ => ⟨⟨freq (le_refl 1), Nat.zero_le _, gain (le_refl 1) (by decide)⟩, width trivial⟩⟩
  | 2 => exact guarded_iff (by simp only [Bool.and_eq_true, within_iff]; omega)
  | 3 => exact guarded_iff (by simp only [Bool.and_eq_true, within_iff]; omega)
  | 4 => exact guarded_iff (by simp only [within_iff]; omega)
  | 5 => exact guarded_iff (by simp only [within_iff]; omega)
  | n + 6 => exact iff_of_false (Option.some_ne_none x).symm fun ⟨⟨inside, _⟩, _⟩ => by omega

/-- The presets of a channel section. -/
def presetsAt (b : List Byte) : List (List Stage) :=
  (List.range 4).map fun q => (List.range 5).map fun j => stageAt (b.drop (9 + 25 * q + 5 * j))

theorem parsePreset_iff (b : List Byte) (x : List Stage) :
    parsePreset b = some x ↔
      (∀ j < 5, StageInRange (b.drop (5 * j))) ∧ x = (List.range 5).map fun j => stageAt (b.drop (5 * j)) :=
  allSome_range_iff (n := 5) (f := fun j => parseStage (b.drop (5 * j))) (fun _ _ x => parseStage_iff _ x) x

theorem parsePresets_iff (b : List Byte) (x : List (List Stage)) :
    allSome ([9, 34, 59, 84].map fun o => parsePreset (b.drop o)) = some x ↔
      (∀ q < 4, ∀ j < 5, StageInRange (b.drop (9 + 25 * q + 5 * j))) ∧ x = presetsAt b := by
  refine allSome_range_iff (n := 4) (f := fun q => parsePreset (b.drop (9 + 25 * q)))
    (ok := fun q => ∀ j < 5, StageInRange (b.drop (9 + 25 * q + 5 * j))) (fun q _ x => ?_) x
  simp only [parsePreset_iff, List.drop_drop]

/-- A channel section, as far as its ranges go. -/
def channelAt (b : List Byte) : ChannelImage where
  trim := field b 0 2
  autoStandby := field b 2 1 == 1
  wakeLimit := field b 3 2
  startGain := field b 5 1
  startMute := field b 6 1 == 1
  evacPreset := field b 7 1
  evacGain := field b 8 1
  presets := presetsAt b

theorem parseChannel_iff (b : List Byte) (x : ChannelImage) : parseChannel b = some x ↔ ChannelInRange b ∧ x = channelAt b := by
  have presets := parsePresets_iff b
  unfold parseChannel
  cases read : allSome ([9, 34, 59, 84].map fun o => parsePreset (b.drop o)) with
  | none =>
    have bad : ¬∀ q < 4, ∀ j < 5, StageInRange (b.drop (9 + 25 * q + 5 * j)) := fun good =>
      absurd (read.symm.trans ((presets _).2 ⟨good, rfl⟩)) (Option.some_ne_none _).symm
    exact iff_of_false (Option.some_ne_none x).symm fun ⟨⟨_, _, _, _, _, _, _, _, good⟩, _⟩ => bad good
  | some l =>
    obtain ⟨good, rfl⟩ := (presets l).1 read
    have ranges : (within 0 960 (field b 0 2) && within 0 1 (field b 2 1) && within 50 2000 (field b 3 2) &&
        within 0 184 (field b 5 1) && within 0 1 (field b 6 1) && within 0 3 (field b 7 1) &&
        within 0 184 (field b 8 1)) = true ↔ ChannelInRange b := by
      unfold ChannelInRange
      simp only [Bool.and_eq_true, within_iff, Nat.zero_le, true_and, and_assoc]
      refine ⟨fun ⟨h1, h2, h3, h4, h5, h6, h7, h8⟩ => ⟨h1, h2, h3, h4, h5, h6, h7, h8, good⟩,
        fun ⟨h1, h2, h3, h4, h5, h6, h7, h8, _⟩ => ⟨h1, h2, h3, h4, h5, h6, h7, h8⟩⟩
    dsimp only
    split
    · next inside => exact ⟨fun same => ⟨ranges.1 inside, (Option.some.inj same).symm⟩, fun ⟨_, same⟩ => by rw [same]; rfl⟩
    · next outside => exact iff_of_false (Option.some_ne_none x).symm fun ⟨inside, _⟩ => outside (ranges.2 inside)

/-- A cell of the absorption table. -/
def cellAt (b : List Byte) : Option Shelf := if field b 0 1 = 255 then none else some ⟨field b 0 1, field b 1 1⟩

theorem parseCell_iff (b : List Byte) (x : Option Shelf) :
    parseCell b = some x ↔ (field b 0 1 = 255 ∨ field b 0 1 ≤ 48 ∧ field b 1 1 ≤ 3) ∧ x = cellAt b := by
  unfold parseCell cellAt
  dsimp only
  split
  · next unused => simp [unused, eq_comm]
  · next used =>
    refine guarded_iff ?_
    simp only [Bool.and_eq_true, within_iff]
    omega

theorem parseRow_iff (b : List Byte) (x : List (Option Shelf)) :
    parseRow b = some x ↔
      (∀ h < 4, field (b.drop (2 * h)) 0 1 = 255 ∨ field (b.drop (2 * h)) 0 1 ≤ 48 ∧ field (b.drop (2 * h)) 1 1 ≤ 3) ∧
        x = (List.range 4).map fun h => cellAt (b.drop (2 * h)) :=
  allSome_range_iff (n := 4) (f := fun h => parseCell (b.drop (2 * h))) (fun _ _ x => parseCell_iff _ x) x

/-- The binding that three bytes give. -/
def bindingAt (b : List Byte) : Binding :=
  if field b 0 1 = 0 then .unused
  else if field b 0 1 = 1 then .single (field b 1 1)
  else .pool (field b 1 1) (field b 2 1)

theorem parseBinding_iff (b : List Byte) (x : Binding) :
    parseBinding b = some x ↔
      (field b 0 1 ≤ 2 ∧ (field b 0 1 = 1 → 1 ≤ field b 1 1 ∧ field b 1 1 ≤ 62)) ∧ x = bindingAt b := by
  unfold parseBinding bindingAt isStation
  generalize field b 0 1 = kind
  match kind with
  | 0 => simp [eq_comm]
  | 1 =>
    refine guarded_iff ?_
    rw [Bool.and_eq_true, decide_eq_true_iff, decide_eq_true_iff]
    exact ⟨fun good => ⟨by decide, fun _ => good⟩, fun ⟨_, good⟩ => good rfl⟩
  | 2 => simp [eq_comm]
  | n + 3 => simp

/-! ### The image -/

theorem stationFieldsOk_iff (b : List Byte) : stationFieldsOk b = true ↔ StationInRange b := by
  have byte := field_byte b 33
  have strength := field_byte b 32
  unfold stationFieldsOk StationInRange
  simp only [Bool.and_eq_true, within_iff, decide_eq_true_iff]
  omega

/-- The image that bytes give whose fields are in range (R200, R201). -/
def imageAt (b : List Byte) : Image where
  id := BitVec.ofNat 32 (field b 4 4)
  length := field b 2 2
  kind := if field b 10 1 = 1 then .origin else .delay
  originDelay := field b 11 3
  fallbackDelay := field b 14 3
  offset := field b 17 1
  deadband := field b 18 2
  slewCode := field b 20 1
  refresh := field b 21 1
  staleLimit := field b 22 1
  lostLimit := field b 23 2
  holdLimit := field b 25 2
  jumpLimit := field b 27 1
  probeInterval := field b 28 2
  probeChannel := Fin.ofNat 4 (field b 30 1)
  probeLevel := field b 31 1
  threshold := field b 32 1
  micLatency := field b 33 1
  defaultTemp := signedField b 34
  defaultBand := field b 36 1
  silenceLevel := field b 37 1
  standbyDelay := field b 38 2
  bindings := Vector.ofFn fun i : Fin 16 => bindingAt (b.drop (40 + 3 * i))
  channels := Vector.ofFn fun c : Fin 4 => channelAt (b.drop (88 + 109 * c))
  absorption := (List.range 8).map fun p => (List.range 4).map fun h => cellAt ((b.drop (524 + 8 * p)).drop (2 * h))
  cueBytes := (b.drop 588).take 512

theorem vectorOf_range {α : Type} (n : Nat) (f : Nat → α) :
    vectorOf n ((List.range n).map f) = some (Vector.ofFn fun i : Fin n => f i) := by
  obtain ⟨v, read⟩ := vectorOf_isSome (n := n) (l := (List.range n).map f) (by simp)
  rw [read, Option.some_inj]
  refine Vector.ext fun i inside => ?_
  have got := get_of_toList (vectorOf_toList read) ⟨i, inside⟩
  rw [List.getElem?_map, List.getElem?_range inside] at got
  simpa using (Option.some.inj got).symm

theorem parseBindings_iff (b : List Byte) (r : List Binding) :
    allSome ((List.range 16).map fun i => parseBinding (b.drop (40 + 3 * i))) = some r ↔
      (∀ i < 16, field b (40 + 3 * i) 1 ≤ 2 ∧
        (field b (40 + 3 * i) 1 = 1 → 1 ≤ field b (41 + 3 * i) 1 ∧ field b (41 + 3 * i) 1 ≤ 62)) ∧
      r = (List.range 16).map fun i => bindingAt (b.drop (40 + 3 * i)) := by
  refine allSome_range_iff (fun i _ x => ?_) r
  rw [parseBinding_iff, field_drop, field_drop, Nat.add_zero, Nat.add_right_comm 40]

theorem parseRows_iff (b : List Byte) (r : List (List (Option Shelf))) :
    allSome ((List.range 8).map fun p => parseRow (b.drop (524 + 8 * p))) = some r ↔
      (∀ p < 8, ∀ h < 4, field b (524 + 8 * p + 2 * h) 1 = 255 ∨
        field b (524 + 8 * p + 2 * h) 1 ≤ 48 ∧ field b (525 + 8 * p + 2 * h) 1 ≤ 3) ∧
      r = (List.range 8).map fun p => (List.range 4).map fun h => cellAt ((b.drop (524 + 8 * p)).drop (2 * h)) := by
  refine allSome_range_iff (ok := fun p => ∀ h < 4, field b (524 + 8 * p + 2 * h) 1 = 255 ∨
    field b (524 + 8 * p + 2 * h) 1 ≤ 48 ∧ field b (525 + 8 * p + 2 * h) 1 ≤ 3) (fun p _ x => ?_) r
  have corner (h : Nat) : 524 + 8 * p + (2 * h + 1) = 525 + 8 * p + 2 * h := by omega
  simp only [parseRow_iff, field_drop, Nat.add_zero, corner]

theorem readImage_iff (b : List Byte) (img : Image) : readImage b = some img ↔ FieldsInRange b ∧ img = imageAt b := by
  have channels (r : List ChannelImage) := allSome_range_iff (n := 4) (f := fun c => parseChannel (b.drop (88 + 109 * c)))
    (fun _ _ x => parseChannel_iff _ x) r
  constructor
  · intro read
    unfold readImage at read
    split at read
    · next station =>
      split at read
      · next bs cs rows hb hc hr =>
        obtain ⟨bindingsOk, rfl⟩ := (parseBindings_iff b bs).1 hb
        obtain ⟨channelsOk, rfl⟩ := (channels cs).1 hc
        obtain ⟨rowsOk, rfl⟩ := (parseRows_iff b rows).1 hr
        rw [vectorOf_range, vectorOf_range] at read
        exact ⟨⟨(stationFieldsOk_iff b).1 station, bindingsOk, channelsOk, rowsOk⟩, (Option.some.inj read).symm⟩
      · cases read
    · cases read
  · rintro ⟨⟨station, bindingsOk, channelsOk, rowsOk⟩, rfl⟩
    unfold readImage
    rw [if_pos ((stationFieldsOk_iff b).2 station), (parseBindings_iff b _).2 ⟨bindingsOk, rfl⟩,
      (channels _).2 ⟨channelsOk, rfl⟩, (parseRows_iff b _).2 ⟨rowsOk, rfl⟩]
    dsimp only
    rw [vectorOf_range, vectorOf_range]
    rfl

theorem readImage_none (bad : ¬FieldsInRange b) : readImage b = none := by
  cases read : readImage b with
  | none => rfl
  | some img => exact absurd ((readImage_iff b img).1 read).1 bad

/-! ### Checks 7 to 11, entry by entry (R179) -/

theorem checkImage_read (cookie : field b 0 2 = 0x6C3E) (low : 1100 ≤ field b 2 2) (high : field b 2 2 ≤ 4096)
    (crc : imageCrcAgrees b = true) (inRange : FieldsInRange b) :
    checkImage own b =
      if 3 < field b 30 1 then .error .probeChannel
      else if field b 23 2 ≤ field b 22 1 then .error .badLimits
      else if !((imageAt b).bindings.toList.all poolOk) then .error .poolRange
      else if (imageAt b).singles.contains own then .error .selfBinding
      else if hasDuplicate (imageAt b).singles then .error .duplicateSingle
      else .ok (imageAt b) := by
  unfold checkImage
  rw [checkHeader_good cookie low high, crc, (readImage_iff b _).2 ⟨inRange, rfl⟩]
  rfl

theorem bindings_toList (b : List Byte) :
    (imageAt b).bindings.toList = (List.range 16).map fun i => bindingAt (b.drop (40 + 3 * i)) :=
  vectorOf_toList (vectorOf_range 16 fun i => bindingAt (b.drop (40 + 3 * i)))

theorem bindingAt_eq (b : List Byte) (i : Nat) :
    bindingAt (b.drop (40 + 3 * i)) =
      if field b (40 + 3 * i) 1 = 0 then .unused
      else if field b (40 + 3 * i) 1 = 1 then .single (field b (41 + 3 * i) 1)
      else .pool (field b (41 + 3 * i) 1) (field b (42 + 3 * i) 1) := by
  unfold bindingAt
  rw [field_drop, field_drop, field_drop, Nat.add_zero, Nat.add_right_comm 40 (3 * i) 1, Nat.add_right_comm 40 (3 * i) 2]

/-- The station that a binding is bound to by its kind and byte 1. -/
theorem single_at (b : List Byte) (i : Nat) :
    (bindingAt (b.drop (40 + 3 * i))).singleStation =
      if field b (40 + 3 * i) 1 = 1 then some (field b (41 + 3 * i) 1) else none := by
  rw [bindingAt_eq]
  by_cases unused : field b (40 + 3 * i) 1 = 0
  · rw [if_pos unused, unused]
    rfl
  · rw [if_neg unused]
    by_cases single : field b (40 + 3 * i) 1 = 1
    · rw [if_pos single, if_pos single]
      rfl
    · rw [if_neg single, if_neg single]
      rfl

theorem poolOk_at {i : Nat} (kind : field b (40 + 3 * i) 1 ≤ 2) :
    poolOk (bindingAt (b.drop (40 + 3 * i))) = true ↔
      (field b (40 + 3 * i) 1 = 2 →
        1 ≤ field b (41 + 3 * i) 1 ∧ field b (41 + 3 * i) 1 ≤ field b (42 + 3 * i) 1 ∧ field b (42 + 3 * i) 1 ≤ 62) := by
  rw [bindingAt_eq]
  generalize field b (40 + 3 * i) 1 = k at kind
  match k with
  | 0 => exact iff_of_true rfl fun pool => by omega
  | 1 => exact iff_of_true rfl fun pool => by omega
  | 2 =>
    show (decide _ && decide _ && decide _) = true ↔ _
    rw [Bool.and_eq_true, Bool.and_eq_true, decide_eq_true_iff, decide_eq_true_iff, decide_eq_true_iff, and_assoc]
    exact ⟨fun good _ => good, fun good => good rfl⟩
  | n + 3 => omega

theorem pools_iff (inRange : FieldsInRange b) :
    (imageAt b).bindings.toList.all poolOk = true ↔
      ∀ i < 16, field b (40 + 3 * i) 1 = 2 →
        1 ≤ field b (41 + 3 * i) 1 ∧ field b (41 + 3 * i) 1 ≤ field b (42 + 3 * i) 1 ∧ field b (42 + 3 * i) 1 ≤ 62 := by
  obtain ⟨-, kinds, -⟩ := inRange
  rw [bindings_toList, List.all_map, List.all_eq_true]
  refine forall_congr' fun i => ?_
  rw [List.mem_range]
  exact forall_congr' fun inside => poolOk_at (kinds i inside).1

theorem singles_eq (b : List Byte) :
    (imageAt b).singles = (List.range 16).filterMap fun i =>
      if field b (40 + 3 * i) 1 = 1 then some (field b (41 + 3 * i) 1) else none := by
  unfold Image.singles
  rw [bindings_toList, List.filterMap_map]
  exact congrArg (List.filterMap · _) (funext fun i => single_at b i)

theorem singles_own (own : Nat) (b : List Byte) :
    (imageAt b).singles.contains own = true ↔ ∃ i < 16, field b (40 + 3 * i) 1 = 1 ∧ field b (41 + 3 * i) 1 = own := by
  rw [List.contains_iff_mem, singles_eq, List.mem_filterMap]
  simp only [List.mem_range, Option.ite_none_right_eq_some, Option.some_inj]

theorem singles_distinct (b : List Byte) :
    hasDuplicate (imageAt b).singles = false ↔
      ∀ i < 16, ∀ j < i, field b (40 + 3 * i) 1 = 1 → field b (40 + 3 * j) 1 = 1 →
        field b (41 + 3 * i) 1 ≠ field b (41 + 3 * j) 1 := by
  rw [hasDuplicate_iff_nodup, singles_eq, List.Nodup, List.pairwise_filterMap, List.pairwise_iff_getElem]
  simp only [List.length_range, List.getElem_range, Option.ite_none_right_eq_some, Option.some_inj]
  constructor
  · intro apart i inside j lower single single' same
    exact apart j i (lower.trans inside) inside lower _ ⟨single', rfl⟩ _ ⟨single, rfl⟩ same.symm
  · rintro apart j i - inside lower _ ⟨single', rfl⟩ _ ⟨single, rfl⟩ same
    exact apart i inside j lower single single' same.symm

/-! ### The fields of an image that passes -/

theorem imageAt_binding (b : List Byte) (i : Fin 16) :
    (imageAt b).bindings[i] =
      if field b (40 + 3 * i) 1 = 0 then .unused
      else if field b (40 + 3 * i) 1 = 1 then .single (field b (41 + 3 * i) 1)
      else .pool (field b (41 + 3 * i) 1) (field b (42 + 3 * i) 1) := by
  rw [← bindingAt_eq]
  exact Vector.getElem_ofFn i.isLt

theorem imageAt_channel (b : List Byte) (c : Fin 4) : (imageAt b).channels[c] = channelAt (b.drop (88 + 109 * c)) :=
  Vector.getElem_ofFn c.isLt

theorem getD_map_range {α : Type} {n i : Nat} (f : Nat → α) (d : α) (inside : i < n) : ((List.range n).map f).getD i d = f i := by
  rw [List.getD_eq_getElem?_getD, List.getElem?_map, List.getElem?_range inside]
  rfl

theorem channel_field (b : List Byte) (c offset size : Nat) :
    field (b.drop (88 + 109 * c)) offset size = field b (88 + offset + 109 * c) size := by
  rw [field_drop, Nat.add_right_comm]

/-- The fields of a channel section, at their places in the image. -/
theorem channelAt_fields (b : List Byte) (c : Nat) :
    let ch := channelAt (b.drop (88 + 109 * c))
    ch.trim = field b (88 + 109 * c) 2 ∧ ch.autoStandby = decide (field b (90 + 109 * c) 1 = 1) ∧
    ch.wakeLimit = field b (91 + 109 * c) 2 ∧ ch.startGain = field b (93 + 109 * c) 1 ∧
    ch.startMute = decide (field b (94 + 109 * c) 1 = 1) ∧ ch.evacPreset = field b (95 + 109 * c) 1 ∧
    ch.evacGain = field b (96 + 109 * c) 1 ∧ ch.presets.length = 4 ∧
    ∀ q < 4, (ch.presets.getD q []).length = 5 ∧ ∀ j < 5,
      (ch.presets.getD q [])[j]? = some (stageAt (b.drop (97 + 109 * c + 25 * q + 5 * j))) := by
  intro ch
  refine ⟨channel_field b c 0 2, ?_, channel_field b c 3 2, channel_field b c 5 1, ?_, channel_field b c 7 1,
    channel_field b c 8 1, ?_, fun q preset => ?_⟩
  · show (field (b.drop (88 + 109 * c)) 2 1 == 1) = _
    rw [channel_field]
    rfl
  · show (field (b.drop (88 + 109 * c)) 6 1 == 1) = _
    rw [channel_field]
    rfl
  · show ((List.range 4).map _).length = 4
    rw [List.length_map, List.length_range]
  · have held : ch.presets.getD q [] = (List.range 5).map fun j => stageAt ((b.drop (88 + 109 * c)).drop (9 + 25 * q + 5 * j)) :=
      getD_map_range _ _ preset
    rw [held]
    refine ⟨by rw [List.length_map, List.length_range], fun j stage => ?_⟩
    have place : 88 + 109 * c + (9 + 25 * q + 5 * j) = 97 + 109 * c + 25 * q + 5 * j := by omega
    rw [List.getElem?_map, List.getElem?_range stage, Option.map_some, List.drop_drop, place]

/-- A cell of the absorption table, at its place in the image. -/
theorem imageAt_cell (b : List Byte) {p h : Nat} (row : p < 8) (column : h < 4) :
    absorptionCell (imageAt b).absorption p h =
      if field b (524 + 8 * p + 2 * h) 1 = 255 then none
      else some ⟨field b (524 + 8 * p + 2 * h) 1, field b (525 + 8 * p + 2 * h) 1⟩ := by
  have held : absorptionCell (imageAt b).absorption p h = cellAt ((b.drop (524 + 8 * p)).drop (2 * h)) := by
    show (((List.range 8).map fun p => (List.range 4).map fun h => cellAt ((b.drop (524 + 8 * p)).drop (2 * h))).getD p []).getD h
      none = _
    rw [getD_map_range _ _ row, getD_map_range _ _ column]
  have corner : 524 + 8 * p + (2 * h + 1) = 525 + 8 * p + 2 * h := by omega
  rw [held]
  unfold cellAt
  rw [field_drop, field_drop, field_drop, field_drop, Nat.add_zero, corner]

/-- Settles O7: the header, the time-out and the checks of the image, in their order. -/
theorem imageReadChecked : Obligations.ImageReadChecked := by
  refine ⟨fun s h l length mode reading cookie low high => ?_, fun s lawful mode => ⟨?_, ?_, ?_, ?_⟩, ?_⟩
  · rw [exec_imageHeaderRead mode reading length, if_pos (checkHeader_good cookie low high)]
    rfl
  · intro h l length reading cookie
    have bad := checkHeader_badCookie cookie
    refine ⟨_, ?_, enterConfigFault_enters lawful mode .badCookie⟩
    rw [exec_imageHeaderRead mode reading length, bad]
    rfl
  · intro h l length reading cookie outside
    have bad := checkHeader_badLength cookie outside
    refine ⟨_, ?_, enterConfigFault_enters lawful mode .badLength⟩
    rw [exec_imageHeaderRead mode reading length, bad]
    rfl
  · obtain ⟨-, -, -, -, -, reading, -⟩ := lawful.start
    exact ⟨_, exec_imageReadTimeout mode (reading.2 mode), enterConfigFault_enters lawful mode .noImage⟩
  · intro h l rest reason reading length checked
    exact ⟨_, exec_imageRead_invalid mode reading length checked, enterConfigFault_enters lawful mode reason⟩
  · intro own b cookie low high bad crcOk kind lowOf highOf
    have crc : imageCrcAgrees b = true ↔ crcOk := beq_iff_eq
    have header := checkHeader_good cookie low high
    refine ⟨fun wrong => ?_, fun right outside => ?_, fun right inside probe => ?_, fun right inside probe limits => ?_,
      fun right inside probe limits => ⟨fun pool => ?_, fun pools => ⟨fun self => ?_, fun others => ⟨fun twice => ?_,
        fun distinct => ?_⟩⟩⟩⟩
    · have disagrees : imageCrcAgrees b = false := Bool.eq_false_iff.2 (mt crc.1 wrong)
      show checkImage own b = _
      unfold checkImage
      rw [header, disagrees]
      rfl
    · show checkImage own b = _
      unfold checkImage
      rw [header, crc.2 right, readImage_none outside]
      rfl
    · exact (checkImage_read cookie low high (crc.2 right) inside).trans (if_pos probe)
    · exact (checkImage_read cookie low high (crc.2 right) inside).trans ((if_neg (Nat.not_lt.2 probe)).trans (if_pos limits))
    all_goals
      have read : checkImage own b = if !((imageAt b).bindings.toList.all poolOk) then .error .poolRange
          else if (imageAt b).singles.contains own then .error .selfBinding
          else if hasDuplicate (imageAt b).singles then .error .duplicateSingle
          else .ok (imageAt b) := (checkImage_read cookie low high (crc.2 right) inside).trans
        ((if_neg (Nat.not_lt.2 probe)).trans (if_neg (Nat.not_le.2 limits)))
    · obtain ⟨i, entry, isPool, wrong⟩ := pool
      have failed : (imageAt b).bindings.toList.all poolOk = false :=
        Bool.eq_false_iff.2 fun good => wrong ((pools_iff inside).1 good i entry isPool)
      rw [failed] at read
      exact read
    all_goals rw [(pools_iff inside).2 pools, if_neg (by decide)] at read
    · exact read.trans (if_pos ((singles_own own b).2 self))
    all_goals
      have other : ¬(imageAt b).singles.contains own = true := fun held => by
        obtain ⟨i, entry, single, same⟩ := (singles_own own b).1 held
        exact others i entry single same
      rw [if_neg other] at read
    · obtain ⟨i, entry, j, lower, single, single', same⟩ := twice
      refine read.trans (if_pos ?_)
      by_contra apart
      exact (singles_distinct b).1 (by simpa using apart) i entry j lower single single' same
    · rw [(singles_distinct b).2 distinct, if_neg Bool.false_ne_true] at read
      refine ⟨imageAt b, read, rfl, rfl, rfl, rfl, rfl, rfl, rfl, rfl, rfl, rfl, rfl, rfl, rfl, rfl, ?_, rfl, rfl, rfl, rfl, rfl,
        rfl, rfl, rfl, imageAt_binding b, fun c => ?_, fun p row h column => ?_⟩
      · exact Nat.mod_eq_of_lt (by omega)
      · rw [imageAt_channel]
        exact channelAt_fields b c
      · exact imageAt_cell b row column

end Sys2Proof.Machine
end

section
/-! PROOFS. A frame with this station's own number (R183, R184, R185, R32, R174): the contest, and CONFLICT entry. -/

namespace Sys2Proof.Machine

variable {s t u : State} {img : Image} {b : RollBody}

/-! ### CONFLICT entry -/

/-- The round at CONFLICT entry (R32). -/
def conflictRound (s : State) : State := if s.probe.round = .idle then s else cutRound true s

theorem enterConflict_eq (s : State) :
    enterConflict s =
      { conflictRound (conflictEmptied s) with
        probe := { (conflictRound (conflictEmptied s)).probe with timer := none }
        solver := { (conflictRound (conflictEmptied s)).solver with refresh := none } } := by
  have moved : (match (conflictEmptied s).probe.round with
      | .idle => conflictEmptied s
      | .waking | .marking => abortRound true (conflictEmptied s)
      | .emitting => cancelSelfWindow (abortRound true (conflictEmptied s))) = conflictRound (conflictEmptied s) := by
    unfold conflictRound cutRound
    cases (conflictEmptied s).probe.round <;> rfl
  show (((match (conflictEmptied s).probe.round with
      | .idle => conflictEmptied s
      | .waking | .marking => abortRound true (conflictEmptied s)
      | .emitting => cancelSelfWindow (abortRound true (conflictEmptied s))).modProbe fun u => { u with timer := none }).modSolver
        fun v => { v with refresh := none }) = _
  rw [moved]
  rfl

theorem conflictRound_line (s : State) :
    conflictRound s =
      { s with bus := (conflictRound s).bus, probe := (conflictRound s).probe, counters := (conflictRound s).counters } := by
  unfold conflictRound
  split
  · rfl
  · exact cutRound_line true s

theorem conflictEmptied_count (s : State) (k : Counter) :
    (conflictEmptied s).count k = if k = .txDropped then satIncBy s.bus.queue.length (s.count k) else s.count k :=
  emptyQueue_count _ k

/-- What CONFLICT entry makes of the station (R174, R185, R32). -/
structure InConflict (s t : State) : Prop where
  stc : t.stc = { s.stc with mode := .conflict, claim := none }
  empty : t.bus.queue = [] ∧ t.bus.attempt = none
  round : t.probe.round = .idle ∧ t.probe.timer = none
  aborted : s.probe.round ≠ .idle → RoundAborted none s t
  rests : s.probe.round = .idle → t.probe = { s.probe with timer := none } ∧
    t.count .probeAborts = s.count .probeAborts ∧ t.count .capturesCancelled = s.count .capturesCancelled
  solver : t.solver = { s.solver with refresh := none }
  dropped : (t.count .txDropped).toNat = min 65535 ((s.count .txDropped).toNat + s.bus.queue.length)
  frame : t = { s with stc := t.stc, bus := t.bus, probe := t.probe, solver := t.solver, counters := t.counters }

theorem conflictEmptied_line (s : State) :
    conflictEmptied s =
      { s with
        stc := { s.stc with mode := .conflict, claim := none }, bus := { s.bus with queue := [], attempt := none }
        counters := (conflictEmptied s).counters } := rfl

theorem enterConflict_inConflict (s : State) : InConflict s (enterConflict s) := by
  have entered := enterConflict_eq s
  have emptied := conflictEmptied_line s
  have count := conflictEmptied_count s
  generalize conflictEmptied s = e at entered emptied count
  have line := conflictRound_line e
  have roundE : e.probe = s.probe := by rw [emptied]
  have cut (busy : s.probe.round ≠ .idle) : conflictRound e = cutRound true e := if_neg (by rw [roundE]; exact busy)
  have rest (idle : s.probe.round = .idle) : conflictRound e = e := if_pos (by rw [roundE]; exact idle)
  have quiet : (conflictRound e).bus.queue = [] ∧ (conflictRound e).bus.attempt = none ∧
      (conflictRound e).probe.round = .idle := by
    by_cases idle : s.probe.round = .idle
    · rw [rest idle, roundE, emptied]
      exact ⟨rfl, rfl, idle⟩
    · rw [cut idle, cutRound_bus, cutRound_probe, emptied]
      exact ⟨rfl, rfl, rfl⟩
  obtain ⟨queue, attempt, round⟩ := quiet
  have counters (k : Counter) : (enterConflict s).count k = (conflictRound e).count k := by
    unfold State.count
    rw [entered]
  constructor
  case stc => rw [entered, line, emptied]
  case empty =>
    rw [entered]
    exact ⟨queue, attempt⟩
  case round =>
    rw [entered]
    exact ⟨round, rfl⟩
  case aborted =>
    intro busy
    have aborted := cutRound_aborted true e
    rw [← cut busy] at aborted
    obtain ⟨probe, slots, unmarked, attemptFree, aborts, cancelled⟩ := aborted
    have windows : selfWindows e = selfWindows s := by
      unfold selfWindows State.number
      rw [emptied]
    have number : e.number = s.number := by
      unfold State.number
      rw [emptied]
    rw [roundE] at probe slots
    rw [number] at slots
    refine ⟨?_, fun i => ?_, ?_, ?_, ?_, ?_⟩
    · rw [entered, probe]
    · rw [entered]
      exact slots i
    · rw [entered]
      exact unmarked
    · rw [entered]
      exact attemptFree
    · rw [counters, aborts, count, if_neg Counter.noConfusion]
    · rw [counters, cancelled, count, if_neg Counter.noConfusion, windows]
  case rests =>
    intro idle
    refine ⟨?_, ?_, ?_⟩
    · rw [entered, rest idle, roundE]
    · rw [counters, rest idle, count, if_neg Counter.noConfusion]
    · rw [counters, rest idle, count, if_neg Counter.noConfusion]
  case solver => rw [entered, line, emptied]
  case dropped =>
    have same : (conflictRound e).count .txDropped = e.count .txDropped := by
      by_cases idle : s.probe.round = .idle
      · rw [rest idle]
      · rw [cut idle, cutRound_count, if_neg Counter.noConfusion, if_neg Counter.noConfusion]
    rw [counters, same, count, if_pos rfl, satIncBy_toNat]
  case frame =>
    rw [entered]
    generalize conflictRound e = w at line
    rw [line]
    rw [emptied]

/-! ### The contest, row by row (R183, R184) -/

/-- The station once the frame with its own number has been counted. -/
def twice (s : State) : State := { countValid s with stc := { s.stc with duplicates := satInc s.stc.duplicates } }

/-- The station once the contest with a unit has been recorded. -/
def contested (unit : BitVec 32) (won : Bool) (s : State) : State :=
  { twice s with stc := { (twice s).stc with lastDuplicate := some (unit, won) } }

theorem takeDuplicate_none (mode : s.stc.mode = .announce ∨ s.stc.mode = .run) :
    takeDuplicate none (countValid s) = handRollUnlessWaiting (twice s) := by
  unfold takeDuplicate
  rw [if_pos (by rw [countValid_stc]; exact mode)]
  unfold twice
  rw [← countValid_stc s]
  rfl

theorem takeDuplicate_roll (mode : s.stc.mode = .announce ∨ s.stc.mode = .run) (b : RollBody) :
    takeDuplicate (some b) (countValid s) = contest b (twice s) := by
  unfold takeDuplicate
  rw [if_pos (by rw [countValid_stc]; exact mode)]
  unfold twice
  rw [← countValid_stc s]
  rfl

/-- A hand-over and a record of the contest change no published value. -/
theorem published_contested (line : t = { s with stc := t.stc, bus := t.bus, counters := t.counters })
    (stc : t.stc.kind = s.stc.kind ∧ t.stc.straps = s.stc.straps) : published t = published s := by
  refine published_same stc ?_ ?_ (fun i => ?_) ?_ ?_ (fun c => ?_) ?_
  · rw [line]
    exact ⟨rfl, rfl, rfl, rfl, rfl⟩
  · rw [line]
    rfl
  · rw [line]
    exact ⟨rfl, rfl⟩
  · rw [line]
  · rw [line]
  · rw [line]
  · unfold State.ownAlarm
    rw [stc.2, line]

/-- Where the ROLL goes out it is the ROLL of the station as it stands (R182). -/
theorem handRoll_sends (mode : s.stc.mode = .announce ∨ s.stc.mode = .run) (station : isStation s.number = true) :
    handRoll s = handFrame ⟨s.number, 63, .roll (composeRoll s)⟩ s := by
  refine if_neg ?_
  rintro (loading | conflict | none)
  · rcases mode with h | h <;> exact Mode.noConfusion (h.symm.trans loading)
  · rcases mode with h | h <;> exact Mode.noConfusion (h.symm.trans conflict)
  · exact Bool.noConfusion (station.symm.trans none)

/-- The event of a station whose modes and inputs stand hands no ALIGN. -/
theorem finishEvent_contested (line : t = { countValid s with stc := t.stc, bus := t.bus, counters := t.counters })
    (stc : t.stc.kind = s.stc.kind ∧ t.stc.straps = s.stc.straps) : finishEvent (countValid s) t = t :=
  finishEvent_quiet (published_contested line (by rw [countValid_stc]; exact stc))

theorem rollWaits_twice (s : State) : rollWaits (twice s) = rollWaits s := by
  have queue : (twice s).bus.queue = s.bus.queue := by
    unfold twice
    rw [countValid_eq]
    exact (counted_queue s.bus).1
  unfold rollWaits
  rw [queue]

theorem twice_number (s : State) : (twice s).number = s.number := rfl

/-- The ROLL of a station that has not lost a contest. -/
theorem finishEvent_rolled {v : State} (mode : v.stc.mode = .announce ∨ v.stc.mode = .run) (station : isStation v.number = true)
    (line : v = { countValid s with stc := v.stc, bus := v.bus, counters := v.counters })
    (stc : v.stc.kind = s.stc.kind ∧ v.stc.straps = s.stc.straps) :
    finishEvent (countValid s) (handRoll v) = handFrame ⟨v.number, 63, .roll (composeRoll v)⟩ v := by
  rw [handRoll_sends mode station]
  have handed := handFrame_line ⟨v.number, 63, .roll (composeRoll v)⟩ v
  refine finishEvent_contested ?_ ?_
  · generalize handFrame _ v = w at handed
    rw [handed]
    rw [line]
  · rw [show (handFrame ⟨v.number, 63, .roll (composeRoll v)⟩ v).stc = v.stc by simp]
    exact stc

/-! ### A contest lost (R174, R184, R185) -/

theorem joinFrame_length (f : Frame) (b : Bus) : (joinFrame f b).queue.length = b.queue.length + 1 :=
  (insertByClass_perm ⟨f, b.nextArrival, false⟩ b.queue).length_eq

/-- What a hand-over drops and leaves waiting: one frame more, unless it replaces one (R166, R167). -/
theorem handFrame_balance (f : Frame) (s : State) :
    min 65535 (((handFrame f s).count .txDropped).toNat + (handFrame f s).bus.queue.length) =
      min 65535 ((s.count .txDropped).toNat + s.bus.queue.length +
        if (∃ e ∈ s.bus.queue, f.body.replaces e.frame.body = true) then 0 else 1) := by
  have drops (n : Nat) : min 65535 ((satInc (s.count .txDropped)).toNat + n) = min 65535 ((s.count .txDropped).toNat + n + 1) := by
    have one := satIncBy_toNat 1 (s.count .txDropped)
    rw [satIncBy_one] at one
    omega
  by_cases found : ∃ e ∈ s.bus.queue, f.body.replaces e.frame.body = true
  · rw [if_pos found, handFrame_replaces found]
    show min 65535 ((s.count .txDropped).toNat + (s.bus.queue.map _).length) = _
    rw [List.length_map]
    rfl
  · rw [if_neg found]
    have new : ∀ e ∈ s.bus.queue, f.body.replaces e.frame.body = false := fun e mem =>
      Bool.eq_false_iff.2 fun same => found ⟨e, mem, same⟩
    have count := handFrame_count f s .txDropped
    cases admitted : admission s f.body with
    | replaces =>
      have any : s.bus.queue.any (fun e => f.body.replaces e.frame.body) = true := by
        by_contra none
        unfold admission at admitted
        rw [if_neg none] at admitted
        repeat' split at admitted
        all_goals cases admitted
      exact absurd (List.any_eq_true.1 any) found
    | joins =>
      rw [admitted, if_neg (by simp)] at count
      rw [count, handFrame_joins admitted]
      show min 65535 (_ + (joinFrame f s.bus).queue.length) = _
      rw [joinFrame_length]
      rfl
    | displaces =>
      rw [admitted, if_pos ⟨rfl, .inl rfl⟩] at count
      rw [count, handFrame_displaces admitted]
      show min 65535 (_ + (joinFrame f { s.bus with queue := s.bus.queue.dropLast }).queue.length) = _
      rw [joinFrame_length, drops, List.length_dropLast]
      have nonempty : 0 < s.bus.queue.length := by
        by_contra empty
        have short : s.bus.queue.length < 8 := by omega
        rw [admission_new new, if_pos short] at admitted
        split at admitted <;> cases admitted
      rw [Nat.sub_add_cancel nonempty]
    | refused =>
      rw [admitted, if_pos ⟨rfl, .inr rfl⟩] at count
      rw [count, handFrame_refused admitted]
      exact drops _

/-- What stands beside the table, the line, the round, the solver and the channels. -/
def SameBeside (s t : State) : Prop :=
  t.peers = s.peers ∧ t.selfRec = s.selfRec ∧ t.air = s.air ∧ t.delay = s.delay ∧ t.level = s.level ∧ t.cue = s.cue ∧
  t.emc = s.emc ∧ t.image = s.image ∧ t.timeBase = s.timeBase ∧ t.freeCount = s.freeCount ∧ t.pending = s.pending

theorem contested_line (unit : BitVec 32) (won : Bool) (s : State) :
    contested unit won s =
      { s with
        stc := { s.stc with duplicates := satInc s.stc.duplicates, lastDuplicate := some (unit, won) }
        bus := s.bus.counted, counters := (bump .rxGood s).counters } := by
  unfold contested twice
  rw [countValid_eq]

theorem contested_count {k : Counter} (other : k ≠ .rxGood) (unit : BitVec 32) (won : Bool) (s : State) :
    (contested unit won s).count k = s.count k := countValid_spared other

theorem contested_queue (unit : BitVec 32) (won : Bool) (s : State) : (contested unit won s).bus.queue = s.bus.queue := by
  rw [contested_line]
  exact (counted_queue s.bus).1

theorem contest_lost (fault : b.faultFlag = false) (lower : b.unit.toNat < s.stc.unit.toNat) :
    contest b (twice s) =
      enterConflict (if s.stc.mode = .announce then enterRun (contested b.unit false s) else contested b.unit false s) := by
  have other : b.unit ≠ (twice s).stc.unit := fun same => Nat.lt_irrefl _ (same ▸ lower)
  have lower' : b.unit.toNat < (twice s).stc.unit.toNat := lower
  unfold contest
  rw [fault, if_neg Bool.false_ne_true, if_neg other, if_pos lower']
  rfl

/-- The loser of a contest, from RUN. -/
theorem conflict_from_run (c : State) (line : c = contested b.unit false s) :
    let t := enterConflict c
    t.channels = s.channels ∧ t.eq = s.eq ∧ t.solver = { s.solver with refresh := none } ∧
    (t.count .txDropped).toNat = min 65535 ((s.count .txDropped).toNat + s.bus.queue.length) ∧
    (s.probe.round ≠ .idle → RoundAborted none s t) ∧
    (s.probe.round = .idle → t.probe = { s.probe with timer := none } ∧ t.count .probeAborts = s.count .probeAborts ∧
      t.count .capturesCancelled = s.count .capturesCancelled) := by
  intro t
  have entered := enterConflict_inConflict c
  have count {k : Counter} (other : k ≠ .rxGood) : c.count k = s.count k := by
    rw [line]
    exact contested_count other ..
  have queue : c.bus.queue = s.bus.queue := by rw [line, contested_queue]
  have frame := entered.frame
  have literal := line.trans (contested_line ..)
  have probe : c.probe = s.probe := by rw [literal]
  refine ⟨?_, ?_, ?_, ?_, fun busy => ?_, fun idle => ?_⟩
  · show (enterConflict c).channels = _
    rw [frame, literal]
  · show (enterConflict c).eq = _
    rw [frame, literal]
  · show (enterConflict c).solver = _
    rw [entered.solver, literal]
  · show ((enterConflict c).count .txDropped).toNat = _
    rw [entered.dropped, count Counter.noConfusion, queue]
  · have aborted := entered.aborted (by rw [probe]; exact busy)
    unfold RoundAborted at aborted ⊢
    have windows : selfWindows c = selfWindows s := by
      unfold selfWindows State.number
      rw [literal]
    have number : c.number = s.number := by
      unfold State.number
      rw [literal]
    rw [probe, count Counter.noConfusion, count Counter.noConfusion, windows, number] at aborted
    exact aborted
  · have rests := entered.rests (by rw [probe]; exact idle)
    rw [probe, count Counter.noConfusion, count Counter.noConfusion] at rests
    exact rests

theorem EntersService.same {r : State} (h : EntersService img s r)
    (solver : t.solver = { r.solver with refresh := t.solver.refresh }) (eq : t.eq = r.eq) (channels : t.channels = r.channels) :
    EntersService img s t := by
  unfold EntersService BandFollowsPath ShelfFollowsBands at h ⊢
  rw [solver, eq, channels]
  exact h

/-- The loser of a contest, from ANNOUNCE: RUN entry first. -/
theorem conflict_from_announce (ready : ReadyToRun img s) (mode : s.stc.mode = .announce) (c : State)
    (line : c = contested b.unit false s) :
    let t := enterConflict (enterRun c)
    EntersService img s t ∧
    (t.count .txDropped).toNat = min 65535 ((s.count .txDropped).toNat + s.bus.queue.length +
      if (∃ e ∈ s.bus.queue, e.frame.body.isAlign = true) then 0 else 1) ∧
    (s.probe.round = .idle → t.probe = { s.probe with timer := none } ∧ t.count .probeAborts = s.count .probeAborts ∧
      t.count .capturesCancelled = s.count .capturesCancelled) := by
  intro t
  have literal := line.trans (contested_line ..)
  have ready' : ReadyToRun img c := ready.same (by rw [literal]) (by rw [literal]) (by rw [literal]) (by rw [literal])
    (by rw [literal])
  have mode' : c.stc.mode = .announce := by rw [literal]; exact mode
  have ran := enterRun_entered ready' mode'
  have entered := enterConflict_inConflict (enterRun c)
  have conflict : t = enterConflict (enterRun c) := rfl
  generalize enterRun c = r at ran entered conflict
  rw [← conflict] at entered
  obtain ⟨align, bus, counters, -⟩ := ran.align
  have frame := entered.frame
  have count {k : Counter} (other : k ≠ .rxGood) (kept : k ≠ .txDropped) : r.count k = s.count k := by
    have same : r.count k = (handFrame ⟨c.number, 63, .align align⟩ c).count k := by
      unfold State.count
      rw [counters]
    rw [same, handFrame_count, if_neg fun h => kept h.1, line, contested_count other]
  have probe : r.probe = { s.probe with timer := r.probe.timer } := by rw [ran.probe, literal]
  refine ⟨?_, ?_, fun idle => ?_⟩
  · have service := ran.service
    rw [literal] at service
    exact EntersService.same (s := s) service (by rw [entered.solver]) (by rw [frame]) (by rw [frame])
  · have balance := handFrame_balance ⟨c.number, 63, .align align⟩ c
    have dropped : r.count .txDropped = (handFrame ⟨c.number, 63, .align align⟩ c).count .txDropped := by
      unfold State.count
      rw [counters]
    rw [← bus, ← dropped, line, contested_count Counter.noConfusion, contested_queue] at balance
    rw [entered.dropped, balance]
    have replaces (e : QueueEntry) : (FrameBody.align align).replaces e.frame.body = e.frame.body.isAlign := by
      show (e.frame.body.isAlign || false || false) = _
      rw [Bool.or_false, Bool.or_false]
    simp only [replaces]
  · have rests := entered.rests (by rw [probe]; exact idle)
    rw [probe, count Counter.noConfusion Counter.noConfusion, count Counter.noConfusion Counter.noConfusion] at rests
    exact rests

theorem enterConflict_beside (s : State) : SameBeside s (enterConflict s) := by simp [SameBeside]

theorem enterRun_beside (s : State) : SameBeside s (enterRun s) := by simp [SameBeside]

/-- The event of a frame with the own number, told by what the contest makes of the station. -/
theorem exec_duplicate_contest (station : isStation s.number = true) (mode : s.stc.mode = .announce ∨ s.stc.mode = .run)
    (b : RollBody) : exec (.duplicateFrame (some b)) s = .next (finishEvent (countValid s) (contest b (twice s))) := by
  rw [exec_duplicate_eq _ station]
  unfold event
  rw [takeDuplicate_roll mode]

theorem handRollUnlessWaiting_waits (waits : rollWaits s = true) : handRollUnlessWaiting s = s := if_pos waits

theorem handRollUnlessWaiting_sends (free : rollWaits s = false) : handRollUnlessWaiting s = handRoll s :=
  if_neg (by rw [free]; exact Bool.false_ne_true)

theorem contest_fault (fault : b.faultFlag = true) : contest b (twice s) = handRollUnlessWaiting (contested b.unit true s) :=
  if_pos fault

theorem contest_same (fault : b.faultFlag = false) (same : b.unit = s.stc.unit) : contest b (twice s) = twice s := by
  unfold contest
  rw [fault, if_neg Bool.false_ne_true]
  exact if_pos same

theorem contest_won (fault : b.faultFlag = false) (higher : s.stc.unit.toNat < b.unit.toNat) :
    contest b (twice s) = handRoll (contested b.unit true s) := by
  have other : b.unit ≠ (twice s).stc.unit := fun same => Nat.lt_irrefl _ (same ▸ higher)
  have notLower : ¬b.unit.toNat < (twice s).stc.unit.toNat := Nat.not_lt.2 higher.le
  unfold contest
  rw [fault, if_neg Bool.false_ne_true, if_neg other, if_neg notLower]
  rfl

/-- What the station is after a contest lost, whatever it was (R185). -/
theorem contest_lost_spec (fault : b.faultFlag = false) (lower : b.unit.toNat < s.stc.unit.toNat) :
    let t := contest b (twice s)
    t.stc = { s.stc with
      mode := .conflict, claim := none, duplicates := satInc s.stc.duplicates, lastDuplicate := some (b.unit, false) } ∧
    t.bus.queue = [] ∧ t.bus.attempt = none ∧ t.probe.round = .idle ∧ t.probe.timer = none ∧ t.solver.refresh = none ∧
    SameBeside s t := by
  intro t
  have lost : t = _ := contest_lost fault lower
  have before : (if s.stc.mode = .announce then enterRun (contested b.unit false s) else contested b.unit false s).stc =
      { s.stc with
        mode := if s.stc.mode = .announce then .run else s.stc.mode
        claim := if s.stc.mode = .announce then none else s.stc.claim
        duplicates := satInc s.stc.duplicates, lastDuplicate := some (b.unit, false) } := by
    split
    · rw [enterRun_stc]
      rfl
    · rfl
  have beside : SameBeside s
      (if s.stc.mode = .announce then enterRun (contested b.unit false s) else contested b.unit false s) := by
    have recorded : SameBeside s (contested b.unit false s) := by
      rw [contested_line]
      exact ⟨rfl, rfl, rfl, rfl, rfl, rfl, rfl, rfl, rfl, rfl, rfl⟩
    split
    · have ran := enterRun_beside (contested b.unit false s)
      unfold SameBeside at recorded ran ⊢
      simp only [ran, recorded, and_self]
    · exact recorded
  generalize (if s.stc.mode = .announce then enterRun (contested b.unit false s) else contested b.unit false s) = r
    at lost before beside
  have entered := enterConflict_inConflict r
  have after := enterConflict_beside r
  rw [← lost] at entered after
  obtain ⟨queue, attempt⟩ := entered.empty
  obtain ⟨round, timer⟩ := entered.round
  refine ⟨by rw [entered.stc, before], queue, attempt, round, timer, by rw [entered.solver], ?_⟩
  unfold SameBeside at beside after ⊢
  simp only [after, beside, and_self]

/-- Settles O11: the contest, row by row. -/
theorem ownNumberContested : Obligations.OwnNumberContested := by
  intro roll s station
  refine ⟨fun announce run => ?_, fun mode => ?_⟩
  · have unmoved : takeDuplicate roll (countValid s) = countValid s :=
      if_neg (by rw [countValid_stc]; exact not_or.2 ⟨announce, run⟩)
    rw [exec_duplicate_eq roll station]
    unfold event
    rw [unmoved, finishEvent_quiet rfl]
  · intro u won own
    have free : rollWaits s = false → rollWaits u = false := fun h => (rollWaits_twice s).trans h
    refine ⟨?_, ?_, ?_, ?_, ?_, ?_, ?_⟩
    · rintro rfl waits
      rw [exec_duplicate_eq none station]
      unfold event
      rw [takeDuplicate_none mode, handRollUnlessWaiting_waits ((rollWaits_twice s).trans waits)]
      exact congrArg Host.Outcome.next (finishEvent_contested rfl ⟨rfl, rfl⟩)
    · rintro rfl waits
      rw [exec_duplicate_eq none station]
      unfold event
      rw [takeDuplicate_none mode, handRollUnlessWaiting_sends ((rollWaits_twice s).trans waits)]
      exact congrArg Host.Outcome.next (finishEvent_rolled (v := u) mode station rfl ⟨rfl, rfl⟩)
    · rintro b rfl fault waits
      rw [exec_duplicate_contest station mode, contest_fault fault,
        handRollUnlessWaiting_waits (s := contested b.unit true s) ((rollWaits_twice s).trans waits)]
      exact congrArg Host.Outcome.next (finishEvent_contested rfl ⟨rfl, rfl⟩)
    · rintro b rfl fault waits
      rw [exec_duplicate_contest station mode, contest_fault fault,
        handRollUnlessWaiting_sends (s := contested b.unit true s) ((rollWaits_twice s).trans waits)]
      exact congrArg Host.Outcome.next (finishEvent_rolled (v := won b.unit) mode station rfl ⟨rfl, rfl⟩)
    · rintro b rfl fault same
      rw [exec_duplicate_contest station mode, contest_same fault same]
      exact congrArg Host.Outcome.next (finishEvent_contested rfl ⟨rfl, rfl⟩)
    · rintro b rfl fault higher
      rw [exec_duplicate_contest station mode, contest_won fault higher]
      exact congrArg Host.Outcome.next (finishEvent_rolled (v := won b.unit) mode station rfl ⟨rfl, rfl⟩)
    · rintro b rfl fault lower
      obtain ⟨stc, queue, attempt, round, timer, refresh, beside⟩ := contest_lost_spec fault lower
      have lost := contest_lost fault lower
      have mode' : (contest b (twice s)).stc.mode = .conflict := by rw [stc]
      have rests : finishEvent (countValid s) (contest b (twice s)) = contest b (twice s) :=
        finishEvent_not_run (.inr (by rw [mode']; exact Mode.noConfusion))
      have runs := exec_duplicate_contest station mode b
      rw [rests] at runs
      obtain ⟨peers, selfRec, air, delay, level, cue, emc, image, timeBase, freeCount, pending⟩ := beside
      refine ⟨contest b (twice s), runs, mode', by rw [stc], by rw [stc], by rw [stc], queue, attempt, round, timer, refresh,
        peers, selfRec, air, delay, level, cue, emc, image, timeBase, freeCount, pending, fun run => ?_,
        fun announce lawful img installed => ?_, fun allowed => ?_⟩
      · rw [lost, if_neg (by rw [run]; exact Mode.noConfusion)]
        obtain ⟨channels, eq, solver, dropped, -⟩ := conflict_from_run (s := s) _ rfl
        exact ⟨channels, eq, solver, dropped⟩
      · rw [lost, if_pos announce]
        obtain ⟨service, dropped, -⟩ := conflict_from_announce (lawful.readyToRun announce installed) announce _ rfl
        exact ⟨service, dropped⟩
      · by_cases announce : s.stc.mode = .announce
        · have lawful := allowed.resolve_left (by rw [announce]; exact Mode.noConfusion)
          obtain ⟨held, -⟩ := lawful.start
          obtain ⟨img, installed⟩ := Option.isSome_iff_exists.1 (held.2 (.inl announce))
          have ready := lawful.readyToRun announce installed
          rw [lost, if_pos announce]
          obtain ⟨-, -, idle⟩ := conflict_from_announce ready announce _ rfl
          exact ⟨fun busy => absurd ready.idle busy, idle⟩
        · rw [lost, if_neg announce]
          obtain ⟨-, -, -, -, aborted, idle⟩ := conflict_from_run (s := s) _ rfl
          exact ⟨aborted, idle⟩

end Sys2Proof.Machine
end

section
/-! PROOFS. What the report spaces show (R191, R197, R203): numbers, timers and bits in bytes, and the layout of an entry by its
parts. -/

namespace Sys2Proof.Machine

/-! ### Bytes of numbers -/

theorem bytesBE_length (k n : Nat) : (bytesBE k n).length = k := by
  induction k generalizing n with
  | zero => rfl
  | succ k ih => rw [bytesBE, List.length_append, ih]; rfl

theorem bytesBE_one (n : Nat) : bytesBE 1 n = [byteOf n] := rfl

theorem absentBE_length (k : Nat) (v : Option Nat) : (absentBE k v).length = k := by
  cases v with
  | none => exact List.length_replicate
  | some n => exact bytesBE_length k n

theorem timerBE_length (k : Nat) (t : Option Nat) : (timerBE k t).length = k := absentBE_length k _

theorem temperatureBE_length (t : Option Int) : (temperatureBE t).length = 2 := by
  cases t <;> rfl

theorem absentBE_shows (n : Nat) (v : Option Nat) : ShowsOption n (absentBE n v) v := by
  cases v <;> rfl

theorem timerBE_shows (n : Nat) (timer : Option Nat) : ShowsTimer n (timerBE n timer) timer := by
  refine ⟨fun stopped => by rw [stopped]; rfl, fun left runs whole => ?_⟩
  have ms : remainingMs left = left / 1000 := by
    unfold remainingMs
    rw [whole]
    rfl
  rw [runs]
  show bytesBE n (remainingMs left) = _
  rw [ms]

theorem temperatureBE_shows (t : Option Int) : ShowsTemperature (temperatureBE t) t := by
  cases t <;> rfl

/-! ### Bits (R197) -/

section

variable (a b c d e f : Bool)

theorem shows_one : ShowsBits [byteOf (bit a 0)] [a] := ⟨rfl, by revert a; decide⟩

theorem shows_two : ShowsBits [byteOf (bit a 0 + bit b 1)] [a, b] := ⟨rfl, by revert a b; decide⟩

theorem shows_three : ShowsBits [byteOf (bit a 0 + bit b 1 + bit c 2)] [a, b, c] := ⟨rfl, by revert a b c; decide⟩

theorem shows_third : ShowsBits [byteOf (bit a 2)] [false, false, a] := ⟨rfl, by revert a; decide⟩

theorem shows_four : ShowsBits [byteOf (bit a 0 + bit b 1 + bit c 2 + bit d 3)] [a, b, c, d] :=
  ⟨rfl, by revert a b c d; decide⟩

theorem shows_five : ShowsBits [byteOf (bit a 0 + bit b 1 + bit c 2 + bit d 3 + bit e 4)] [a, b, c, d, e] :=
  ⟨rfl, by revert a b c d e; decide⟩

theorem shows_six : ShowsBits [byteOf (bit a 0 + bit b 1 + bit c 2 + bit d 3 + bit e 4 + bit f 5)] [a, b, c, d, e, f] :=
  ⟨rfl, by revert a b c d e f; decide⟩

end

theorem flagsByte_shows (spare : BitVec 2) (flags : AlignFlags) : ShowsFlags [flagsByte spare flags] flags spare := by
  obtain ⟨degraded, airLost, contact, frozen, ampFault, range⟩ := flags
  refine ⟨rfl, ?_⟩
  unfold flagsByte
  generalize spare.getLsbD 0 = low, spare.getLsbD 1 = high
  revert low high degraded airLost contact frozen ampFault range
  decide

/-! ### The parts of an entry -/

/-- Bytes that lie in one part of an entry. -/
theorem within_part {bytes x : List Byte} {parts : List (List Byte)} {lens : List Nat} {off n : Nat}
    (layout : bytes = parts.flatten) (lengths : parts.map List.length = lens) (i d : Nat) (part : parts[i]? = some x)
    (place : (lens.take i).sum + d = off) (fits : d + n ≤ x.length) : (bytes.drop off).take n = (x.drop d).take n := by
  subst layout lengths place
  induction parts generalizing i with
  | nil => simp at part
  | cons p ps ih =>
    cases i with
    | zero =>
      obtain rfl : p = x := by simpa using part
      rw [List.flatten_cons]
      show (List.drop (0 + d) _).take n = _
      rw [Nat.zero_add, List.drop_append_of_le_length (by omega), List.take_append_of_le_length (by rw [List.length_drop]; omega)]
    | succ i =>
      rw [List.getElem?_cons_succ] at part
      have same := ih i part
      rw [List.flatten_cons, List.map_cons, List.take_succ_cons, List.sum_cons, Nat.add_assoc, List.drop_append,
        List.drop_eq_nil_of_le (Nat.le_add_right _ _), Nat.add_sub_cancel_left]
      exact same

end Sys2Proof.Machine
end

section
/-! PROOFS. The identity entry (R203), field by field. -/

namespace Sys2Proof.Machine

variable {s : State}

/-! ### The parts of the entry -/

theorem duplicateBytes_length (d : Option (BitVec 32 × Bool)) : (duplicateBytes d).length = 5 := by
  cases d <;> rfl

theorem paramBytes_length (params : List Byte) : ((params ++ List.replicate 4 0xFF).take 4).length = 4 := by
  rw [List.length_take, List.length_append, List.length_replicate]
  omega

/-- The fields of the list context (R203). -/
def contextParts (code : Byte) (c : ListContext) (left : Option Nat) : List (List Byte) :=
  [[code], [byteOf c.cue], [byteOf c.params.length], (c.params ++ List.replicate 4 0xFF).take 4, bytesBE 2 c.position,
    timerBE 2 left]

theorem contextParts_lengths (code : Byte) (c : ListContext) (left : Option Nat) :
    (contextParts code c left).map List.length = [1, 1, 1, 4, 2, 2] := by
  simp only [contextParts, List.map_cons, List.map_nil, List.length_singleton, paramBytes_length, bytesBE_length, timerBE_length]

theorem listBytes_of_context {l : ListState} {c : ListContext} (context : l.context = some c) :
    listBytes l = (contextParts l.code c l.waitLeft).flatten := by
  unfold listBytes contextParts
  rw [context]
  simp [List.append_assoc]

theorem listBytes_length (l : ListState) : (listBytes l).length = 11 := by
  cases context : l.context with
  | none =>
    unfold listBytes
    rw [context]
    rfl
  | some c =>
    rw [listBytes_of_context context, List.length_flatten, contextParts_lengths]
    rfl

theorem listBytes_head (l : ListState) : (listBytes l).take 1 = [l.code] := by
  cases l <;> rfl

theorem lastCueBytes_length (r : Option CueRecord) : (lastCueBytes r).length = 3 := by
  cases r <;> rfl

theorem lastListBytes_length (r : Option ListRecord) : (lastListBytes r).length = 4 := by
  cases r <;> rfl

/-- The bytes of the source set (R203). -/
def sourceBytes (sources : List Nat) : List Byte := (List.range 8).map (sourceByte sources)

theorem sourceByte_bit (sources : List Nat) (k j : Nat) (low : j < 8) :
    (sourceByte sources k).getLsbD j = decide (8 * k + j ∈ sources) := by
  have spelled : sourceByte sources k = byteOf (bit (sources.contains (8 * k)) 0 + bit (sources.contains (8 * k + 1)) 1 +
      bit (sources.contains (8 * k + 2)) 2 + bit (sources.contains (8 * k + 3)) 3 + bit (sources.contains (8 * k + 4)) 4 +
      bit (sources.contains (8 * k + 5)) 5 + bit (sources.contains (8 * k + 6)) 6 + bit (sources.contains (8 * k + 7)) 7) :=
    congrArg byteOf (congrArg (· + _) (congrArg (· + _) (congrArg (· + _) (congrArg (· + _) (congrArg (· + _)
      (congrArg (· + _) (congrArg (· + _) (Nat.zero_add _))))))))
  have bits : ∀ b0 b1 b2 b3 b4 b5 b6 b7 : Bool, ∀ j < 8,
      (byteOf (bit b0 0 + bit b1 1 + bit b2 2 + bit b3 3 + bit b4 4 + bit b5 5 + bit b6 6 + bit b7 7)).getLsbD j =
        [b0, b1, b2, b3, b4, b5, b6, b7].getD j false := by decide
  rw [spelled, bits _ _ _ _ _ _ _ _ j low, ← List.contains_eq_mem]
  interval_cases j <;> rfl

/-- The parts of the identity entry (R203). -/
def identityParts (s : State) : List (List Byte) :=
  [split32 s.stc.unit, [byteOf s.number],
    [byteOf (bit s.stc.straps.fast 0 + bit s.stc.straps.latched 1 + bit s.stc.straps.activeHigh 2)],
    [byteOf s.stc.mode.code], [byteOf s.stc.reason.code],
    split32 (s.stc.identity.elim 0 (·.1)), bytesBE 2 (s.stc.identity.elim 0 (·.2)), [kindByte s.stc.kind],
    split16 s.stc.restarts, split16 s.stc.duplicates, duplicateBytes s.stc.lastDuplicate, [alarmByte s],
    sourceBytes s.emc.sources, listBytes s.cue.list, lastCueBytes s.cue.lastCue, lastListBytes s.cue.lastList,
    split16 s.cue.overtaken, split16 s.cue.undefined, [byteOf s.bus.tfc],
    [byteOf (bit s.bus.txQuiet 0 + bit s.bus.yieldOwed 1)], [byteOf s.bus.recovery],
    [byteOf (queueCount s FrameBody.isEvac)], [byteOf (queueCount s FrameBody.isMark)],
    [byteOf (queueCount s FrameBody.isAlign)], [byteOf (queueCount s FrameBody.isRoll)],
    [byteOf (queueCount s FrameBody.isReply)]]

/-- The lengths of the parts of the identity entry. -/
def identityLengths : List Nat := [4, 1, 1, 1, 1, 4, 2, 1, 2, 2, 5, 1, 8, 11, 3, 4, 2, 2, 1, 1, 1, 1, 1, 1, 1, 1]

theorem identityParts_lengths (s : State) : (identityParts s).map List.length = identityLengths := by
  have sources : (sourceBytes s.emc.sources).length = 8 := by rw [sourceBytes, List.length_map, List.length_range]
  simp only [identityParts, List.map_cons, List.map_nil, List.length_singleton, bytesBE_length, duplicateBytes_length,
    sources, listBytes_length, lastCueBytes_length, lastListBytes_length]
  rfl

theorem identityBytes_parts (s : State) : identityBytes s = (identityParts s).flatten := by
  simp [identityBytes, identityParts, sourceBytes, List.append_assoc]

theorem identityBytes_length (s : State) : (identityBytes s).length = 63 := by
  rw [identityBytes_parts, List.length_flatten, identityParts_lengths]
  rfl

/-- Bytes of the identity entry that lie in its part i, from byte d of the part. -/
theorem identity_field {x : List Byte} {off n : Nat} (i d : Nat) (part : (identityParts s)[i]? = some x)
    (place : (identityLengths.take i).sum + d = off) (fits : d + n ≤ x.length) :
    reportField s 0 off n = (x.drop d).take n :=
  within_part (identityBytes_parts s) (identityParts_lengths s) i d part place fits

/-- A whole part of the identity entry. -/
theorem identity_part {x : List Byte} {off n : Nat} (i : Nat) (part : (identityParts s)[i]? = some x)
    (place : (identityLengths.take i).sum = off) (whole : x.length = n) : reportField s 0 off n = x := by
  rw [identity_field i 0 part place (by omega), List.drop_zero, List.take_of_length_le (by omega)]

end Sys2Proof.Machine
end

section
/-! PROOFS. The identity entry shows R203's fields. -/

namespace Sys2Proof.Machine

variable {s : State}

/-- Two fields that follow one another. -/
theorem reportField_add (s : State) (space off a b : Nat) :
    reportField s space off (a + b) = reportField s space off a ++ reportField s space (off + a) b := by
  unfold reportField
  rw [List.take_add, List.drop_drop]

theorem ShowsBits.of_eq {l field : List Byte} {bits : List Bool} (shows : ShowsBits l bits) (same : field = l) :
    ShowsBits field bits := same ▸ shows

/-- A field of the list context (R203), at byte 33 of the entry. -/
theorem context_field {c : ListContext} {x : List Byte} {off n : Nat} (context : s.cue.list.context = some c) (i d : Nat)
    (part : (contextParts s.cue.list.code c s.cue.list.waitLeft)[i]? = some x)
    (place : 33 + (([1, 1, 1, 4, 2, 2].take i).sum + d) = off) (fits : d + n ≤ x.length)
    (inside : off + n ≤ 44) : reportField s 0 off n = (x.drop d).take n := by
  rw [identity_field 13 (([1, 1, 1, 4, 2, 2].take i).sum + d) rfl place (by rw [listBytes_length]; omega)]
  exact within_part (listBytes_of_context context) (contextParts_lengths _ _ _) i d part rfl fits

/-- The alarm bits of the entry: in EMERGENCY or not, as the alarm unit says. -/
theorem alarmByte_shows (s : State) : ShowsBits [alarmByte s]
    [s.emc.contact, s.emc.resetContact, s.emc.latch, s.ownAlarm, s.emc.emergency, s.emc.refresh.isSome] :=
  shows_six _ _ _ _ _ _

theorem identity_station (s : State) :
    reportField s 0 0 4 = split32 s.stc.unit ∧ reportField s 0 4 1 = bytesBE 1 s.number ∧
    ShowsBits (reportField s 0 5 1) [s.stc.straps.fast, s.stc.straps.latched, s.stc.straps.activeHigh] ∧
    reportField s 0 6 1 = bytesBE 1 s.stc.mode.code ∧ reportField s 0 7 1 = bytesBE 1 s.stc.reason.code := by
  exact ⟨identity_part 0 rfl rfl rfl, identity_part 1 rfl rfl rfl, (shows_three _ _ _).of_eq (identity_part 2 rfl rfl rfl),
    identity_part 3 rfl rfl rfl, identity_part 4 rfl rfl rfl⟩

theorem identity_configuration (s : State) :
    (s.stc.identity = none → reportField s 0 8 6 = List.replicate 6 0#8) ∧
    (∀ id n, s.stc.identity = some (id, n) → reportField s 0 8 4 = split32 id ∧ reportField s 0 12 2 = bytesBE 2 n) ∧
    (s.stc.kind = some .delay → reportField s 0 14 1 = [0#8]) ∧
    (s.stc.kind = some .origin → reportField s 0 14 1 = [1#8]) := by
  have id : reportField s 0 8 4 = split32 (s.stc.identity.elim 0 (·.1)) := identity_part 5 rfl rfl rfl
  have number : reportField s 0 12 2 = bytesBE 2 (s.stc.identity.elim 0 (·.2)) := identity_part 6 rfl rfl rfl
  have kind : reportField s 0 14 1 = [kindByte s.stc.kind] := identity_part 7 rfl rfl rfl
  refine ⟨fun absent => ?_, fun i n present => ?_, fun delay => ?_, fun origin => ?_⟩
  · rw [reportField_add s 0 8 4 2, id, number, absent]
    rfl
  · rw [id, number, present]
    exact ⟨rfl, rfl⟩
  · rw [kind, delay]
    rfl
  · rw [kind, origin]
    rfl

theorem identity_records (s : State) :
    reportField s 0 15 2 = split16 s.stc.restarts ∧ reportField s 0 17 2 = split16 s.stc.duplicates ∧
    (s.stc.lastDuplicate = none → reportField s 0 19 5 = List.replicate 5 0#8) ∧
    (∀ unit won, s.stc.lastDuplicate = some (unit, won) →
      reportField s 0 19 5 = split32 unit ++ [if won then 1#8 else 2#8]) := by
  have last : reportField s 0 19 5 = duplicateBytes s.stc.lastDuplicate := identity_part 10 rfl rfl (duplicateBytes_length _)
  refine ⟨identity_part 8 rfl rfl rfl, identity_part 9 rfl rfl rfl, fun absent => ?_, fun unit won present => ?_⟩
  · rw [last, absent]
    rfl
  · rw [last, present]
    rfl

theorem identity_alarm (s : State) :
    ShowsBits (reportField s 0 24 1)
      [s.emc.contact, s.emc.resetContact, s.emc.latch, s.ownAlarm, s.emc.emergency, s.emc.refresh.isSome] ∧
    ∀ n < 64, ((reportField s 0 (25 + n / 8) 1).getD 0 0).getLsbD (n % 8) = decide (n ∈ s.emc.sources) := by
  refine ⟨?_, fun n few => ?_⟩
  · exact (alarmByte_shows s).of_eq (identity_part 11 rfl rfl rfl)
  · have part : reportField s 0 (25 + n / 8) 1 = ((sourceBytes s.emc.sources).drop (n / 8)).take 1 :=
      identity_field 12 (n / 8) rfl rfl (by rw [sourceBytes, List.length_map, List.length_range]; omega)
    have one : ((reportField s 0 (25 + n / 8) 1).getD 0 0) = sourceByte s.emc.sources (n / 8) := by
      have few : n / 8 < 8 := by omega
      rw [part, sourceBytes]
      generalize n / 8 = k at few
      interval_cases k <;> rfl
    rw [one, sourceByte_bit _ _ _ (Nat.mod_lt _ (by decide)), Nat.div_add_mod]

theorem identity_list (s : State) :
    (s.cue.list = .idle → reportField s 0 33 1 = [0#8]) ∧
    (∀ c, s.cue.list = .running c → reportField s 0 33 1 = [1#8]) ∧
    (∀ c left, s.cue.list = .waiting c left →
      reportField s 0 33 1 = [2#8] ∧ ShowsTimer 2 (reportField s 0 42 2) (some left)) ∧
    (∀ c, s.cue.list.context = some c → reportField s 0 34 1 = bytesBE 1 c.cue ∧
      reportField s 0 35 1 = bytesBE 1 c.params.length ∧ reportField s 0 36 (min 4 c.params.length) = c.params.take 4 ∧
      reportField s 0 40 2 = bytesBE 2 c.position) := by
  have code : reportField s 0 33 1 = [s.cue.list.code] :=
    (identity_field 13 0 rfl rfl (by rw [listBytes_length]; decide)).trans (listBytes_head _)
  refine ⟨fun idle => ?_, fun c running => ?_, fun c left waiting => ?_, fun c context => ?_⟩
  · rw [code, idle]
    rfl
  · rw [code, running]
    rfl
  · have timer : reportField s 0 42 2 = timerBE 2 s.cue.list.waitLeft := by
      refine (context_field (c := c) (n := 2) (by rw [waiting]; rfl) 5 0 rfl rfl (by rw [timerBE_length]) (by decide)).trans ?_
      exact List.take_of_length_le (by rw [List.length_drop, timerBE_length])
    rw [code, timer, waiting]
    exact ⟨rfl, timerBE_shows 2 (some left)⟩
  · refine ⟨context_field context 1 0 rfl rfl le_rfl (by decide), context_field context 2 0 rfl rfl le_rfl (by decide), ?_,
      context_field context 4 0 rfl rfl le_rfl (by decide)⟩
    have params : reportField s 0 36 (min 4 c.params.length) = _ :=
      context_field context 3 0 rfl rfl (by rw [paramBytes_length]; omega) (by omega)
    rw [params, List.drop_zero, List.take_take,
      Nat.min_eq_left (Nat.min_le_left _ _), List.take_append_of_le_length (Nat.min_le_right _ _), List.take_eq_take_iff]
    omega

theorem identity_last (s : State) :
    (s.cue.lastCue = none → reportField s 0 44 1 = [0#8] ∧ reportField s 0 46 1 = [0#8]) ∧
    (∀ r, s.cue.lastCue = some r → reportField s 0 44 1 = bytesBE 1 r.source ∧ reportField s 0 45 1 = [r.number] ∧
      reportField s 0 46 1 = [r.outcome.code]) ∧
    (s.cue.lastList = none → reportField s 0 48 1 = [0#8]) ∧
    (∀ r, s.cue.lastList = some r → reportField s 0 47 1 = bytesBE 1 r.cue ∧ reportField s 0 49 2 = bytesBE 2 r.position ∧
      reportField s 0 48 1 = [r.ending.code]) := by
  have cue : ∀ d n, d + n ≤ 3 → reportField s 0 (44 + d) n = ((lastCueBytes s.cue.lastCue).drop d).take n := fun d n fits =>
    identity_field 14 d rfl rfl (by rwa [lastCueBytes_length])
  have list : ∀ d n, d + n ≤ 4 → reportField s 0 (47 + d) n = ((lastListBytes s.cue.lastList).drop d).take n :=
    fun d n fits => identity_field 15 d rfl rfl (by rwa [lastListBytes_length])
  refine ⟨fun absent => ?_, fun r present => ?_, fun absent => ?_, fun r present => ?_⟩
  · rw [absent] at cue
    exact ⟨cue 0 1 (by decide), cue 2 1 (by decide)⟩
  · rw [present] at cue
    exact ⟨cue 0 1 (by decide), cue 1 1 (by decide), cue 2 1 (by decide)⟩
  · rw [absent] at list
    exact list 1 1 (by decide)
  · rw [present] at list
    exact ⟨list 0 1 (by decide), list 2 2 (by decide), list 1 1 (by decide)⟩

theorem identity_bus (s : State) :
    reportField s 0 51 2 = split16 s.cue.overtaken ∧ reportField s 0 53 2 = split16 s.cue.undefined ∧
    reportField s 0 55 1 = bytesBE 1 s.bus.tfc ∧ ShowsBits (reportField s 0 56 1) [s.bus.txQuiet, s.bus.yieldOwed] ∧
    reportField s 0 57 1 = bytesBE 1 s.bus.recovery ∧ reportField s 0 58 1 = bytesBE 1 (queueCount s FrameBody.isEvac) ∧
    reportField s 0 59 1 = bytesBE 1 (queueCount s FrameBody.isMark) ∧
    reportField s 0 60 1 = bytesBE 1 (queueCount s FrameBody.isAlign) ∧
    reportField s 0 61 1 = bytesBE 1 (queueCount s FrameBody.isRoll) ∧
    reportField s 0 62 1 = bytesBE 1 (queueCount s FrameBody.isReply) := by
  exact ⟨identity_part 16 rfl rfl rfl, identity_part 17 rfl rfl rfl, identity_part 18 rfl rfl rfl,
    (shows_two _ _).of_eq (identity_part 19 rfl rfl rfl),
    identity_part 20 rfl rfl rfl, identity_part 21 rfl rfl rfl, identity_part 22 rfl rfl rfl, identity_part 23 rfl rfl rfl,
    identity_part 24 rfl rfl rfl, identity_part 25 rfl rfl rfl⟩

theorem identityShown (s : State) : IdentityShown s := by
  obtain ⟨unit, number, straps, mode, reason⟩ := identity_station s
  obtain ⟨noIdentity, identity, delay, origin⟩ := identity_configuration s
  obtain ⟨restarts, duplicates, noDuplicate, duplicate⟩ := identity_records s
  obtain ⟨alarm, sources⟩ := identity_alarm s
  obtain ⟨idle, running, waiting, context⟩ := identity_list s
  obtain ⟨noCue, cue, noList, list⟩ := identity_last s
  refine ⟨unit, number, straps, mode, reason, noIdentity, identity, delay, origin, restarts, duplicates, noDuplicate, duplicate,
    alarm, sources, idle, running, waiting, context, noCue, fun r present => ?_, noList, fun r present => ?_, identity_bus s⟩
  · obtain ⟨source, taken, outcome⟩ := cue r present
    refine ⟨source, taken, outcome.trans ?_⟩
    cases r.outcome <;> rfl
  · obtain ⟨cued, position, ending⟩ := list r present
    refine ⟨cued, position, ending.trans ?_⟩
    rcases r.ending with _ | _ | _ | _ | fault
    · rfl
    · rfl
    · rfl
    · rfl
    · cases fault <;> rfl

end Sys2Proof.Machine
end

section
/-! PROOFS. The alignment entry, the counters and the air entry (R203), and spaces of entries of one size (R191). -/

namespace Sys2Proof.Machine

variable {s : State}

/-! ### The alignment entry -/

/-- The parts of the alignment entry (R203). -/
def alignmentParts (s : State) : List (List Byte) :=
  [[(solverCode s.solver.state).setWidth 8], [byteOf s.solver.rank], bytesBE 3 s.solver.delay, bytesBE 3 s.solver.path,
    absentBE 1 (s.solver.winner.map (·.val)), [byteOf s.solver.offset],
    [byteOf (bit s.solver.cueFreeze 0 + bit s.solver.emergencyFreeze 1)], timerBE 3 s.solver.settle,
    timerBE 3 s.solver.hold.left, [s.solver.hold.code], timerBE 3 s.solver.refresh, [s.solver.seq],
    [byteOf (bit s.solver.handed 0)], temperatureBE s.solver.lastTemperature, absentBE 3 s.solver.computed,
    [byteOf (bit s.solver.range 0)], split16 s.solver.lowClamps, [flagsByte 0 (alignFlags s)]]

/-- The lengths of the parts of the alignment entry. -/
def alignmentLengths : List Nat := [1, 1, 3, 3, 1, 1, 1, 3, 3, 1, 3, 1, 1, 2, 3, 1, 2, 1]

theorem alignmentParts_lengths (s : State) : (alignmentParts s).map List.length = alignmentLengths := by
  simp only [alignmentParts, List.map_cons, List.map_nil, List.length_singleton, bytesBE_length, absentBE_length,
    timerBE_length, temperatureBE_length]
  rfl

theorem alignmentBytes_parts (s : State) : alignmentBytes s = (alignmentParts s).flatten := by
  simp [alignmentBytes, alignmentParts, List.append_assoc]

theorem alignmentBytes_length (s : State) : (alignmentBytes s).length = 32 := by
  rw [alignmentBytes_parts, List.length_flatten, alignmentParts_lengths]
  rfl

/-- A whole part of the alignment entry. -/
theorem alignment_part {x : List Byte} {off n : Nat} (i : Nat) (part : (alignmentParts s)[i]? = some x)
    (place : (alignmentLengths.take i).sum = off) (whole : x.length = n) : reportField s 1 off n = x := by
  have field : reportField s 1 off n = (x.drop 0).take n :=
    within_part (alignmentBytes_parts s) (alignmentParts_lengths s) i 0 part place (by omega)
  rw [field, List.drop_zero, List.take_of_length_le (by omega)]

theorem alignment_hold (s : State) :
    (s.solver.hold = .stopped → reportField s 1 14 4 = [0xFF#8, 0xFF#8, 0xFF#8, 0#8]) ∧
    (∀ left, s.solver.hold = .running left → ShowsTimer 3 (reportField s 1 14 3) (some left) ∧
      reportField s 1 17 1 = [1#8]) ∧
    (∀ left, s.solver.hold = .suspended left → ShowsTimer 3 (reportField s 1 14 3) (some left) ∧
      reportField s 1 17 1 = [2#8]) := by
  have timer : reportField s 1 14 3 = timerBE 3 s.solver.hold.left := alignment_part 8 rfl rfl (timerBE_length _ _)
  have code : reportField s 1 17 1 = [s.solver.hold.code] := alignment_part 9 rfl rfl rfl
  refine ⟨fun stopped => ?_, fun left running => ?_, fun left suspended => ?_⟩
  · rw [reportField_add s 1 14 3 1, timer, code, stopped]
    rfl
  · rw [timer, code, running]
    exact ⟨timerBE_shows 3 (some left), rfl⟩
  · rw [timer, code, suspended]
    exact ⟨timerBE_shows 3 (some left), rfl⟩

theorem alignmentShown (s : State) : AlignmentShown s := by
  obtain ⟨stopped, running, suspended⟩ := alignment_hold s
  have state : reportField s 1 0 1 = [(solverCode s.solver.state).setWidth 8] := alignment_part 0 rfl rfl rfl
  have winner : reportField s 1 8 1 = _ := alignment_part 4 rfl rfl (absentBE_length _ _)
  have settle : reportField s 1 11 3 = _ := alignment_part 7 rfl rfl (timerBE_length _ _)
  have refresh : reportField s 1 18 3 = _ := alignment_part 10 rfl rfl (timerBE_length _ _)
  have temperature : reportField s 1 23 2 = _ := alignment_part 13 rfl rfl (temperatureBE_length _)
  have computed : reportField s 1 25 3 = _ := alignment_part 14 rfl rfl (absentBE_length _ _)
  have flags : reportField s 1 31 1 = [flagsByte 0 (alignFlags s)] := alignment_part 17 rfl rfl rfl
  refine ⟨?_, alignment_part 1 rfl rfl rfl, alignment_part 2 rfl rfl rfl, alignment_part 3 rfl rfl rfl,
    winner ▸ absentBE_shows _ _, alignment_part 5 rfl rfl rfl, (shows_two _ _).of_eq (alignment_part 6 rfl rfl rfl),
    settle ▸ timerBE_shows _ _, stopped, running, suspended, refresh ▸ timerBE_shows _ _, alignment_part 11 rfl rfl rfl,
    (shows_one _).of_eq (alignment_part 12 rfl rfl rfl), temperature ▸ temperatureBE_shows _, computed ▸ absentBE_shows _ _,
    (shows_one _).of_eq (alignment_part 15 rfl rfl rfl), alignment_part 16 rfl rfl rfl, flags ▸ flagsByte_shows _ _⟩
  rw [state, bytesBE_one, byteOf, BitVec.ofNat_toNat]

/-! ### Entries of one size -/

/-- Bytes of entry i of a space whose entries have k bytes each. -/
theorem entry_field {bytes x : List Byte} {entries : List (List Byte)} {k n : Nat} (layout : bytes = entries.flatten)
    (uniform : ∀ e ∈ entries, e.length = k) (i d : Nat) (entry : entries[i]? = some x) (fits : d + n ≤ k) :
    (bytes.drop (k * i + d)).take n = (x.drop d).take n := by
  obtain ⟨few, there⟩ := List.getElem?_eq_some_iff.mp entry
  have lengths : entries.map List.length = List.replicate entries.length k :=
    List.eq_replicate_iff.mpr ⟨List.length_map _, fun n member => by
      obtain ⟨e, listed, rfl⟩ := List.mem_map.mp member
      exact uniform e listed⟩
  refine within_part layout lengths i d entry ?_ (by rwa [uniform x (there ▸ List.getElem_mem few)])
  rw [List.take_replicate, List.sum_replicate, Nat.min_eq_left few.le, smul_eq_mul, Nat.mul_comm]

theorem entries_length {entries : List (List Byte)} {k : Nat} (uniform : ∀ e ∈ entries, e.length = k) :
    entries.flatten.length = k * entries.length := by
  induction entries with
  | nil => rfl
  | cons e es ih =>
    obtain ⟨first, rest⟩ := List.forall_mem_cons.mp uniform
    rw [List.flatten_cons, List.length_append, first, ih rest, List.length_cons, Nat.mul_succ, Nat.add_comm]

/-! ### The counters and the air entry -/

theorem counters_uniform (s : State) : ∀ e ∈ s.counters.toList.map split16, e.length = 2 := fun _ member => by
  obtain ⟨_, _, rfl⟩ := List.mem_map.mp member
  rfl

theorem counterBytes_length (s : State) : (spaceBytes s 4).length = 2 * 20 := by
  rw [spaceBytes, entries_length (counters_uniform s), List.length_map, Vector.length_toList]

theorem countersAndAirShown (s : State) : CountersAndAirShown s := by
  have airField : ∀ off n, reportField s 5 off n = (([if s.air.state = .valid then 1 else 0] ++
    temperatureBE (some s.air.temperature) ++ absentBE 1 s.air.humidity ++ [byteOf s.air.misses] : List Byte).drop off).take n :=
    fun _ _ => rfl
  refine ⟨fun k => ?_, rfl, ?_, ?_, ?_⟩
  · have entry : (s.counters.toList.map split16)[k.val]? = some (split16 s.counters[k]) := by simp
    exact entry_field rfl (counters_uniform s) k 0 entry (by decide)
  · exact temperatureBE_shows (some s.air.temperature)
  · rw [airField]
    cases s.air.humidity <;> rfl
  · rw [airField]
    cases s.air.humidity <;> rfl

theorem airBytes_length (s : State) : (spaceBytes s 5).length = 5 := by
  rw [spaceBytes, List.length_append, List.length_append, List.length_append, temperatureBE_length, absentBE_length]
  rfl

end Sys2Proof.Machine
end

section
/-! PROOFS. The entries of the channels space (R203). -/

namespace Sys2Proof.Machine

variable {s : State}

/-! ### Settings -/

theorem shelfBytes_length (shelf : Option Shelf) : (shelfBytes shelf).length = 2 := by
  cases shelf <;> rfl

theorem shelfBytes_shown (shelf : Option Shelf) : ShelfShown (shelfBytes shelf) shelf := by
  cases shelf <;> rfl

theorem settingBytes_length (w : Setting) : (settingBytes w).length = 3 := by
  cases w with
  | flat => rfl
  | eq preset shelf => rw [settingBytes, List.length_append, shelfBytes_length]; rfl

theorem settingBytes_shown (w : Setting) : SettingShown (settingBytes w) w := by
  cases w with
  | flat => rfl
  | eq preset shelf => exact ⟨rfl, shelfBytes_shown shelf⟩

theorem crossfadeBytes_length (f : Crossfade) : (crossfadeBytes f).length = 5 := by
  cases f with
  | idle => rfl
  | running a b k => rw [crossfadeBytes, List.length_append, settingBytes_length, bytesBE_length]

theorem waitingBytes_length (w : Option Setting) : (waitingBytes w).length = 3 := by
  cases w with
  | none => rfl
  | some w => exact settingBytes_length w

/-! ### The station's entry -/

/-- The parts of the station's entry (R203). -/
def stationParts (s : State) : List (List Byte) :=
  [[byteOf s.slewCode], absentBE 1 s.eq.pathBand, absentBE 1 s.eq.humidityBand, shelfBytes s.eq.shelf,
    absentBE 1 (s.eq.cell.map (·.1)), absentBE 1 (s.eq.cell.map (·.2)), [byteOf (bit s.level.present 0)],
    [byteOf s.silenceLevel], bytesBE 2 s.standbyDelay, List.replicate 23 0]

/-- The lengths of the parts of the station's entry. -/
def stationLengths : List Nat := [1, 1, 1, 2, 1, 1, 1, 1, 2, 23]

theorem stationParts_lengths (s : State) : (stationParts s).map List.length = stationLengths := by
  simp only [stationParts, List.map_cons, List.map_nil, List.length_singleton, bytesBE_length, absentBE_length,
    shelfBytes_length, List.length_replicate]
  rfl

theorem stationAudioBytes_parts (s : State) : stationAudioBytes s = (stationParts s).flatten := by
  simp only [stationAudioBytes, stationParts, List.flatten_cons, List.flatten_nil, List.append_assoc, List.append_nil]

theorem stationAudioBytes_length (s : State) : (stationAudioBytes s).length = 34 := by
  rw [stationAudioBytes_parts, List.length_flatten, stationParts_lengths]
  rfl

/-! ### A channel's entry -/

/-- The parts of a channel's entry (R203). -/
def channelParts (s : State) (c : Fin 4) : List (List Byte) :=
  let ch := s.channels[c]
  [bytesBE 2 ch.target, bytesBE 4 ch.applied, [ch.slew.code], bytesBE 2 (s.trim c), split16 ch.jumps, [byteOf ch.preset],
    settingBytes ch.active, crossfadeBytes ch.crossfade, waitingBytes ch.waiting, [byteOf ch.storedGain],
    [byteOf (bit ch.storedMute 0 + bit (ch.gainTarget == .silence) 1 + bit (ch.ramp != .idle) 2)], [ch.gainTarget.code],
    [ch.power.code], [causeByte ch.cause],
    [byteOf (bit ch.forcedOff 0 + bit ch.enable 1 + bit ch.ready 2 + bit ch.faultLine 3 + bit (s.autoStandby c) 4)],
    timerBE 3 (ch.silence.or ch.wake), bytesBE 2 (s.wakeLimit c)]

/-- The lengths of the parts of a channel's entry. -/
def channelLengths : List Nat := [2, 4, 1, 2, 2, 1, 3, 5, 3, 1, 1, 1, 1, 1, 1, 3, 2]

theorem channelParts_lengths (s : State) (c : Fin 4) : (channelParts s c).map List.length = channelLengths := by
  simp only [channelParts, List.map_cons, List.map_nil, List.length_singleton, bytesBE_length, timerBE_length,
    settingBytes_length, crossfadeBytes_length, waitingBytes_length]
  rfl

theorem channelBytes_parts (s : State) (c : Fin 4) : channelBytes s c = (channelParts s c).flatten := by
  simp only [channelBytes, channelParts, List.flatten_cons, List.flatten_nil, List.append_assoc, List.append_nil,
    List.cons_append, List.nil_append]

theorem channelBytes_length (s : State) (c : Fin 4) : (channelBytes s c).length = 34 := by
  rw [channelBytes_parts, List.length_flatten, channelParts_lengths]
  rfl

/-! ### The space -/

/-- The entries of the channels space (R203). -/
def audioEntries (s : State) : List (List Byte) := stationAudioBytes s :: (List.finRange 4).map (channelBytes s)

theorem audioEntries_uniform (s : State) : ∀ e ∈ audioEntries s, e.length = 34 :=
  List.forall_mem_cons.mpr ⟨stationAudioBytes_length s, fun _ member => by
    obtain ⟨c, _, rfl⟩ := List.mem_map.mp member
    exact channelBytes_length s c⟩

theorem audioBytes_length (s : State) : (spaceBytes s 3).length = 34 * 5 := entries_length (audioEntries_uniform s)

/-- Bytes of the station's entry that lie in its part i. -/
theorem station_part {x : List Byte} {off n : Nat} (i : Nat) (part : (stationParts s)[i]? = some x)
    (place : (stationLengths.take i).sum = off) (whole : x.length = n) (inside : off + n ≤ 34) :
    reportField s 3 off n = x := by
  have entry : reportField s 3 (34 * 0 + off) n = ((stationAudioBytes s).drop off).take n :=
    entry_field (entries := audioEntries s) rfl (audioEntries_uniform s) 0 off rfl inside
  rw [Nat.mul_zero, Nat.zero_add] at entry
  rw [entry, within_part (stationAudioBytes_parts s) (stationParts_lengths s) i 0 part place (by omega), List.drop_zero,
    List.take_of_length_le (by omega)]

/-- Bytes of a channel's entry that lie in its part i, from byte d of the part. -/
theorem channel_bytes {c : Fin 4} {x : List Byte} {off n : Nat} (i d : Nat) (part : (channelParts s c)[i]? = some x)
    (place : (channelLengths.take i).sum + d = off) (fits : d + n ≤ x.length) (inside : off + n ≤ 34) :
    reportField s 3 (34 * (c + 1) + off) n = (x.drop d).take n := by
  have listed : (audioEntries s)[c.val + 1]? = some (channelBytes s c) := by simp [audioEntries]
  have entry : reportField s 3 (34 * (c + 1) + off) n = ((channelBytes s c).drop off).take n :=
    entry_field (entries := audioEntries s) rfl (audioEntries_uniform s) (c + 1) off listed inside
  rw [entry]
  exact within_part (channelBytes_parts s c) (channelParts_lengths s c) i d part place fits

/-- A whole part of a channel's entry. -/
theorem channel_part {c : Fin 4} {x : List Byte} {off n : Nat} (i : Nat) (part : (channelParts s c)[i]? = some x)
    (place : (channelLengths.take i).sum = off) (whole : x.length = n) (inside : off + n ≤ 34) :
    reportField s 3 (34 * (c + 1) + off) n = x := by
  rw [channel_bytes i 0 part place (by omega) inside, List.drop_zero, List.take_of_length_le (by omega)]

/-! ### What the entries show -/

theorem station_shown (s : State) :
    reportField s 3 0 1 = bytesBE 1 s.slewCode ∧ ShowsOption 1 (reportField s 3 1 1) s.eq.pathBand ∧
    ShowsOption 1 (reportField s 3 2 1) s.eq.humidityBand ∧ ShelfShown (reportField s 3 3 2) s.eq.shelf ∧
    ShowsOption 1 (reportField s 3 5 1) (s.eq.cell.map (·.1)) ∧ ShowsOption 1 (reportField s 3 6 1) (s.eq.cell.map (·.2)) ∧
    reportField s 3 7 1 = [if s.level.present then 1#8 else 0#8] ∧ reportField s 3 8 1 = bytesBE 1 s.silenceLevel ∧
    reportField s 3 9 2 = bytesBE 2 s.standbyDelay ∧ reportField s 3 11 23 = List.replicate 23 0#8 := by
  have path : reportField s 3 1 1 = _ := station_part 1 rfl rfl (absentBE_length _ _) (by decide)
  have humidity : reportField s 3 2 1 = _ := station_part 2 rfl rfl (absentBE_length _ _) (by decide)
  have shelf : reportField s 3 3 2 = _ := station_part 3 rfl rfl (shelfBytes_length _) (by decide)
  have row : reportField s 3 5 1 = _ := station_part 4 rfl rfl (absentBE_length _ _) (by decide)
  have column : reportField s 3 6 1 = _ := station_part 5 rfl rfl (absentBE_length _ _) (by decide)
  have present : reportField s 3 7 1 = [byteOf (bit s.level.present 0)] := station_part 6 rfl rfl rfl (by decide)
  refine ⟨station_part 0 rfl rfl rfl (by decide), path ▸ absentBE_shows _ _, humidity ▸ absentBE_shows _ _,
    shelf ▸ shelfBytes_shown _, row ▸ absentBE_shows _ _, column ▸ absentBE_shows _ _, present.trans ?_,
    station_part 7 rfl rfl rfl (by decide), station_part 8 rfl rfl rfl (by decide), station_part 9 rfl rfl rfl (by decide)⟩
  cases s.level.present <;> rfl

/-- The alignment fields of a channel's entry (R203). -/
theorem channel_alignment_shown (s : State) (c : Fin 4) :
    reportField s 3 (34 * (c + 1) + 0) 2 = bytesBE 2 s.channels[c].target ∧
    reportField s 3 (34 * (c + 1) + 2) 4 = bytesBE 4 s.channels[c].applied ∧
    reportField s 3 (34 * (c + 1) + 6) 1 = [s.channels[c].slew.code] ∧
    reportField s 3 (34 * (c + 1) + 7) 2 = bytesBE 2 (s.trim c) ∧
    reportField s 3 (34 * (c + 1) + 9) 2 = split16 s.channels[c].jumps ∧
    reportField s 3 (34 * (c + 1) + 11) 1 = bytesBE 1 s.channels[c].preset :=
  ⟨channel_part 0 rfl rfl rfl (by decide), channel_part 1 rfl rfl rfl (by decide), channel_part 2 rfl rfl rfl (by decide),
    channel_part 3 rfl rfl rfl (by decide), channel_part 4 rfl rfl rfl (by decide), channel_part 5 rfl rfl rfl (by decide)⟩

/-- The settings of a channel's entry (R203). -/
theorem channel_settings_shown (s : State) (c : Fin 4) :
    SettingShown (reportField s 3 (34 * (c + 1) + 12) 3) s.channels[c].active ∧
    (s.channels[c].crossfade = .idle → reportField s 3 (34 * (c + 1) + 15) 1 = [0xFF#8]) ∧
    (∀ a b k, s.channels[c].crossfade = .running a b k → SettingShown (reportField s 3 (34 * (c + 1) + 15) 3) b ∧
      reportField s 3 (34 * (c + 1) + 18) 2 = bytesBE 2 k) ∧
    (s.channels[c].waiting = none → reportField s 3 (34 * (c + 1) + 20) 1 = [0xFF#8]) ∧
    (∀ w, s.channels[c].waiting = some w → SettingShown (reportField s 3 (34 * (c + 1) + 20) 3) w) := by
  have active : reportField s 3 (34 * (c + 1) + 12) 3 = _ := channel_part 6 rfl rfl (settingBytes_length _) (by decide)
  have crossfade : ∀ d n, d + n ≤ 5 → reportField s 3 (34 * (c + 1) + (15 + d)) n =
      ((crossfadeBytes s.channels[c].crossfade).drop d).take n := fun d n fits =>
    channel_bytes 7 d rfl rfl (by rwa [crossfadeBytes_length]) (by omega)
  have waiting : ∀ n ≤ 3, reportField s 3 (34 * (c + 1) + 20) n = (waitingBytes s.channels[c].waiting).take n :=
    fun n fits => channel_bytes 8 0 rfl rfl (by
      rw [Nat.zero_add]
      exact fits.trans (waitingBytes_length _).ge) (by omega)
  refine ⟨active ▸ settingBytes_shown _, fun idle => ?_, fun a b k running => ?_, fun empty => ?_, fun w full => ?_⟩
  · rw [idle] at crossfade
    exact crossfade 0 1 (by decide)
  · rw [running, crossfadeBytes] at crossfade
    have towards := crossfade 0 3 (by decide)
    have position := crossfade 3 2 (by decide)
    rw [List.drop_zero, List.take_append_of_le_length (by rw [settingBytes_length]),
      List.take_of_length_le (by rw [settingBytes_length])] at towards
    rw [List.drop_append_of_le_length (by rw [settingBytes_length]), List.drop_of_length_le (by rw [settingBytes_length]),
      List.nil_append, List.take_of_length_le (by rw [bytesBE_length])] at position
    exact ⟨towards ▸ settingBytes_shown b, position⟩
  · rw [empty] at waiting
    exact waiting 1 (by decide)
  · rw [full] at waiting
    have whole := waiting 3 (by decide)
    rw [waitingBytes, List.take_of_length_le (by rw [settingBytes_length])] at whole
    exact whole ▸ settingBytes_shown w

/-- The gain fields of a channel's entry (R203). -/
theorem channel_gain_shown (s : State) (c : Fin 4) :
    reportField s 3 (34 * (c + 1) + 23) 1 = bytesBE 1 s.channels[c].storedGain ∧
    ShowsBits (reportField s 3 (34 * (c + 1) + 24) 1)
      [s.channels[c].storedMute, decide (s.channels[c].gainTarget = .silence), decide (s.channels[c].ramp ≠ .idle)] ∧
    (∀ g, s.channels[c].gainTarget = .gain g → reportField s 3 (34 * (c + 1) + 25) 1 = bytesBE 1 g) := by
  have bits : [s.channels[c].storedMute, decide (s.channels[c].gainTarget = .silence), decide (s.channels[c].ramp ≠ .idle)] =
      [s.channels[c].storedMute, s.channels[c].gainTarget == .silence, s.channels[c].ramp != .idle] := by
    rw [bne, beq_eq_decide, beq_eq_decide, decide_not]
  have target : reportField s 3 (34 * (c + 1) + 25) 1 = [s.channels[c].gainTarget.code] :=
    channel_part 11 rfl rfl rfl (by decide)
  rw [bits]
  refine ⟨channel_part 9 rfl rfl rfl (by decide), (shows_three _ _ _).of_eq (channel_part 10 rfl rfl rfl (by decide)),
    fun g aimed => ?_⟩
  rw [target, aimed]
  rfl

/-- The power fields of a channel's entry (R203). -/
theorem channel_power_shown (s : State) (c : Fin 4) :
    reportField s 3 (34 * (c + 1) + 26) 1 = [s.channels[c].power.code] ∧
    reportField s 3 (34 * (c + 1) + 27) 1 = [causeByte s.channels[c].cause] ∧
    ShowsBits (reportField s 3 (34 * (c + 1) + 28) 1)
      [s.channels[c].forcedOff, s.channels[c].enable, s.channels[c].ready, s.channels[c].faultLine, s.autoStandby c] ∧
    ShowsTimer 3 (reportField s 3 (34 * (c + 1) + 29) 3) (s.channels[c].silence.or s.channels[c].wake) ∧
    reportField s 3 (34 * (c + 1) + 32) 2 = bytesBE 2 (s.wakeLimit c) := by
  have timer : reportField s 3 (34 * (c + 1) + 29) 3 = _ := channel_part 15 rfl rfl (timerBE_length _ _) (by decide)
  exact ⟨channel_part 12 rfl rfl rfl (by decide), channel_part 13 rfl rfl rfl (by decide),
    (shows_five _ _ _ _ _).of_eq (channel_part 14 rfl rfl rfl (by decide)), timer ▸ timerBE_shows _ _,
    channel_part 16 rfl rfl rfl (by decide)⟩

theorem channelsShown (s : State) : ChannelsShown s := by
  obtain ⟨slewCode, path, humidity, shelf, row, column, present, silence, standby, unused⟩ := station_shown s
  refine ⟨slewCode, path, humidity, shelf, row, column, present, silence, standby, unused, fun c => ?_⟩
  obtain ⟨target, applied, slew, trim, jumps, preset⟩ := channel_alignment_shown s c
  obtain ⟨active, idle, running, empty, full⟩ := channel_settings_shown s c
  obtain ⟨gain, bits, aimed⟩ := channel_gain_shown s c
  obtain ⟨power, cause, lines, timer, limit⟩ := channel_power_shown s c
  refine ⟨target, applied, slew.trans ?_, trim, jumps, preset, active, idle, running, empty, full, gain, bits, aimed,
    power.trans ?_, cause.trans ?_, lines, timer, limit⟩
  · cases s.channels[c].slew <;> rfl
  · cases s.channels[c].power <;> rfl
  · rcases s.channels[c].cause with _ | cause
    · rfl
    · cases cause <;> rfl

end Sys2Proof.Machine
end

section
/-! PROOFS. The entries of the peers space (R203). -/

namespace Sys2Proof.Machine

variable {s : State}

/-! ### Flights -/

theorem flightPlaces_length (l : List Nat) : (flightBytes l).length = 10 := by
  rw [flightBytes, List.length_append, List.length_take, List.length_append, List.length_replicate, List.length_singleton]
  omega

theorem flightPlaces_get (l : List Nat) (k : Nat) (few : k < 3) :
    ((flightBytes l).drop (1 + 3 * k)).take 3 = bytesBE 3 (l.getD k 0) := by
  match l with
  | [] | [a] | [a, b] | a :: b :: c :: rest => interval_cases k <;> simp [flightBytes, bytesBE]

/-! ### An entry -/

/-- The parts of an entry of the peers space: its binding, the number held, state and flags, its age, its record, its flights
and its last MARK (R203). -/
def entryParts (binding : List Byte) (held state flags : Byte) (age : Option Nat) (record : Option AlignRecord)
    (flights : FlightRecord) (misses mark : Option Nat) : List (List Byte) :=
  [binding, [held], [state], [flags], absentBE 2 age, recordBytes record, flightBytes flights.history,
    flightBytes flights.suspects, absentBE 3 (effectiveFlight flights.history), absentBE 1 misses, absentBE 4 mark]

/-- The lengths of the parts of an entry of the peers space. -/
def entryLengths : List Nat := [3, 1, 1, 1, 2, 11, 10, 10, 3, 1, 4]

theorem bindingBytes_length (b : Binding) : (bindingBytes b).length = 3 := by
  cases b <;> rfl

theorem recordBytes_length (r : Option AlignRecord) : (recordBytes r).length = 11 := by
  rcases r with _ | ⟨_, _, _, _, _, _, _, _, _ | t⟩ <;> rfl

theorem recordBytes_temperature (r : AlignRecord) :
    ShowsTemperature (((recordBytes (some r)).drop 8).take 2) (r.temperature.map (·.toInt)) := by
  rcases r with ⟨_, _, _, _, _, _, _, _, _ | t⟩
  · rfl
  · show split16 t = split16 (BitVec.ofInt 16 t.toInt)
    rw [BitVec.ofInt_toInt]

theorem entryParts_lengths {binding : List Byte} (three : binding.length = 3) (held state flags : Byte) (age : Option Nat)
    (record : Option AlignRecord) (flights : FlightRecord) (misses mark : Option Nat) :
    (entryParts binding held state flags age record flights misses mark).map List.length = entryLengths := by
  simp only [entryParts, List.map_cons, List.map_nil, List.length_singleton, three, absentBE_length, recordBytes_length,
    flightPlaces_length]
  rfl

/-- The parts of a peer's entry (R203). -/
def peerParts (e : PeerEntry) : List (List Byte) :=
  entryParts (bindingBytes e.binding) (byteOf (e.peer.getD 0)) (if e.binding = .unused then 0xFF else e.state.code)
    (byteOf (bit e.record.isSome 0 + bit e.unread 1 + bit e.flights.stale 2 + bit e.lastMark.isSome 3)) e.age e.record
    e.flights (if e.binding = .unused then none else some e.flights.misses) (e.lastMark.map (·.toNat))

/-- The parts of the self record's entry (R203). -/
def selfParts (f : FlightRecord) : List (List Byte) :=
  entryParts [3, 0xFF, 0xFF] 0 0xFF (byteOf (bit f.stale 2)) none none f (some f.misses) none

theorem peerBytes_parts (e : PeerEntry) : peerBytes e = (peerParts e).flatten := by
  simp only [peerBytes, peerParts, entryParts, flightRecordBytes, List.flatten_cons, List.flatten_nil, List.append_assoc,
    List.append_nil]

theorem selfBytes_parts (f : FlightRecord) : selfBytes f = (selfParts f).flatten := by
  simp only [selfBytes, selfParts, entryParts, flightRecordBytes, List.flatten_cons, List.flatten_nil, List.append_assoc,
    List.append_nil, List.cons_append, List.nil_append, Option.map_none]

theorem peerParts_lengths (e : PeerEntry) : (peerParts e).map List.length = entryLengths :=
  entryParts_lengths (bindingBytes_length _) _ _ _ _ _ _ _ _

theorem selfParts_lengths (f : FlightRecord) : (selfParts f).map List.length = entryLengths :=
  entryParts_lengths rfl _ _ _ _ _ _ _ _

/-! ### The space -/

/-- The entries of the peers space (R203). -/
def peerEntries (s : State) : List (List Byte) := s.peers.toList.map peerBytes ++ [selfBytes s.selfRec]

theorem peerEntries_uniform (s : State) : ∀ e ∈ peerEntries s, e.length = 47 := by
  intro e member
  rcases List.mem_append.mp member with peer | self
  · obtain ⟨p, _, rfl⟩ := List.mem_map.mp peer
    rw [peerBytes_parts, List.length_flatten, peerParts_lengths]
    rfl
  · rw [List.mem_singleton.mp self, selfBytes_parts, List.length_flatten, selfParts_lengths]
    rfl

theorem peerSpace_entries (s : State) : spaceBytes s 2 = (peerEntries s).flatten := by
  rw [peerEntries, List.flatten_append, List.flatten_singleton]
  rfl

theorem peerSpace_length (s : State) : (spaceBytes s 2).length = 47 * 17 := by
  rw [peerSpace_entries, entries_length (peerEntries_uniform s), peerEntries, List.length_append, List.length_map,
    Vector.length_toList, List.length_singleton]

/-- Bytes of entry j of the peers space that lie in its part i, from byte d of the part. -/
theorem peerSpace_bytes {parts : List (List Byte)} {x : List Byte} {off n : Nat} (j i d : Nat)
    (entry : (peerEntries s)[j]? = some parts.flatten) (lengths : parts.map List.length = entryLengths)
    (part : parts[i]? = some x) (place : (entryLengths.take i).sum + d = off) (fits : d + n ≤ x.length)
    (inside : off + n ≤ 47) : reportField s 2 (47 * j + off) n = (x.drop d).take n := by
  have field : reportField s 2 (47 * j + off) n = (parts.flatten.drop off).take n :=
    entry_field (peerSpace_entries s) (peerEntries_uniform s) j off entry inside
  rw [field]
  exact within_part rfl lengths i d part place fits

/-- A whole part of entry j of the peers space. -/
theorem peerSpace_part {parts : List (List Byte)} {x : List Byte} {off n : Nat} (j i : Nat)
    (entry : (peerEntries s)[j]? = some parts.flatten) (lengths : parts.map List.length = entryLengths)
    (part : parts[i]? = some x) (place : (entryLengths.take i).sum = off) (whole : x.length = n) (inside : off + n ≤ 47) :
    reportField s 2 (47 * j + off) n = x := by
  rw [peerSpace_bytes j i 0 entry lengths part place (by omega) inside, List.drop_zero, List.take_of_length_le (by omega)]

/-- A list of flights in entry j of the peers space. -/
theorem flights_shown {parts : List (List Byte)} {flights : List Nat} {off : Nat} (j i : Nat)
    (entry : (peerEntries s)[j]? = some parts.flatten) (lengths : parts.map List.length = entryLengths)
    (part : parts[i]? = some (flightBytes flights)) (place : (entryLengths.take i).sum = off) (inside : off + 10 ≤ 47) :
    FlightsShown s (47 * j + off) flights := by
  refine ⟨peerSpace_bytes j i 0 entry lengths part place (by rw [flightPlaces_length]; omega) (by omega), fun k few => ?_⟩
  have places : reportField s 2 (47 * j + (off + (1 + 3 * k))) 3 = _ :=
    peerSpace_bytes j i (1 + 3 * k) entry lengths part (by rw [place]) (by rw [flightPlaces_length]; omega) (by omega)
  rw [flightPlaces_get flights k few] at places
  rw [Nat.add_assoc, Nat.add_assoc]
  exact places

/-! ### What the entries show -/

theorem peerEntries_peer (s : State) (i : Fin 16) : (peerEntries s)[i.val]? = some (peerParts s.peers[i]).flatten := by
  rw [← peerBytes_parts, peerEntries, List.getElem?_append_left (by simp)]
  simp

theorem peerEntries_self (s : State) : (peerEntries s)[16]? = some (selfParts s.selfRec).flatten := by
  rw [← selfBytes_parts, peerEntries, List.getElem?_append_right (by simp)]
  simp

section

variable (s : State) (i : Fin 16)

/-- A whole part of a peer's entry. -/
theorem peer_part {s : State} {i : Fin 16} {x : List Byte} {off n : Nat} (k : Nat)
    (part : (peerParts s.peers[i])[k]? = some x) (place : (entryLengths.take k).sum = off) (whole : x.length = n)
    (inside : off + n ≤ 47) : reportField s 2 (47 * i + off) n = x :=
  peerSpace_part i k (peerEntries_peer s i) (peerParts_lengths _) part place whole inside

/-- The binding of an entry (R203). -/
theorem peer_binding_shown :
    (s.peers[i].binding = .unused → reportField s 2 (47 * i + 0) 1 = [0#8]) ∧
    (∀ st, s.peers[i].binding = .single st → reportField s 2 (47 * i + 0) 1 = [1#8] ∧
      reportField s 2 (47 * i + 1) 1 = bytesBE 1 st) ∧
    (∀ lo hi, s.peers[i].binding = .pool lo hi → reportField s 2 (47 * i + 0) 1 = [2#8] ∧
      reportField s 2 (47 * i + 1) 1 = bytesBE 1 lo ∧ reportField s 2 (47 * i + 2) 1 = bytesBE 1 hi) ∧
    reportField s 2 (47 * i + 3) 1 = bytesBE 1 (s.peers[i].peer.getD 0) := by
  have binding : ∀ d n, d + n ≤ 3 → reportField s 2 (47 * i + d) n = ((bindingBytes s.peers[i].binding).drop d).take n :=
    fun d n fits => peerSpace_bytes i 0 d (peerEntries_peer s i) (peerParts_lengths _) rfl (by simp)
      (by rwa [bindingBytes_length]) (by omega)
  refine ⟨fun unused => ?_, fun st single => ?_, fun lo hi pool => ?_, peer_part 1 rfl rfl rfl (by decide)⟩
  · rw [unused] at binding
    exact binding 0 1 (by decide)
  · rw [single] at binding
    exact ⟨binding 0 1 (by decide), binding 1 1 (by decide)⟩
  · rw [pool] at binding
    exact ⟨binding 0 1 (by decide), binding 1 1 (by decide), binding 2 1 (by decide)⟩

/-- The state of a bound entry (R203). -/
theorem peer_state_shown (bound : s.peers[i].binding ≠ .unused) :
    reportField s 2 (47 * i + 4) 1 = [s.peers[i].state.code] ∧
    ShowsBits (reportField s 2 (47 * i + 5) 1) [s.peers[i].record.isSome, s.peers[i].unread, s.peers[i].flights.stale,
      s.peers[i].lastMark.isSome] ∧
    reportField s 2 (47 * i + 42) 1 = bytesBE 1 s.peers[i].flights.misses := by
  have state : reportField s 2 (47 * i + 4) 1 = _ := peer_part 2 rfl rfl rfl (by decide)
  have misses : reportField s 2 (47 * i + 42) 1 = _ := peer_part 9 rfl rfl (absentBE_length _ _) (by decide)
  rw [if_neg bound] at state misses
  exact ⟨state, (shows_four _ _ _ _).of_eq (peer_part 3 rfl rfl rfl (by decide)), misses⟩

/-- The record of an entry (R203). -/
theorem peer_record_shown :
    (s.peers[i].record = none → reportField s 2 (47 * i + 8) 11 = List.replicate 11 0#8) ∧
    ∀ r, s.peers[i].record = some r → reportField s 2 (47 * i + 8) 1 = [r.seq] ∧
      reportField s 2 (47 * i + 9) 1 = [solverCode r.solver ++ r.stateSpare ++ r.rank] ∧
      reportField s 2 (47 * i + 10) 3 = split24 r.delay ∧ reportField s 2 (47 * i + 13) 3 = split24 r.path ∧
      ShowsTemperature (reportField s 2 (47 * i + 16) 2) (r.temperature.map (·.toInt)) ∧
      ShowsFlags (reportField s 2 (47 * i + 18) 1) r.flags r.flagsSpare := by
  have record : ∀ d n, d + n ≤ 11 → reportField s 2 (47 * i + (8 + d)) n = ((recordBytes s.peers[i].record).drop d).take n :=
    fun d n fits => peerSpace_bytes i 5 d (peerEntries_peer s i) (peerParts_lengths _) rfl rfl
      (by rwa [recordBytes_length]) (by omega)
  refine ⟨fun absent => ?_, fun r present => ?_⟩
  · rw [absent] at record
    exact record 0 11 (by decide)
  · rw [present] at record
    have temperature : reportField s 2 (47 * i + 16) 2 = _ := record 8 2 (by decide)
    have flags : reportField s 2 (47 * i + 18) 1 = [flagsByte r.flagsSpare r.flags] := by
      rw [record 10 1 (by decide)]
      rcases r with ⟨_, _, _, _, _, _, _, _, _ | t⟩ <;> rfl
    refine ⟨record 0 1 (by decide), record 1 1 (by decide), record 2 3 (by decide), record 5 3 (by decide),
      temperature ▸ recordBytes_temperature r, flags ▸ flagsByte_shows _ _⟩

end

theorem self_shown (s : State) :
    reportField s 2 752 1 = [3#8] ∧ FlightsShown s 771 s.selfRec.history ∧ FlightsShown s 781 s.selfRec.suspects ∧
    ShowsOption 3 (reportField s 2 791 3) (effectiveFlight s.selfRec.history) ∧
    reportField s 2 794 1 = bytesBE 1 s.selfRec.misses ∧
    ShowsBits (reportField s 2 757 1) [false, false, s.selfRec.stale] := by
  have part : ∀ {x : List Byte} {off n : Nat} (k : Nat), (selfParts s.selfRec)[k]? = some x →
      (entryLengths.take k).sum = off → x.length = n → off + n ≤ 47 → reportField s 2 (47 * 16 + off) n = x := fun k =>
    peerSpace_part 16 k (peerEntries_self s) (selfParts_lengths _)
  have kind : reportField s 2 752 1 = _ :=
    peerSpace_bytes 16 0 0 (peerEntries_self s) (selfParts_lengths _) rfl rfl (by decide) (by decide)
  have effective : reportField s 2 791 3 = _ := part 8 rfl rfl (absentBE_length _ _) (by decide)
  exact ⟨kind, flights_shown 16 6 (peerEntries_self s) (selfParts_lengths _) rfl rfl (by decide),
    flights_shown 16 7 (peerEntries_self s) (selfParts_lengths _) rfl rfl (by decide), effective ▸ absentBE_shows _ _,
    part 9 rfl rfl rfl (by decide), (shows_third _).of_eq (part 3 rfl rfl rfl (by decide))⟩

theorem peersShown (s : State) : PeersShown s := by
  refine ⟨fun i => ?_, self_shown s⟩
  obtain ⟨unused, single, pool, held⟩ := peer_binding_shown s i
  obtain ⟨absent, present⟩ := peer_record_shown s i
  have age : ShowsOption 2 (reportField s 2 (47 * i + 6) 2) s.peers[i].age :=
    (peer_part 4 rfl rfl (absentBE_length _ _) (by decide)) ▸ absentBE_shows _ _
  have effective : ShowsOption 3 (reportField s 2 (47 * i + 39) 3) (effectiveFlight s.peers[i].flights.history) :=
    (peer_part 8 rfl rfl (absentBE_length _ _) (by decide)) ▸ absentBE_shows _ _
  have mark : ShowsOption 4 (reportField s 2 (47 * i + 43) 4) (s.peers[i].lastMark.map (·.toNat)) :=
    (peer_part 10 rfl rfl (absentBE_length _ _) (by decide)) ▸ absentBE_shows _ _
  refine ⟨unused, single, pool, held, fun bound => ?_, age, absent, present,
    flights_shown i 6 (peerEntries_peer s i) (peerParts_lengths _) rfl rfl (by decide),
    flights_shown i 7 (peerEntries_peer s i) (peerParts_lengths _) rfl rfl (by decide), effective,
    mark⟩
  obtain ⟨state, flags, misses⟩ := peer_state_shown s i bound
  refine ⟨state.trans ?_, flags, misses⟩
  cases s.peers[i].state <;> rfl

end Sys2Proof.Machine
end

section
/-! PROOFS. The QUERY that is answered (R190 to R195), with the spaces that a REPLY shows (R203). -/

namespace Sys2Proof.Machine

variable {s : State} {q : QueryBody} {src dst : Nat}

/-! ### The row of a QUERY (R164) -/

theorem answerQuery_published (src : Nat) (q : QueryBody) (s : State) : published (answerQuery src q s) = published s := by
  obtain ⟨stc, -, peers, selfRec, -, air, solver, -, -, -, channels, -, emc, -⟩ := answerQuery_frame src q s
  exact published_congr (by rw [stc]) (by rw [stc]) solver peers selfRec air channels emc

/-- A QUERY of another station to this one is counted and goes to the Report Unit. -/
theorem exec_query_kept (station : isStation src = true) (named : isStation s.number = true) (other : src ≠ s.number) :
    exec (.query src s.number q) s = .next (answerQuery src q (countValid s)) :=
  congrArg Host.Outcome.next
    ((confirmFrame_kept (f := ⟨src, s.number, .query q⟩) station named other (.inr rfl)).trans
      (event_quiet (answerQuery_published src q (countValid s))))

/-- A QUERY between other stations is counted, and no more. -/
theorem exec_query_elsewhere (station : isStation src = true) (allowed : isStation dst = true) (other : src ≠ s.number)
    (elsewhere : dst ≠ s.number) : exec (.query src dst q) s = .next (countValid s) := by
  have single : dst ≠ 63 := fun broadcast => by
    rw [broadcast] at allowed
    exact absurd allowed (by decide)
  have valid : (isStation src && (FrameBody.query q).destinationAllowed dst) = true := by
    rw [station]
    exact allowed
  refine congrArg Host.Outcome.next ?_
  unfold confirmFrame
  dsimp only
  rw [if_pos valid, countValid_number, if_neg other, if_neg (not_or.mpr ⟨single, elsewhere⟩)]

/-! ### The conditions of R193 and R195 -/

theorem answers_iff (s : State) :
    answers s = true ↔ s.stc.mode = .announce ∨ s.stc.mode = .run ∨ s.stc.mode = .configFault := by
  simp [answers, or_assoc]

theorem noSpace_iff (s : State) (q : QueryBody) : noSpace s q = true ↔
    5 < q.space.toNat ∨ s.stc.mode = .configFault ∧ q.space.toNat ≠ 0 ∧ q.space.toNat ≠ 4 := by
  simp [noSpace, and_assoc]

theorem badRange_iff (q : QueryBody) : badRange q = true ↔
    q.count.toNat = 0 ∨ 48 < q.count.toNat ∨ spaceSize q.space.toNat < q.offset.toNat + q.count.toNat := by
  simp [badRange, or_assoc]

theorem clears_iff (s : State) (q : QueryBody) : clears s q = true ↔
    q.flags.getLsbD 1 = true ∧ q.space.toNat = 4 ∧ noSpace s q = false ∧ q.flags.getLsbD 0 = false ∧ badRange q = false := by
  have four : q.space = 4#8 ↔ q.space.toNat = 4 := ⟨fun h => by rw [h]; rfl, fun h => BitVec.eq_of_toNat_eq h⟩
  simp [clears, QueryBody.clear, QueryBody.info, four, and_assoc]

theorem not_clears (nothing : noSpace s q = true ∨ q.flags.getLsbD 0 = true ∨ badRange q = true) : clears s q = false := by
  rw [← Bool.not_eq_true, clears_iff]
  rintro ⟨-, -, shows, plain, inside⟩
  rw [shows, plain, inside] at nothing
  simp at nothing

theorem covered_iff (q : QueryBody) (k : Nat) (asked : q.count.toNat ≠ 0) : covered q k = true ↔
    q.offset.toNat ≤ 2 * k ∧ 2 * k + 1 ≤ q.offset.toNat + q.count.toNat - 1 := by
  rw [covered, Bool.and_eq_true, decide_eq_true_iff, decide_eq_true_iff]
  omega

theorem clearCounters_count (q : QueryBody) (s : State) (k : Counter) :
    (clearCounters q s).count k = if covered q k.index then 0 else s.count k :=
  tabulate_get (fun k => if covered q k then 0 else s.counters[k]) k.index

/-! ### The answer (R192 to R195) -/

/-- A QUERY that clears nothing hands its REPLY, and no more. -/
theorem answerQuery_replies (answered : answers s = true) {body : FrameBody} (reply : replyBody s q = body)
    (keeps : admission s body = .refused ∨ clears s q = false) :
    answerQuery src q s = handFrame ⟨s.number, src, body⟩ s := by
  have keeps : (admission s body != .refused && clears s q) = false := by
    rcases keeps with refused | keeps
    · rw [refused]
      rfl
    · rw [keeps, Bool.and_false]
  unfold answerQuery
  dsimp only
  rw [if_pos answered, reply, keeps, if_neg Bool.false_ne_true]

theorem answerQuery_clears (answered : answers s = true) {body : FrameBody} (reply : replyBody s q = body)
    (admitted : admission s body ≠ .refused) (clear : clears s q = true) :
    answerQuery src q s = clearCounters q (handFrame ⟨s.number, src, body⟩ s) := by
  have cleared : (admission s body != .refused && clears s q) = true := by
    rw [clear, Bool.and_true]
    exact bne_iff_ne.mpr admitted
  unfold answerQuery
  dsimp only
  rw [if_pos answered, reply, if_pos cleared]

theorem answerQuery_silent (silent : answers s = false) : answerQuery src q s = s := by
  unfold answerQuery
  rw [silent, if_neg Bool.false_ne_true]

/-! ### The content of the REPLY (R193) -/

theorem replyBody_hidden (hides : noSpace s q = true) :
    replyBody s q = .replyStatus 1 q.space q.offset q.count q.flags none := if_pos hides

theorem replyBody_info (shows : noSpace s q = false) (info : QueryBody.info q = true) :
    replyBody s q = .replyStatus 0 q.space q.offset q.count q.flags (some (infoBlock q.space.toNat)) := by
  rw [replyBody, shows, info, if_neg Bool.false_ne_true, if_pos rfl]

theorem replyBody_outside (shows : noSpace s q = false) (plain : QueryBody.info q = false) (out : badRange q = true) :
    replyBody s q = .replyStatus 2 q.space q.offset q.count q.flags none := by
  rw [replyBody, shows, plain, out, if_neg Bool.false_ne_true, if_neg Bool.false_ne_true, if_pos rfl]

theorem replyBody_data (shows : noSpace s q = false) (plain : QueryBody.info q = false) (inside : badRange q = false) :
    replyBody s q = .replyData (q.space.setWidth 3) (q.offset.setWidth 10) (snapshot s q) := by
  rw [replyBody, shows, plain, inside, if_neg Bool.false_ne_true, if_neg Bool.false_ne_true, if_neg Bool.false_ne_true]

/-- A QUERY that clears nothing is answered by its REPLY. -/
theorem exec_query_replies (station : isStation src = true) (named : isStation s.number = true) (other : src ≠ s.number)
    (answered : answers (countValid s) = true) {body : FrameBody} (reply : replyBody (countValid s) q = body)
    (keeps : admission (countValid s) body = .refused ∨ clears (countValid s) q = false) :
    exec (.query src s.number q) s = .next (handFrame ⟨s.number, src, body⟩ (countValid s)) := by
  rw [exec_query_kept station named other, answerQuery_replies answered reply keeps, countValid_number]

/-! ### The spaces (R191, R203) -/

theorem spaces_shown (s : State) :
    (spaceBytes s 0).length = 63 ∧ (spaceBytes s 1).length = 32 ∧ (spaceBytes s 2).length = 47 * 17 ∧
    (spaceBytes s 3).length = 34 * 5 ∧ (spaceBytes s 4).length = 2 * 20 ∧ (spaceBytes s 5).length = 5 ∧
    infoBlock 0 = 0x2A103F01#32 ∧ infoBlock 1 = 0x2A112001#32 ∧ infoBlock 2 = 0x2A122F11#32 ∧
    infoBlock 3 = 0x2A132205#32 ∧ infoBlock 4 = 0x2A140214#32 ∧ infoBlock 5 = 0x2A150501#32 ∧
    IdentityShown s ∧ AlignmentShown s ∧ PeersShown s ∧ ChannelsShown s ∧ CountersAndAirShown s :=
  ⟨identityBytes_length s, alignmentBytes_length s, peerSpace_length s, audioBytes_length s, counterBytes_length s,
    airBytes_length s, rfl, rfl, rfl, rfl, rfl, rfl, identityShown s, alignmentShown s, peersShown s, channelsShown s,
    countersAndAirShown s⟩

/-- Settles O24: the answer follows the branches of R193, each read off by its condition, and no branch changes what an ALIGN
publishes. -/
theorem queryAnswered : Obligations.QueryAnswered := by
  refine ⟨spaces_shown, fun src q s station named other => ?_⟩
  have mode : (countValid s).stc.mode = s.stc.mode := by rw [countValid_stc]
  have hidden := noSpace_iff (countValid s) q
  rw [mode] at hidden
  have outside := badRange_iff q
  have clear := clears_iff (countValid s) q
  refine ⟨fun dst allowed elsewhere => exec_query_elsewhere station allowed other elsewhere, fun closed => ?silent,
    fun serving => ?_⟩
  case silent =>
    have silent : answers (countValid s) = false := by
      rw [← Bool.not_eq_true, answers_iff, mode]
      rcases closed with closed | closed <;> rw [closed] <;> decide
    rw [exec_query_kept station named other, answerQuery_silent silent]
  have answered : answers (countValid s) = true := by rwa [answers_iff, mode]
  have replies := @exec_query_replies s q src station named other answered
  refine ⟨fun hides => ?hidden, fun shows info => ?info, fun shows plain out => ?outside, fun shows plain inside => ?data⟩
  case hidden =>
    rw [← hidden] at hides
    exact replies (replyBody_hidden hides) (.inr (not_clears (.inl hides)))
  all_goals rw [← hidden, Bool.not_eq_true] at shows
  case info => exact replies (replyBody_info shows info) (.inr (not_clears (.inr (.inl info))))
  case outside =>
    rw [← outside] at out
    exact replies (replyBody_outside shows plain out) (.inr (not_clears (.inr (.inr out))))
  case data =>
    have asked : q.count.toNat ≠ 0 := fun empty => inside (.inl empty)
    rw [← outside, Bool.not_eq_true] at inside
    have reply := replyBody_data shows plain inside
    refine ⟨fun keeps => replies reply ?_, fun cleared counters admitted => ⟨_, (exec_query_kept station named other).trans
      (congrArg _ (answerQuery_clears answered reply admitted (clear.mpr ⟨cleared, counters, shows, plain, inside⟩))), ?_,
      fun k => ?_⟩⟩
    · rcases keeps with unset | elsewhere | refused
      · exact .inr (Bool.eq_false_iff.mpr fun clears => Bool.false_ne_true (unset.symm.trans (clear.mp clears).1))
      · exact .inr (Bool.eq_false_iff.mpr fun clears => elsewhere (clear.mp clears).2.1)
      · exact .inl refused
    · rw [countValid_number]
      rfl
    · rw [clearCounters_count, countValid_number]
      simp only [covered_iff q k.index asked]
      rfl

end Sys2Proof.Machine
end

section
/-! PROOFS. The programme judgement at each channel, and the Probe Unit beside it (R31, R110, R121): what a sample finds when
the judgement has been taken. -/

namespace Sys2Proof.Machine

variable {s u : State} {c : Fin 4} {ch : Channel}

/-! ### A change of power state that completes nothing -/

/-- The channels differ by what a change of power state writes alone. -/
def Channel.Repowered (a b : Channel) : Prop :=
  b = { a with
    power := b.power
    cause := b.cause
    enable := b.enable
    silence := b.silence
    wake := b.wake
    fade := b.fade
    wakeLoss := b.wakeLoss }

theorem Channel.Repowered.refl (a : Channel) : a.Repowered a := rfl

theorem Channel.Repowered.trans {a b d : Channel} (first : a.Repowered b) (second : b.Repowered d) : a.Repowered d := by
  unfold Channel.Repowered at second ⊢
  rw [first] at second
  exact second

/-- How the gate stands after a change (R121): open before, it stays open with its fade; closed before, it opens with a fade
from its first sample. -/
structure Channel.GateFollows (a b : Channel) : Prop where
  stays : a.power.gateOpen = true → b.power.gateOpen = true ∧ b.fade = a.fade
  opens : a.power.gateOpen = false → b.power.gateOpen = true → b.fade = some 0

theorem Channel.GateFollows.refl (a : Channel) : a.GateFollows a :=
  ⟨fun gate => ⟨gate, rfl⟩, fun shut gate => absurd (shut.symm.trans gate) Bool.false_ne_true⟩

/-- Entering a sounding state completes nothing. -/
theorem moved_repowered {p : Power} (sounds : p.sounding = true) (cause : Option FaultCause) (ch : Channel) :
    ch.Repowered (ch.moved s p cause c) := by
  unfold Channel.moved
  split
  · exact .refl ch
  · unfold Channel.Repowered Channel.toPower
    rw [sounds, Bool.not_true, Bool.and_false, if_neg Bool.false_ne_true]

theorem moved_fade {p : Power} (gate : p.gateOpen = true) (differ : ch.power ≠ p) :
    (ch.moved s p none c).fade = if ch.power = .waking then some 0 else ch.fade := by
  unfold Channel.moved
  rw [if_neg differ]
  unfold Channel.toPower
  dsimp only
  rw [if_pos gate]

/-- Between ACTIVE and WATCH the gate stays open with its fade. -/
theorem moved_gate {p : Power} (gate : p.gateOpen = true) (open' : ch.power.gateOpen = true) :
    ch.GateFollows (ch.moved s p none c) := by
  refine ⟨fun _ => ⟨by rwa [moved_power], ?_⟩, fun shut => absurd (shut.symm.trans open') Bool.false_ne_true⟩
  by_cases same : ch.power = p
  · unfold Channel.moved
    rw [if_pos same]
  · rw [moved_fade gate same, if_neg]
    intro waking
    rw [waking] at open'
    exact Bool.noConfusion open'

theorem heeding_repowered (s : State) (c : Fin 4) (ch : Channel) : ch.Repowered (ch.heeding s c) := by
  have activated (a : Channel) : a.Repowered (a.activated s c) := by
    unfold Channel.activated
    dsimp only
    split
    · exact (moved_repowered rfl _ a).trans (moved_repowered rfl _ _)
    · exact moved_repowered rfl _ a
  have woken : ch.Repowered (ch.woken s c) := by
    unfold Channel.woken
    dsimp only
    split
    · exact (moved_repowered rfl _ ch).trans (activated _)
    · exact moved_repowered rfl _ ch
  unfold Channel.heeding
  split
  · exact .refl ch
  · split
    · split
      · exact .refl ch
      · exact moved_repowered rfl _ ch
    · split
      · exact .refl ch
      · exact woken
    · split
      · exact moved_repowered rfl _ ch
      · exact .refl ch
    all_goals exact .refl ch

/-- A channel that wakes with its ready line asserted opens its gate with a fade from its first sample. -/
theorem woken_gate (ready : ch.ready = true) : (ch.woken s c).fade = some 0 := by
  have waking : (ch.moved s .waking none c).power = .waking := moved_power s c .waking none ch
  have fade : ((ch.moved s .waking none c).moved s .active none c).fade = some 0 := by
    rw [moved_fade rfl (by rw [waking]; exact Power.noConfusion), if_pos waking]
  have still : (ch.moved s .waking none c).ready = true := by
    rw [(moved_lines ..).ready, ready]
  unfold Channel.woken Channel.activated
  dsimp only
  rw [if_pos still]
  split
  · rw [← fade]
    exact ((moved_gate rfl (by rw [moved_power]; rfl)).stays (by rw [moved_power]; rfl)).2
  · exact fade

theorem heeding_gate (s : State) (c : Fin 4) (ch : Channel) : ch.GateFollows (ch.heeding s c) := by
  cases serves : s.serving with
  | false =>
    rw [heeding_unserved serves]
    exact .refl ch
  | true =>
    cases power : ch.power with
    | watch =>
      rw [heeding_watch serves power]
      split
      · exact .refl ch
      · exact moved_gate rfl (by rw [power]; rfl)
    | standby =>
      rw [heeding_standby serves power]
      split
      · exact .refl ch
      · next loud =>
        refine ⟨fun gate => ?_, fun _ gate => ?_⟩
        · rw [power] at gate
          exact Bool.noConfusion gate
        · rw [woken_power, wakingPower_loud loud] at gate
          cases ready : ch.ready with
          | true => exact woken_gate ready
          | false =>
            rw [ready] at gate
            exact Bool.noConfusion gate
    | active =>
      rw [heeding_active serves power]
      split
      · exact moved_gate rfl (by rw [power]; rfl)
      · exact .refl ch
    | waking =>
      rw [heeding_other (.inl power)]
      exact .refl ch
    | forcedOff =>
      rw [heeding_other (.inr (.inl power))]
      exact .refl ch
    | fault =>
      rw [heeding_other (.inr (.inr power))]
      exact .refl ch

/-- A sounding channel goes on sounding. -/
theorem heeding_sounding (s : State) (c : Fin 4) (sounds : ch.power.sounding = true) :
    (ch.heeding s c).power.sounding = true := by
  rcases (sounding_iff _).mp sounds with active | watch | waking
  · obtain ⟨gate, -⟩ := (heeding_gate s c ch).stays (by rw [active]; rfl)
    revert gate
    cases (ch.heeding s c).power <;> decide
  · obtain ⟨gate, -⟩ := (heeding_gate s c ch).stays (by rw [watch]; rfl)
    revert gate
    cases (ch.heeding s c).power <;> decide
  · rwa [heeding_other (.inl waking)]

/-! ### What a sample finds -/

/-- What the judgement makes of a channel before a sample reads it. -/
structure Channel.Readied (a b : Channel) : Prop where
  repowered : a.Repowered b
  gate : a.GateFollows b
  sounds : a.power.sounding = true → b.power.sounding = true

theorem setJudgement_channel (present : Bool) (s : State) (c : Fin 4) :
    s.channels[c].Readied (setJudgement present s).channels[c] := by
  unfold setJudgement
  split
  · exact ⟨.refl _, .refl _, id⟩
  · rw [heedAll_get]
    exact ⟨heeding_repowered .., heeding_gate .., heeding_sounding _ c⟩

end Sys2Proof.Machine
end

section
/-! PROOFS. The Probe Unit beside the programme judgement (R31): a round goes on, and no slot moves. -/

namespace Sys2Proof.Machine

variable {s u : State} {c : Fin 4}

/-- The gate of the probe channel stands open where the round needs it (R31). -/
def ProbeGate (s : State) : Prop :=
  s.probe.round = .marking ∨ s.probe.round = .emitting → ∀ c, s.probeChannel = some c → s.channels[c].power.gateOpen = true

/-- A round that does not wait for its channel is the same, one that waits may have entered MARKING; the slots stay. -/
structure ProbeGoesOn (s u : State) : Prop where
  image : u.image = s.image
  slots : u.probe.slots = s.probe.slots
  same : s.probe.round ≠ .waking → u.probe = s.probe
  waits : s.probe.round = .waking → u.probe.round = .waking ∨ u.probe.round = .marking
  gate : ProbeGate u

theorem ProbeGoesOn.refl (gate : ProbeGate s) : ProbeGoesOn s s := ⟨rfl, rfl, fun _ => rfl, .inl, gate⟩

/-- What leaves the Probe Unit, the image and the gates alone keeps it. -/
theorem ProbeGoesOn.keep {v : State} (h : ProbeGoesOn s u) (image : v.image = u.image) (probe : v.probe = u.probe)
    (power : ∀ c : Fin 4, v.channels[c].power = u.channels[c].power) : ProbeGoesOn s v := by
  refine ⟨image.trans h.image, by rw [probe, h.slots], fun other => probe.trans (h.same other), fun waking => ?_, ?_⟩
  · rw [probe]
    exact h.waits waking
  · intro round c channel
    rw [probe] at round
    rw [State.probeChannel, image] at channel
    rw [power c]
    exact h.gate round c channel

theorem RoundLaw.probeGate (h : RoundLaw s) : ProbeGate s := by
  obtain ⟨-, -, -, -, -, sounding, -⟩ := h
  intro round c channel
  obtain ⟨img, image, power⟩ := sounding round
  rw [State.probeChannel, image] at channel
  obtain rfl : img.probeChannel = c := Option.some.inj channel
  rcases power with active | watch
  · rw [active]
    rfl
  · rw [watch]
    rfl

theorem setPower_powers (c d : Fin 4) (p : Power) (cause : Option FaultCause) (s : State) :
    (setPower c p cause s).channels[d].power = if d = c then p else s.channels[d].power := by
  obtain ⟨here, other⟩ := (setPower_acts s p cause).one (SameView.refl s) c
  by_cases same : d = c
  · subst same
    rw [if_pos rfl, here, moved_power]
  · rw [if_neg same, other d same]

theorem setPower_probe {p : Power} {cause : Option FaultCause} (differ : s.channels[c].power ≠ p) :
    (setPower c p cause s).probe = (followed c p s).probe := by
  rw [setPower_followed differ]
  exact (followed_congr (s := s) (t := repowered c p cause s) c p rfl rfl rfl rfl).2.1

/-- The round of a channel that goes on sounding stays, or enters MARKING out of WAKING (R25, R31). -/
theorem followed_goes_on {p : Power} (sounds : p.sounding = true) (gate : ProbeGate s)
    (opens : s.channels[c].power.gateOpen = true → p.gateOpen = true) :
    (followed c p s).probe = s.probe ∨
      s.probeChannel = some c ∧ s.probe.round = .waking ∧ p.gateOpen = true ∧
        (followed c p s).probe = { s.probe with round := .marking, deadline := some 50000 } := by
  unfold followed
  split
  · next channel =>
    rw [probeFollows_eq]
    cases move : roundMove p s.probe.round with
    | stays => exact .inl rfl
    | marks =>
      obtain ⟨waking, opened⟩ := roundMove_marks_iff.mp move
      exact .inr ⟨channel, waking, opened, enterMarking_probe s⟩
    | cuts =>
      exfalso
      have kept : s.probe.round = .marking ∨ s.probe.round = .emitting → p.gateOpen = true := fun round =>
        opens (gate round c channel)
      cases round : s.probe.round with
      | idle => simp [round, roundMove] at move
      | waking => cases p <;> simp_all [roundMove, Power.sounding]
      | marking => simp [round, roundMove, kept (.inl round)] at move
      | emitting => simp [round, roundMove, kept (.inr round)] at move
  · exact .inl rfl

/-- A change to a sounding state, from an open gate to an open gate alone, lets the round go on (R31). -/
theorem ProbeGoesOn.setPower {p : Power} (h : ProbeGoesOn s u) (sounds : p.sounding = true)
    (opens : u.channels[c].power.gateOpen = true → p.gateOpen = true) : ProbeGoesOn s (Machine.setPower c p none u) := by
  by_cases same : u.channels[c].power = p
  · have still : Machine.setPower c p none u = u := if_pos same
    rwa [still]
  have gates (d : Fin 4) (gate : u.channels[d].power.gateOpen = true) :
      (Machine.setPower c p none u).channels[d].power.gateOpen = true := by
    rw [setPower_powers]
    split
    · next here => exact opens (here ▸ gate)
    · exact gate
  have image : (Machine.setPower c p none u).image = u.image := by simp
  have probe := setPower_probe (cause := none) same
  rcases followed_goes_on sounds h.gate opens with stays | ⟨channel, waking, opened, marks⟩
  · rw [stays] at probe
    refine ⟨image.trans h.image, by rw [probe, h.slots], fun other => probe.trans (h.same other), fun round => ?_,
      fun round d channel => ?_⟩
    · rw [probe]
      exact h.waits round
    · rw [probe] at round
      rw [State.probeChannel, image] at channel
      exact gates d (h.gate round d channel)
  · rw [marks] at probe
    have waited : s.probe.round = .waking := by_contra fun other => by
      have round := h.same other
      rw [round] at waking
      exact other waking
    refine ⟨image.trans h.image, by rw [probe]; exact h.slots, fun other => absurd waited other, fun _ => .inr (by rw [probe]),
      fun _ d there => ?_⟩
    rw [State.probeChannel, image] at there
    obtain rfl : c = d := Option.some.inj (channel.symm.trans there)
    rw [setPower_powers, if_pos rfl]
    exact opened

theorem ProbeGoesOn.enterWaking (h : ProbeGoesOn s u) (shut : u.channels[c].power.gateOpen = false) :
    ProbeGoesOn s (enterWaking c u) := by
  have waking := h.setPower (c := c) (p := .waking) rfl fun gate => absurd (shut.symm.trans gate) Bool.false_ne_true
  have active := waking.setPower (c := c) (p := .active) rfl fun _ => rfl
  unfold Machine.enterWaking enterActive
  dsimp only
  split
  · split
    · exact active.setPower rfl fun _ => rfl
    · exact active
  · exact waking

theorem ProbeGoesOn.actOnSilence (h : ProbeGoesOn s u) (c : Fin 4) : ProbeGoesOn s (actOnSilence c u) := by
  unfold Machine.actOnSilence
  split
  · exact h
  · split
    · split
      · exact h
      · exact h.setPower rfl fun _ => rfl
    · next standby =>
      split
      · exact h
      · exact h.enterWaking (by rw [standby]; rfl)
    · split
      · exact h.setPower rfl fun _ => rfl
      · exact h
    all_goals exact h

theorem setJudgement_goes_on (present : Bool) (gate : ProbeGate s) : ProbeGoesOn s (setJudgement present s) := by
  unfold setJudgement
  split
  · exact .refl gate
  · exact PowerStable.pass (P := ProbeGoesOn s) (fun c _ h => h.actOnSilence c)
      ((ProbeGoesOn.refl gate).keep rfl rfl fun _ => rfl)

end Sys2Proof.Machine
end

section
/-! PROOFS. One programme sample at one channel (R74, R80, R87, R96, R98, R102, R121, R122): what it makes of the channel, field by
field. -/

namespace Sys2Proof.Machine

variable {s v : State} {c : Fin 4} {ch : Channel}

/-! ### The steps, each by what it writes -/

theorem slewOnce_rest (step : Nat) (ch : Channel) :
    ch.slewOnce step = { ch with applied := (ch.slewOnce step).applied, slew := (ch.slewOnce step).slew } := by
  unfold Channel.slewOnce
  split <;> rfl

theorem stepRamp_rest (ch : Channel) :
    ch.stepRamp = { ch with factor := ch.stepRamp.factor, ramp := ch.stepRamp.ramp } := by
  unfold Channel.stepRamp Channel.completeRamp
  split
  · rfl
  · split
    · split <;> rfl
    · rfl

/-- The ramp rests on the gain alone. -/
theorem stepRamp_slewed (ch : Channel) (applied : Nat) (slew : Slew) :
    { ch with applied := applied, slew := slew }.stepRamp = { ch.stepRamp with applied := applied, slew := slew } := by
  unfold Channel.stepRamp Channel.completeRamp
  dsimp only
  split
  · rfl
  · split
    · split <;> rfl
    · rfl

theorem endCrossfade_rest (ch : Channel) :
    ch.endCrossfade =
      { ch with
        active := ch.endCrossfade.active, crossfade := ch.endCrossfade.crossfade, waiting := ch.endCrossfade.waiting
        stages := ch.endCrossfade.stages, nextStages := ch.endCrossfade.nextStages } := by
  unfold Channel.endCrossfade
  split
  · rfl
  · dsimp only
    split
    · next w _ =>
      conv_lhs => rw [request_rest]
      rw [show ∀ done : Channel, (done.request w).stages = done.stages from fun done => by rw [request_rest]]
    · rfl

theorem stepCrossfade_rest (ch : Channel) :
    ch.stepCrossfade =
      { ch with
        active := ch.stepCrossfade.active, crossfade := ch.stepCrossfade.crossfade, waiting := ch.stepCrossfade.waiting
        stages := ch.stepCrossfade.stages, nextStages := ch.stepCrossfade.nextStages } := by
  unfold Channel.stepCrossfade
  split
  · rfl
  · split
    · exact endCrossfade_rest ch
    · rfl

theorem stepCrossfade_runs {a b : Setting} {k : Nat} (runs : ch.crossfade = .running a b k) (goes : k < 2399) :
    ch.stepCrossfade = { ch with crossfade := .running a b (k + 1) } := by
  unfold Channel.stepCrossfade
  rw [runs]
  exact if_neg (by omega)

theorem stepCrossfade_ends {a b : Setting} {k : Nat} (runs : ch.crossfade = .running a b k) (ends : k = 2399) :
    ch.stepCrossfade = ch.endCrossfade := by
  unfold Channel.stepCrossfade
  rw [runs]
  exact if_pos (by omega)

/-- The channel at the end of a crossfade, before a pending setting is taken (R98). -/
def Channel.crossfaded (b : Setting) (ch : Channel) : Channel :=
  { ch with active := b, crossfade := .idle, waiting := none, stages := ch.nextStages, nextStages := StageMemories.silent }

theorem endCrossfade_running {a b : Setting} {k : Nat} (runs : ch.crossfade = .running a b k) :
    ch.endCrossfade = ch.waiting.elim (ch.crossfaded b) (ch.crossfaded b).request := by
  unfold Channel.endCrossfade
  rw [runs]
  cases waiting : ch.waiting <;> rfl

/-! ### The channel after a sample -/

/-- The channel with its slew and its ramp one step on. -/
def Channel.stepped (step : Nat) (ch : Channel) : Channel := (ch.slewOnce step).stepRamp

/-- The channel with its chain formed (R87). -/
def Channel.formed (v : State) (c : Fin 4) (ch : Channel) : Channel :=
  equalise v c (channelRead v (ch.stepped v.slewStep)) (ch.stepped v.slewStep)

/-- The channel after a programme sample. -/
def Channel.sampled (v : State) (c : Fin 4) (ch : Channel) : Channel :=
  { (ch.formed v c).stepCrossfade.stepFade with
    output := ⟨(ch.formed v c).gateOut, probeOut v c⟩
    wakeLoss := (ch.stepped v.slewStep).wakeLoss || losesSample v (ch.stepped v.slewStep) }

theorem sampleChannel_get (c : Fin 4) (v : State) : (sampleChannel c v).channels[c] = v.channels[c].sampled v c :=
  modChannel_get_self (s := v) c _

theorem stepped_rest (step : Nat) (ch : Channel) :
    ch.stepped step =
      { ch with
        applied := (ch.slewOnce step).applied, slew := (ch.slewOnce step).slew
        factor := ch.stepRamp.factor, ramp := ch.stepRamp.ramp } := by
  conv_lhs => rw [Channel.stepped, slewOnce_rest, stepRamp_slewed, stepRamp_rest]

theorem formed_rest (v : State) (c : Fin 4) (ch : Channel) :
    ch.formed v c =
      { ch.stepped v.slewStep with
        chain := (ch.formed v c).chain, stages := (ch.formed v c).stages, nextStages := (ch.formed v c).nextStages } :=
  equalise_frame v c _ _

/-- The fields that a sample leaves alone, and those of the slew and the ramp. -/
theorem sampled_steps (v : State) (c : Fin 4) (ch : Channel) :
    let n := ch.sampled v c
    n.target = ch.target ∧ n.gainTarget = ch.gainTarget ∧ n.jumps = ch.jumps ∧ n.power = ch.power ∧
    n.applied = (ch.slewOnce v.slewStep).applied ∧ n.slew = (ch.slewOnce v.slewStep).slew ∧
    n.factor = ch.stepRamp.factor ∧ n.ramp = ch.stepRamp.ramp := by
  unfold Channel.sampled Channel.stepFade
  rw [stepCrossfade_rest, formed_rest, stepped_rest]
  exact ⟨rfl, rfl, rfl, rfl, rfl, rfl, rfl, rfl⟩

theorem sampled_chain (v : State) (c : Fin 4) (ch : Channel) : (ch.sampled v c).chain = (ch.formed v c).chain := by
  unfold Channel.sampled Channel.stepFade
  rw [stepCrossfade_rest]

theorem sampled_crossfade (v : State) (c : Fin 4) (ch : Channel) :
    let n := ch.sampled v c
    let f := (ch.formed v c).stepCrossfade
    n.active = f.active ∧ n.crossfade = f.crossfade ∧ n.waiting = f.waiting ∧ n.stages = f.stages ∧
      n.nextStages = f.nextStages :=
  ⟨rfl, rfl, rfl, rfl, rfl⟩

end Sys2Proof.Machine
end

section
/-! PROOFS. One programme sample at one channel, group by group: its slew (R80), its ramp (R102), its read (R74), its chain and
crossfade (R87, R96, R98), its gate (R121, R122). -/

namespace Sys2Proof.Machine

variable {v : State} {c : Fin 4} {ch : Channel}

/-! ### Slew and ramp -/

theorem sampled_slew (v : State) (c : Fin 4) (law : ChannelDelayLaw ch) :
    let n := ch.sampled v c
    (ch.slew = .settled → n.applied = ch.applied ∧ n.slew = .settled) ∧
    (ch.slew = .up → n.applied = min (ch.applied + v.slewStep) (ch.target * 4096)) ∧
    (ch.slew = .down → n.applied = max (ch.applied - v.slewStep) (ch.target * 4096)) ∧
    (n.slew = .settled ↔ n.applied = n.target * 4096) ∧ n.applied ≤ 65280 * 4096 := by
  obtain ⟨target, -, -, -, applied, slew, -⟩ := sampled_steps v c ch
  obtain ⟨-, range, settled, up, down, -⟩ := slewOnce_delayLaw v.slewStep law
  have aim : (ch.slewOnce v.slewStep).target = ch.target := by rw [slewOnce_rest]
  rw [aim] at settled up down
  dsimp only
  rw [applied, slew, target]
  refine ⟨fun rests => ?_, fun rises => ?_, fun falls => ?_, ⟨settled, fun lands => ?_⟩, range⟩
  · unfold Channel.slewOnce
    rw [rests]
    exact ⟨rfl, rests⟩
  · rw [slewOnce_up rises]
  · rw [slewOnce_down falls]
  · cases state : (ch.slewOnce v.slewStep).slew with
    | settled => rfl
    | up => exact absurd lands (up state).ne
    | down => exact absurd lands (down state).ne'

theorem sampled_ramp (v : State) (c : Fin 4) (ch : Channel) :
    let n := ch.sampled v c
    (ch.ramp = .idle → n.ramp = .idle ∧ n.factor = ch.factor) ∧
    (∀ start k, ch.ramp = .running start k → k < 959 →
      n.ramp = .running start (k + 1) ∧ n.factor = .ramp start ch.gainTarget (k + 1)) ∧
    (∀ start, ch.ramp = .running start 959 → n.ramp = .idle ∧ n.factor = .of ch.gainTarget) := by
  obtain ⟨-, -, -, -, -, -, factor, ramp⟩ := sampled_steps v c ch
  dsimp only
  rw [factor, ramp]
  refine ⟨fun idle => ?_, fun start k runs goes => ?_, fun start runs => ?_⟩
  · unfold Channel.stepRamp
    rw [idle]
    exact ⟨idle, rfl⟩
  · unfold Channel.stepRamp
    rw [runs]
    dsimp only
    rw [if_neg (by omega)]
    exact ⟨rfl, rfl⟩
  · unfold Channel.stepRamp Channel.completeRamp
    rw [runs]
    exact ⟨rfl, rfl⟩

/-! ### The read (R74) -/

/-- What a channel reads rests on its applied delay alone. -/
theorem channelRead_congr {a b : Channel} (applied : b.applied = a.applied) : channelRead v b = channelRead v a := by
  unfold channelRead newerSide olderSide readPosition
  rw [applied]

theorem readPosition_congr {a b : Channel} (applied : b.applied = a.applied) : readPosition v b = readPosition v a := by
  unfold readPosition
  rw [applied]

theorem sampled_applied (v : State) (c : Fin 4) (ch : Channel) :
    (ch.sampled v c).applied = (ch.stepped v.slewStep).applied := by
  obtain ⟨-, -, -, -, applied, -⟩ := sampled_steps v c ch
  rw [applied, stepped_rest]

theorem sampled_read (v : State) (c : Fin 4) (ch : Channel) :
    (ch.sampled v c).chain.read = channelRead v (ch.sampled v c) ∧ (ch.sampled v c).chain.gain = (ch.sampled v c).factor := by
  obtain ⟨-, -, -, -, -, -, factor, -⟩ := sampled_steps v c ch
  obtain ⟨read, gain⟩ := equalise_chain v c (channelRead v (ch.stepped v.slewStep)) (ch.stepped v.slewStep)
  rw [sampled_chain, factor, channelRead_congr (sampled_applied v c ch)]
  refine ⟨read, gain.trans ?_⟩
  rw [stepped_rest]

/-! ### The chain and its crossfade (R87, R96, R98) -/

theorem equalise_of_idle (idle : ch.crossfade = .idle) (v : State) (c : Fin 4) (x : Int) :
    equalise v c x ch =
      { ch with
        chain := ⟨x, 2400 * copyOutput (settingFilter v c ch.active) ch.stages x, ch.factor⟩
        stages := copyMemories (settingFilter v c ch.active) ch.stages x } := by
  unfold equalise
  split
  · rfl
  · next runs => exact Crossfade.noConfusion (idle.symm.trans runs)

theorem equalise_of_running {a b : Setting} {k : Nat} (runs : ch.crossfade = .running a b k) (v : State) (c : Fin 4) (x : Int) :
    equalise v c x ch =
      { ch with
        chain := ⟨x, blend (copyOutput (settingFilter v c a) ch.stages x)
          (copyOutput (settingFilter v c b) ch.nextStages x) k, ch.factor⟩
        stages := copyMemories (settingFilter v c a) ch.stages x
        nextStages := copyMemories (settingFilter v c b) ch.nextStages x } := by
  unfold equalise
  split
  · next idle => exact Crossfade.noConfusion (idle.symm.trans runs)
  · next still =>
    obtain ⟨rfl, rfl, rfl⟩ := Crossfade.running.inj (still.symm.trans runs)
    rfl

theorem formed_idle (v : State) (c : Fin 4) (idle : ch.crossfade = .idle) :
    let x := channelRead v (ch.stepped v.slewStep)
    ch.formed v c =
      { ch.stepped v.slewStep with
        chain := ⟨x, 2400 * copyOutput (settingFilter v c ch.active) ch.stages x, ch.stepRamp.factor⟩
        stages := copyMemories (settingFilter v c ch.active) ch.stages x } := by
  intro x
  have crossfade : (ch.stepped v.slewStep).crossfade = .idle := by rw [stepped_rest, ← idle]
  refine (equalise_of_idle crossfade v c x).trans ?_
  rw [stepped_rest]

theorem formed_running (v : State) (c : Fin 4) {a b : Setting} {k : Nat} (runs : ch.crossfade = .running a b k) :
    let x := channelRead v (ch.stepped v.slewStep)
    ch.formed v c =
      { ch.stepped v.slewStep with
        chain := ⟨x, blend (copyOutput (settingFilter v c a) ch.stages x)
          (copyOutput (settingFilter v c b) ch.nextStages x) k, ch.stepRamp.factor⟩
        stages := copyMemories (settingFilter v c a) ch.stages x
        nextStages := copyMemories (settingFilter v c b) ch.nextStages x } := by
  intro x
  have crossfade : (ch.stepped v.slewStep).crossfade = .running a b k := by rw [stepped_rest, ← runs]
  refine (equalise_of_running crossfade v c x).trans ?_
  rw [stepped_rest]

/-- The copies of the chain after a sample (R87, R96, R98). -/
def Equalised (v : State) (c : Fin 4) (ch n : Channel) : Prop :=
  let x := n.chain.read
  (ch.crossfade = .idle →
    n.chain.eq = 2400 * copyOutput (settingFilter v c ch.active) ch.stages x ∧
    n.stages = copyMemories (settingFilter v c ch.active) ch.stages x ∧ n.active = ch.active ∧ n.crossfade = .idle) ∧
  ∀ a b k, ch.crossfade = .running a b k →
    n.chain.eq = (2400 - k) * copyOutput (settingFilter v c a) ch.stages x +
      k * copyOutput (settingFilter v c b) ch.nextStages x ∧
    (k < 2399 → n.crossfade = .running a b (k + 1) ∧ n.active = ch.active ∧ n.waiting = ch.waiting ∧
      n.stages = copyMemories (settingFilter v c a) ch.stages x ∧
      n.nextStages = copyMemories (settingFilter v c b) ch.nextStages x) ∧
    (k = 2399 → n.active = b ∧ n.waiting = none ∧ n.stages = copyMemories (settingFilter v c b) ch.nextStages x ∧
      n.nextStages = StageMemories.silent ∧ (ch.waiting = none ∨ ch.waiting = some b → n.crossfade = .idle) ∧
      ∀ w, ch.waiting = some w → w ≠ b → n.crossfade = .running b w 0)

theorem sampled_idle (v : State) (c : Fin 4) (idle : ch.crossfade = .idle) :
    let n := ch.sampled v c
    n.chain.eq = 2400 * copyOutput (settingFilter v c ch.active) ch.stages n.chain.read ∧
    n.stages = copyMemories (settingFilter v c ch.active) ch.stages n.chain.read ∧ n.active = ch.active ∧
    n.crossfade = .idle := by
  obtain ⟨active, crossfade, -, stages, -⟩ := sampled_crossfade v c ch
  have rests : (ch.formed v c).crossfade = .idle := by rw [formed_idle v c idle, stepped_rest, ← idle]
  rw [stepCrossfade_idle rests] at active crossfade stages
  dsimp only
  rw [sampled_chain, active, crossfade, stages, formed_idle v c idle, stepped_rest]
  exact ⟨rfl, rfl, rfl, idle⟩

theorem sampled_running (v : State) (c : Fin 4) {a b : Setting} {k : Nat} (runs : ch.crossfade = .running a b k)
    (goes : k < 2399) :
    let n := ch.sampled v c
    n.crossfade = .running a b (k + 1) ∧ n.active = ch.active ∧ n.waiting = ch.waiting ∧
    n.stages = copyMemories (settingFilter v c a) ch.stages n.chain.read ∧
    n.nextStages = copyMemories (settingFilter v c b) ch.nextStages n.chain.read := by
  obtain ⟨active, crossfade, waiting, stages, nextStages⟩ := sampled_crossfade v c ch
  have still : (ch.formed v c).crossfade = .running a b k := by rw [formed_running v c runs, stepped_rest, ← runs]
  rw [stepCrossfade_runs still goes] at active crossfade waiting stages nextStages
  dsimp only
  rw [sampled_chain, active, crossfade, waiting, stages, nextStages, formed_running v c runs, stepped_rest]
  exact ⟨rfl, rfl, rfl, rfl, rfl⟩

theorem request_sounding {w : Setting} (idle : ch.crossfade = .idle) (new : w ≠ ch.active) (sounds : ch.power.sounding = true) :
    ch.request w = { ch with crossfade := .running ch.active w 0, nextStages := StageMemories.silent } := by
  rw [request_idle idle new, if_pos sounds]

theorem sampled_end (v : State) (c : Fin 4) {a b : Setting} (runs : ch.crossfade = .running a b 2399)
    (sounds : ch.power.sounding = true) :
    let n := ch.sampled v c
    n.active = b ∧ n.waiting = none ∧ n.stages = copyMemories (settingFilter v c b) ch.nextStages n.chain.read ∧
    n.nextStages = StageMemories.silent ∧ (ch.waiting = none ∨ ch.waiting = some b → n.crossfade = .idle) ∧
    ∀ w, ch.waiting = some w → w ≠ b → n.crossfade = .running b w 0 := by
  obtain ⟨active, crossfade, waiting, stages, nextStages⟩ := sampled_crossfade v c ch
  have still : (ch.formed v c).crossfade = .running a b 2399 := by rw [formed_running v c runs, stepped_rest, ← runs]
  have wait : (ch.formed v c).waiting = ch.waiting := by rw [formed_running v c runs, stepped_rest]
  have power : (ch.formed v c).power = ch.power := by rw [formed_running v c runs, stepped_rest]
  have next : (ch.formed v c).nextStages = copyMemories (settingFilter v c b) ch.nextStages (ch.sampled v c).chain.read := by
    rw [sampled_chain, formed_running v c runs]
  rw [stepCrossfade_ends still rfl, endCrossfade_running still, wait] at active crossfade waiting stages nextStages
  dsimp only
  rw [active, crossfade, waiting, stages, nextStages, ← next]
  generalize ch.formed v c = f at *
  cases pending : ch.waiting with
  | none => exact ⟨rfl, rfl, rfl, rfl, fun _ => rfl, fun w some => absurd some.symm (Option.some_ne_none _)⟩
  | some w =>
    have sounds : (f.crossfaded b).power.sounding = true := by rwa [← power] at sounds
    by_cases same : w = b
    · have request : (f.crossfaded b).request w = f.crossfaded b := by
        rw [same]
        exact request_active rfl rfl
      rw [Option.elim_some, request]
      exact ⟨rfl, rfl, rfl, rfl, fun _ => rfl, fun w' other differ => absurd (Option.some.inj other ▸ same) differ⟩
    · rw [Option.elim_some, request_sounding rfl same sounds]
      refine ⟨rfl, rfl, rfl, rfl, fun none => ?_, fun w' other _ => by rw [← Option.some.inj other]; rfl⟩
      rcases none with none | self
      · exact absurd none (Option.some_ne_none _)
      · exact absurd (Option.some.inj self) same

theorem sampled_equalised (v : State) (c : Fin 4) (sounds : ch.crossfade ≠ .idle → ch.power.sounding = true) :
    Equalised v c ch (ch.sampled v c) := by
  refine ⟨sampled_idle v c, fun a b k runs => ⟨?_, sampled_running v c runs, fun ends => ?_⟩⟩
  · rw [sampled_chain, formed_running v c runs]
    show blend _ _ _ = _
    rw [blend, Int.mul_comm, Int.mul_comm (copyOutput _ ch.nextStages _)]
  · subst ends
    exact sampled_end v c runs (sounds (by rw [runs]; exact Crossfade.noConfusion))

/-! ### The gate (R121, R122) -/

theorem sampled_output (v : State) (c : Fin 4) (ch : Channel) :
    (ch.sampled v c).output =
      ⟨if ch.power.gateOpen then some ⟨(ch.sampled v c).chain, ch.fade.elim 48 (· + 1)⟩ else none, probeOut v c⟩ := by
  have gate : (ch.formed v c).gateOut =
      if ch.power.gateOpen then some ⟨(ch.formed v c).chain, ch.fade.elim 48 (· + 1)⟩ else none := by
    unfold Channel.gateOut Channel.fadeWeight
    rw [formed_rest, stepped_rest]
  rw [sampled_chain, ← gate]
  rfl

theorem sampled_fade (v : State) (c : Fin 4) (ch : Channel) :
    (ch.sampled v c).fade = ch.fade.bind fun k => if 47 ≤ k then none else some (k + 1) := by
  unfold Channel.sampled Channel.stepFade
  rw [stepCrossfade_rest, formed_rest, stepped_rest]

theorem sampled_wakeLoss (v : State) (c : Fin 4) (waking : ch.power = .waking)
    (mark : presenceMark v (readPosition v (ch.sampled v c)) = true) (heard : ch.gainTarget ≠ .silence) :
    (ch.sampled v c).wakeLoss = true := by
  have power : (ch.stepped v.slewStep).power = .waking := by rw [stepped_rest, ← waking]
  have muted : (ch.stepped v.slewStep).muted = false := by
    rw [stepped_rest]
    exact beq_eq_false_iff_ne.mpr heard
  rw [readPosition_congr (sampled_applied v c ch)] at mark
  have loses : losesSample v (ch.stepped v.slewStep) = true := by
    unfold losesSample
    rw [power, mark, muted]
    rfl
  show (_ || losesSample v (ch.stepped v.slewStep)) = true
  rw [loses, Bool.or_true]

end Sys2Proof.Machine
end

section
/-! PROOFS. The parts of a programme sample beside the channels: what is written (R73, R109), what the microphone brings (R37), and
the emission (R28). -/

namespace Sys2Proof.Machine

variable {s : State}

/-! ### The stages of the chain (R87, R88) -/

theorem copyOutput_stages (f : Nat → Filter) (m : StageMemories) (x : Int) :
    copyOutput f m x =
      filterOutput (f 5) (m.stage 5) (filterOutput (f 4) (m.stage 4) (filterOutput (f 3) (m.stage 3)
        (filterOutput (f 2) (m.stage 2) (filterOutput (f 1) (m.stage 1) (filterOutput (f 0) (m.stage 0) x))))) ∧
    ∀ k, f k = .pass → filterOutput (f k) (m.stage k) x = x :=
  ⟨rfl, fun k pass => by rw [pass]; rfl⟩

theorem stageFilter_eq (stage : Stage) : stageFilter stage = if stage = .bypass then .pass else .static stage := by
  cases stage <;> rfl

theorem settingFilter_stages {img : Image} (image : s.image = some img) (c : Fin 4) (preset k : Nat) (shelf : Option Shelf) :
    settingFilter s c .flat k = .pass ∧
    (∀ stage, k < 5 → (img.channels[c].presets.getD preset [])[k]? = some stage →
      settingFilter s c (.eq preset shelf) k = if stage = .bypass then .pass else .static stage) ∧
    settingFilter s c (.eq preset shelf) 5 = (match shelf with
      | some sh => .shelf sh
      | none => .pass) := by
  refine ⟨rfl, fun stage static there => ?_, by cases shelf <;> rfl⟩
  unfold settingFilter presetStages
  rw [image]
  dsimp only [Option.elim_some]
  rw [if_neg (by omega), List.getD_eq_getElem?_getD, there]
  exact stageFilter_eq stage

theorem settingFilter_congr {v : State} (image : v.image = s.image) (c : Fin 4) : settingFilter v c = settingFilter s c := by
  funext w k
  unfold settingFilter presetStages
  rw [image]

/-! ### The judgement and the writing (R73, R109) -/

theorem setJudgement_level (present : Bool) (s : State) :
    (setJudgement present s).level = { s.level with present := present } := by
  unfold setJudgement
  split
  · next same => rw [← same]
  · obtain ⟨-, -, -, -, -, -, -, -, -, -, level⟩ := heedAll_frame (s.modLevel fun l => { l with present := present })
    exact level

theorem judgeSample_eq (s : State) (x : Int) :
    judgeSample s x = decide (Config.fullScale ^ 20 ≤
      (s.level.history.foldl (fun m y => max m y.natAbs) x.natAbs) ^ 20 * 10 ^ s.image.elim 60 (·.silenceLevel)) := by
  have largest : largest (x :: s.level.history) = s.level.history.foldl (fun m y => max m y.natAbs) x.natAbs := by
    unfold largest
    rw [List.foldl_cons, Nat.zero_max]
  rw [judgeSample, levelPresent, largest]
  rfl

/-- The judgement is taken and the sample is written. -/
def written (x : Int) (s : State) : State := writeSample x (judgeSample s x) (setJudgement (judgeSample s x) s)

theorem written_reads (memory : MemoryLaw s) (x : Int) :
    (written x s).delay.writePos = s.delay.writePos ∧ delaySample (written x s) s.delay.writePos = x ∧
    presenceMark (written x s) s.delay.writePos = judgeSample s x ∧
    (∀ a, a ≠ s.delay.writePos →
      delaySample (written x s) a = delaySample s a ∧ presenceMark (written x s) a = presenceMark s a) ∧
    (written x s).level.history = x :: s.level.history.take 478 ∧ (written x s).level.present = judgeSample s x := by
  obtain ⟨canonical, -, -⟩ := memory
  obtain ⟨samples, marks, -⟩ := (memory_wf_iff s).mp canonical
  have delay : (setJudgement (judgeSample s x) s).delay = s.delay := by simp
  have level := setJudgement_level (judgeSample s x) s
  unfold written writeSample delaySample presenceMark
  dsimp only [State.modDelay, State.modLevel]
  rw [delay, level]
  exact ⟨rfl, Cells.read_write_same samples, Cells.read_write_same marks,
    fun a other => ⟨Cells.read_write_other other, Cells.read_write_other other⟩, rfl, rfl⟩

/-! ### The microphone (R37) -/

/-- An open window after a microphone sample. -/
theorem hear_eq (now : Instant) (x : Int) (w : Window) :
    w.hear now x =
      if (now - w.opens).toNat < 2 ^ 31 ∧ 2 ^ 31 ≤ (now - w.closes).toNat ∧ w.heard.length < 73920 then
        { w with heard := x :: w.heard, lead := if w.heard = [] then (now - w.opens).toNat else w.lead }
      else w := by
  unfold Window.hear reached
  simp only [decide_eq_true_eq, decide_eq_false_iff_not, not_lt]
  rfl

/-! ### The emission (R28) -/

/-- How far after its place in the sequence the emission of a programme sample lies (R28). -/
def emissionLag (s : State) : Nat :=
  if s.probe.position = 0 then
    s.probe.startsAt.elim 0 fun due => if (s.timeBase - due).toNat < 2 ^ 31 then (s.timeBase - due).toNat else 0
  else s.probe.lag

theorem placeEmission_only (s : State) :
    placeEmission s = { s with probe := { s.probe with lag := (placeEmission s).probe.lag } } := by
  unfold placeEmission
  split
  · split <;> rfl
  · rfl

theorem placeEmission_lag (emits : s.probe.started = true) (due : s.probe.startsAt.isSome = true) :
    (placeEmission s).probe.lag = emissionLag s := by
  obtain ⟨starts, at'⟩ := Option.isSome_iff_exists.mp due
  unfold placeEmission emissionLag
  rw [at']
  by_cases first : s.probe.position = 0
  · rw [if_pos first]
    dsimp only
    rw [if_pos ⟨emits, first⟩]
    simp [State.modProbe, reached]
  · rw [if_neg first]
    dsimp only
    rw [if_neg (fun both => first both.2)]

theorem advanceEmission_rests (rests : ¬(s.probe.round = .emitting ∧ s.probe.started = true)) : advanceEmission s = s :=
  if_neg rests

theorem advanceEmission_goes (emits : s.probe.round = .emitting ∧ s.probe.started = true) (goes : s.probe.position < 8191) :
    advanceEmission s = s.modProbe fun u => { u with position := u.position + 1 } := by
  unfold advanceEmission
  rw [if_pos emits, if_neg (by omega)]

theorem advanceEmission_ends (emits : s.probe.round = .emitting ∧ s.probe.started = true) (ends : s.probe.position = 8191) :
    advanceEmission s = endEmission s := by
  unfold advanceEmission
  rw [if_pos emits, if_pos (by omega)]

theorem advanceEmission_slots (s : State) : (advanceEmission s).probe.slots = s.probe.slots := by
  unfold advanceEmission
  split
  · split <;> rfl
  · rfl

end Sys2Proof.Machine
end

section
/-! PROOFS. One programme sample (R28, R37, R73, R74, R80, R87, R96, R98, R101, R102, R109, R121, R122), put together from its
parts. -/

namespace Sys2Proof.Machine

variable {s v t : State} {x microphone : Int} {c : Fin 4}

/-! ### What the channels find -/

/-- The state that the channels find: judged, written, heard, with the emission placed. -/
def offered (x microphone : Int) (s : State) : State := placeEmission (hearSample microphone (written x s))

theorem takeSample_eq (x microphone : Int) (s : State) :
    takeSample x microphone s = advanceEmission (advanceWrite (forChannels sampleChannel (offered x microphone s))) := rfl

theorem offered_frame (x microphone : Int) (s : State) :
    (offered x microphone s).stc = s.stc ∧ (offered x microphone s).image = s.image ∧
    (offered x microphone s).delay = (written x s).delay ∧ (offered x microphone s).level = (written x s).level ∧
    (offered x microphone s).channels = (setJudgement (judgeSample s x) s).channels ∧
    (offered x microphone s).timeBase = s.timeBase := by
  simp [offered, written]

theorem written_goes_on (x : Int) (gate : ProbeGate s) : ProbeGoesOn s (written x s) :=
  (setJudgement_goes_on (judgeSample s x) gate).keep rfl rfl fun _ => rfl

theorem offered_slot (x microphone : Int) (gate : ProbeGate s) (i : Fin 2) :
    (offered x microphone s).probe.slots[i] = Slot.hear s.timeBase microphone s.probe.slots[i] := by
  have slots : (offered x microphone s).probe.slots = (hearSample microphone (written x s)).probe.slots := by
    rw [offered, placeEmission_only]
  have time : (written x s).timeBase = s.timeBase := by simp [written]
  rw [slots, hearSample_slot, time, (written_goes_on x gate).slots]

/-- The emission as the channels find it: nothing else of the Probe Unit than its lag and its slots has changed (R28, R31). -/
theorem offered_emits (x microphone : Int) (h : RoundLaw s) (emits : s.probe.round = .emitting ∧ s.probe.started = true) :
    (offered x microphone s).probe =
      { s.probe with lag := emissionLag s, slots := (offered x microphone s).probe.slots } := by
  have due : s.probe.startsAt.isSome = true := by
    obtain ⟨-, -, -, -, due, -⟩ := h
    exact due emits.1
  have same : (written x s).probe = s.probe :=
    (written_goes_on x h.probeGate).same (by rw [emits.1]; exact Round.noConfusion)
  have heard : (hearSample microphone (written x s)).probe =
      { s.probe with slots := (hearSample microphone (written x s)).probe.slots } := by
    conv_lhs => rw [hearSample]
    rw [hearSample, ← same]
    rfl
  have time : (hearSample microphone (written x s)).timeBase = s.timeBase := by simp [written]
  unfold offered
  generalize hearSample microphone (written x s) = u at *
  have lag : (placeEmission u).probe.lag = emissionLag s := by
    rw [placeEmission_lag (by rw [heard]; exact emits.2) (by rw [heard]; exact due), emissionLag, heard, time]
    rfl
  conv_lhs => rw [placeEmission_only, heard, lag]
  rw [placeEmission_only]

theorem offered_rests (x microphone : Int) (gate : ProbeGate s) (rests : ¬(s.probe.round = .emitting ∧ s.probe.started = true)) :
    ¬((offered x microphone s).probe.round = .emitting ∧ (offered x microphone s).probe.started = true) := by
  have h := written_goes_on x gate
  have round : (offered x microphone s).probe.round = (written x s).probe.round := by
    rw [offered, placeEmission_only]
    rfl
  have started : (offered x microphone s).probe.started = (written x s).probe.started := by
    rw [offered, placeEmission_only]
    rfl
  rw [round, started]
  by_cases waking : s.probe.round = .waking
  · rintro ⟨emitting, -⟩
    rcases h.waits waking with still | marking
    · exact Round.noConfusion (still.symm.trans emitting)
    · exact Round.noConfusion (marking.symm.trans emitting)
  · rwa [h.same waking]

/-! ### One channel -/

/-- A state in which a channel takes its sample: it shows the channel what the sample has been offered to. -/
structure Offers (x microphone : Int) (s v : State) : Prop where
  stc : v.stc = s.stc
  image : v.image = s.image
  delay : v.delay = (written x s).delay
  level : v.level = (written x s).level
  probe : v.probe = (offered x microphone s).probe

/-- What a change of power state leaves alone. -/
theorem Channel.Repowered.same {a b : Channel} (h : a.Repowered b) :
    b.target = a.target ∧ b.gainTarget = a.gainTarget ∧ b.jumps = a.jumps ∧ b.applied = a.applied ∧ b.slew = a.slew ∧
    b.factor = a.factor ∧ b.ramp = a.ramp ∧ b.active = a.active ∧ b.crossfade = a.crossfade ∧ b.waiting = a.waiting ∧
    b.stages = a.stages ∧ b.nextStages = a.nextStages := by
  unfold Channel.Repowered at h
  rw [h]
  exact ⟨rfl, rfl, rfl, rfl, rfl, rfl, rfl, rfl, rfl, rfl, rfl, rfl⟩

/-- What the laws say of a channel that takes a sample. -/
structure Channel.Fits (ch : Channel) : Prop where
  delay : ChannelDelayLaw ch
  sounds : ch.crossfade ≠ .idle → ch.power.sounding = true

/-- Each channel takes its sample in a state that offers it, out of what the judgement has made of it. -/
theorem takeSample_channel (x microphone : Int) (lawful : Lawful s) (c : Fin 4) :
    ∃ v h, Offers x microphone s v ∧ s.channels[c].Readied h ∧ h.Fits ∧
      (takeSample x microphone s).channels[c] = h.sampled v c := by
  obtain ⟨stc, image, delay, level, channels, -⟩ := offered_frame x microphone s
  have readied := setJudgement_channel (judgeSample s x) s c
  have law := setJudgement_delayLaw (judgeSample s x) lawful.delay lawful.eqs lawful.power c
  obtain ⟨v, offers, before, after⟩ := pass_one (P := Offers x microphone s) (f := sampleChannel) sampleChannel_other
    (fun d u hu => ⟨hu.stc, hu.image, hu.delay, hu.level, hu.probe⟩) (s := offered x microphone s)
    ⟨stc, image, delay, level, rfl⟩ c
  rw [sampleChannel_get, before, channels] at after
  refine ⟨v, _, offers, readied, ⟨law, fun runs => ?_⟩, ?_⟩
  · have crossfade : (setJudgement (judgeSample s x) s).channels[c].crossfade = s.channels[c].crossfade := by
      obtain ⟨-, -, -, -, -, -, -, -, crossfade, -⟩ := readied.repowered.same
      exact crossfade
    obtain ⟨-, -, -, -, silent, -⟩ := lawful.eqs c
    refine readied.sounds (Bool.of_not_eq_false fun silence => runs ?_)
    rw [crossfade]
    exact (silent silence).1
  · rw [← after, takeSample_eq]
    simp

end Sys2Proof.Machine
end

section
/-! PROOFS. The obligation about a programme sample (R28, R31, R37, R73, R74, R80, R87, R96, R98, R101, R102, R109, R121, R122). -/

namespace Sys2Proof.Machine

variable {s v t : State} {x microphone : Int} {c : Fin 4} {old h : Channel}

/-! ### One channel, out of what the judgement has made of it -/

/-- The slew and the ramp of a channel (R80, R102). -/
theorem sampled_moves (offers : Offers x microphone s v) (readied : old.Readied h) (fits : h.Fits) (c : Fin 4) :
    let n := h.sampled v c
    let step := 16 / 2 ^ s.image.elim 2 (·.slewCode)
    n.target = old.target ∧ n.gainTarget = old.gainTarget ∧ n.jumps = old.jumps ∧
    (old.slew = .settled → n.applied = old.applied ∧ n.slew = .settled) ∧
    (old.slew = .up → n.applied = min (old.applied + step) (old.target * 4096)) ∧
    (old.slew = .down → n.applied = max (old.applied - step) (old.target * 4096)) ∧
    (n.slew = .settled ↔ n.applied = n.target * 4096) ∧
    (old.ramp = .idle → n.ramp = .idle ∧ n.factor = old.factor) ∧
    (∀ start k, old.ramp = .running start k → k < 959 →
      n.ramp = .running start (k + 1) ∧ n.factor = .ramp start old.gainTarget (k + 1)) ∧
    (∀ start, old.ramp = .running start 959 → n.ramp = .idle ∧ n.factor = .of old.gainTarget) := by
  obtain ⟨target, gainTarget, jumps, -⟩ := sampled_steps v c h
  obtain ⟨settled, up, down, lands, -⟩ := sampled_slew v c fits.delay
  obtain ⟨idle, running, ends⟩ := sampled_ramp v c h
  obtain ⟨target', gainTarget', jumps', applied', slew', factor', ramp', -⟩ := readied.repowered.same
  have step : v.slewStep = 16 / 2 ^ s.image.elim 2 (·.slewCode) := by rw [State.slewStep, State.slewCode, offers.image]
  rw [step, applied', target', slew'] at up down
  rw [slew', applied'] at settled
  rw [ramp', factor'] at idle
  rw [ramp', gainTarget'] at running ends
  exact ⟨target.trans target', gainTarget.trans gainTarget', jumps.trans jumps', settled, up, down, lands, idle, running, ends⟩

/-- What a channel reads (R74), in the state after the sample. -/
theorem sampled_reads (offers : Offers x microphone s v) (fits : h.Fits) (c : Fin 4)
    (wrote : (written x s).delay.writePos = s.delay.writePos) (same : t.delay.memory = (written x s).delay.memory) :
    let n := h.sampled v c
    let pos := (s.delay.writePos + 65536 - n.applied / 4096) % 65536
    let stored := fun a : Nat => delaySample t (a % 65536)
    readPosition v n = pos ∧ (n.applied % 4096 = 0 → n.chain.read = stored pos) ∧
    (n.applied % 4096 ≠ 0 → n.chain.read = Config.interpolated
      ((List.range (min 128 (n.applied / 4096 + 1))).map fun k => stored (pos + k))
      ((List.range 128).map fun k => stored (pos + 65535 - k)) (n.applied % 4096)) ∧
    n.chain.gain = n.factor := by
  obtain ⟨-, -, -, -, range⟩ := sampled_slew v c fits.delay
  obtain ⟨read, gain⟩ := sampled_read v c h
  have memory : ∀ a, delaySample v a = delaySample t a := fun a => by rw [delaySample, delaySample, offers.delay, same]
  dsimp only at range ⊢
  generalize h.sampled v c = n at *
  have place : readPosition v n = (s.delay.writePos + 65536 - n.applied / 4096) % 65536 := by
    rw [readPosition, offers.delay, wrote, Nat.mod_eq_of_lt (by omega : n.applied / 4096 < 65536)]
  refine ⟨place, fun whole => ?_, fun part => ?_, gain⟩
  · rw [read, channelRead, if_pos whole, memory, place, Nat.mod_mod]
  · rw [read, channelRead, if_neg part, newerSide, olderSide, place]
    simp only [memory]

/-- The copies of a channel's chain (R87, R96, R98). -/
theorem sampled_copies (offers : Offers x microphone s v) (readied : old.Readied h) (fits : h.Fits) (c : Fin 4) :
    Equalised s c old (h.sampled v c) := by
  have equalised := sampled_equalised v c fits.sounds
  obtain ⟨-, -, -, -, -, -, -, active, crossfade, waiting, stages, nextStages⟩ := readied.repowered.same
  unfold Equalised at equalised ⊢
  rwa [settingFilter_congr offers.image c, active, crossfade, waiting, stages, nextStages] at equalised

/-- What leaves a channel at its gate (R121). -/
theorem sampled_gate (v : State) (readied : old.Readied h) (c : Fin 4) :
    let n := h.sampled v c
    (n.power ≠ .active → n.power ≠ .watch → n.output.programme = none) ∧
    (old.power = .active ∨ old.power = .watch → (n.power = .active ∨ n.power = .watch) ∧
      (old.fade = none → n.output.programme = some ⟨n.chain, 48⟩ ∧ n.fade = none) ∧
      (∀ k, old.fade = some k → n.output.programme = some ⟨n.chain, k + 1⟩ ∧
        n.fade = if k < 47 then some (k + 1) else none)) ∧
    (old.power ≠ .active → old.power ≠ .watch → n.power = .active ∨ n.power = .watch →
      n.output.programme = some ⟨n.chain, 1⟩ ∧ n.fade = some 1) := by
  obtain ⟨-, -, -, power, -⟩ := sampled_steps v c h
  have output := congrArg Output.programme (sampled_output v c h)
  have fade := sampled_fade v c h
  dsimp only at output ⊢
  rw [power, output, fade]
  simp only [← gateOpen_iff]
  refine ⟨fun active watch => if_neg fun gate => ?_, fun gate => ?_, fun active watch gate => ?_⟩
  · rcases (gateOpen_iff _).mp gate with h | h
    · exact active h
    · exact watch h
  · obtain ⟨still, same⟩ := readied.gate.stays gate
    rw [if_pos still, same]
    refine ⟨still, fun none => ?_, fun k some => ?_⟩
    · rw [none]
      exact ⟨rfl, rfl⟩
    · rw [some]
      refine ⟨rfl, ?_⟩
      show (if 47 ≤ k then Option.none else Option.some (k + 1)) = _
      by_cases last : 47 ≤ k
      · rw [if_pos last, if_neg (by omega)]
      · rw [if_neg last, if_pos (by omega)]
  · have shut : old.power.gateOpen = false := Bool.eq_false_iff.mpr fun gate => by
      rcases (gateOpen_iff _).mp gate with h | h
      · exact active h
      · exact watch h
    rw [if_pos gate, readied.gate.opens shut gate]
    exact ⟨rfl, rfl⟩

/-! ### The emission (R28) -/

theorem offered_probeOut (offers : Offers x microphone s v) (law : RoundLaw s) (c : Fin 4) :
    probeOut v c = if (s.probe.round = .emitting ∧ s.probe.started = true) ∧ s.probeChannel = some c then
      some ⟨s.number, s.probe.position, emissionLag s, s.image.elim 0 (·.probeLevel)⟩ else none := by
  unfold probeOut
  have channel : v.probeChannel = s.probeChannel := by rw [State.probeChannel, offers.image, State.probeChannel]
  have number : v.number = s.number := by rw [State.number, offers.stc, State.number]
  rw [offers.probe, channel, number, offers.image]
  by_cases emits : s.probe.round = .emitting ∧ s.probe.started = true
  · rw [offered_emits x microphone law emits]
    simp only [and_assoc]
  · have rests := offered_rests x microphone law.probeGate emits
    rw [if_neg fun both => rests ⟨both.1, both.2.1⟩, if_neg fun both => emits both.1]

theorem takeSample_probe (x microphone : Int) (law : RoundLaw s) :
    let t := takeSample x microphone s
    (s.probe.round = .emitting ∧ s.probe.started = true → s.probe.position < 8191 →
      t.probe = { s.probe with position := s.probe.position + 1, lag := emissionLag s, slots := t.probe.slots }) ∧
    (s.probe.round = .emitting ∧ s.probe.started = true → s.probe.position = 8191 →
      t.probe.round = .idle ∧ t.probe.position = 0 ∧ t.probe.startsAt = none ∧ t.probe.started = false ∧
      t.probe.timer = some (s.image.elim 0 (·.probeInterval) * 1000000 + s.stc.unit.toNat % 32 * 1000000)) ∧
    ∀ i : Fin 2, t.probe.slots[i] = Slot.hear s.timeBase microphone s.probe.slots[i] := by
  obtain ⟨stc, image, -⟩ := offered_frame x microphone s
  have probe : (advanceWrite (forChannels sampleChannel (offered x microphone s))).probe = (offered x microphone s).probe := by
    simp [forChannels]
  have image' : (advanceWrite (forChannels sampleChannel (offered x microphone s))).image = s.image := by
    simp [forChannels, image]
  have stc' : (advanceWrite (forChannels sampleChannel (offered x microphone s))).stc = s.stc := by
    simp [forChannels, stc]
  have slots := offered_slot x microphone law.probeGate
  have emits := offered_emits x microphone law
  rw [takeSample_eq]
  generalize advanceWrite (forChannels sampleChannel (offered x microphone s)) = u at *
  refine ⟨fun emitting goes => ?_, fun emitting ends => ?_, fun i => ?_⟩
  · have emits := probe.trans (emits emitting)
    rw [advanceEmission_goes (by rw [emits]; exact emitting) (by rw [emits]; exact goes)]
    show { u.probe with position := u.probe.position + 1 } = { s.probe with
      position := s.probe.position + 1, lag := emissionLag s, slots := u.probe.slots }
    rw [emits]
  · have emits := probe.trans (emits emitting)
    rw [advanceEmission_ends (by rw [emits]; exact emitting) (by rw [emits]; exact ends)]
    refine ⟨rfl, rfl, rfl, rfl, ?_⟩
    show some (u.image.elim 0 (·.probeInterval) * 1000000 + u.stc.unit.toNat % 32 * 1000000) = _
    rw [image', stc']
  · rw [advanceEmission_slots, probe]
    exact slots i

end Sys2Proof.Machine
end

section
/-! PROOFS. The programme sample, settled. -/

namespace Sys2Proof.Machine

variable {s : State}

theorem factor_amplitudes (start : Factor) (target : GainTarget) (code num : Nat) :
    (Factor.of .silence).amplitude = 0 ∧ (Factor.of (.gain 0)).amplitude = 0.0001 ∧ (Factor.of (.gain 160)).amplitude = 1 ∧
    (Factor.of (.gain code)).amplitude = (10 : ℝ) ^ (((code : ℝ) / 2 - 80) / 20) ∧
    (Factor.ramp start target num).amplitude =
      start.amplitude + ((Factor.of target).amplitude - start.amplitude) * ((num : ℝ) / 960) := by
  refine ⟨rfl, amplitude_lowest.trans (by norm_num), amplitude_unity, rfl, rfl⟩

/-- What a programme sample leaves of the delay memory and the level detector (R73, R109). -/
theorem takeSample_writes (x microphone : Int) (memory : MemoryLaw s) :
    let t := takeSample x microphone s
    t.delay.writePos = (s.delay.writePos + 1) % 65536 ∧
    delaySample t s.delay.writePos = x ∧ presenceMark t s.delay.writePos = t.level.present ∧
    (∀ a, a ≠ s.delay.writePos →
      delaySample t a = delaySample s a ∧ presenceMark t a = presenceMark s a) ∧
    t.level.history = x :: s.level.history.take 478 ∧
    t.level.present = decide (Config.fullScale ^ 20 ≤
      (s.level.history.foldl (fun m y => max m y.natAbs) x.natAbs) ^ 20 * 10 ^ s.image.elim 60 (·.silenceLevel)) ∧
    t.delay.memory = (written x s).delay.memory ∧ t.level = (written x s).level := by
  obtain ⟨-, -, delay, level, -⟩ := offered_frame x microphone s
  obtain ⟨position, own, mark, others, history, present⟩ := written_reads memory x
  have delay' : (takeSample x microphone s).delay =
      { (written x s).delay with writePos := ((written x s).delay.writePos + 1) % 65536 } := by
    rw [← delay, takeSample_eq]
    simp [forChannels, advanceWrite, State.modDelay]
  have level' : (takeSample x microphone s).level = (written x s).level := by
    rw [← level, takeSample_eq]
    simp [forChannels]
  dsimp only
  unfold delaySample presenceMark at *
  rw [delay', level', ← judgeSample_eq, present]
  exact ⟨by rw [position], own, mark, others, history, rfl, rfl, rfl⟩

/-- Settles O46: the sample is offered to the channels after the judgement has been taken, and each channel is read off by what
its own step writes. -/
theorem programmeSampleTaken : Obligations.ProgrammeSampleTaken := by
  refine ⟨copyOutput_stages, fun s img c preset k shelf image => settingFilter_stages image c preset k shelf, factor_amplitudes,
    fun out => rfl, fun x microphone s lawful => ?_⟩
  obtain ⟨position, own, mark, others, history, present, memory, level⟩ := takeSample_writes x microphone lawful.memory
  obtain ⟨goes, ends, slots⟩ := takeSample_probe x microphone lawful.round
  obtain ⟨stc', image', peers', selfRec', probe', air', delay', level', eq', channels', cue', emc', timeBase', freeCount', -⟩ :=
    event_frame (takeSample x microphone) s
  have solver' : (event (takeSample x microphone) s).solver.delay = s.solver.delay := by simp
  obtain ⟨stc, image, peers, selfRec, air, -, eq, cue, emc, timeBase, freeCount, -⟩ := takeSample_frame x microphone s
  have samples' : delaySample (event (takeSample x microphone) s) = delaySample (takeSample x microphone s) := by
    funext a
    rw [delaySample, delaySample, delay']
  have marks' : presenceMark (event (takeSample x microphone) s) = presenceMark (takeSample x microphone s) := by
    funext a
    rw [presenceMark, presenceMark, level']
  refine ⟨event (takeSample x microphone) s, rfl, ?_⟩
  rw [samples', marks', delay', level', channels', probe', stc', image', peers', selfRec', air', eq', cue', emc', timeBase',
    freeCount', solver']
  refine ⟨position, own, mark, others, history, present, fun c => ?_, goes, ends, fun i => ⟨fun w opened => ?_, fun other => ?_⟩,
    stc, image, peers, selfRec, air, rfl, eq, cue, emc, timeBase, freeCount⟩
  · obtain ⟨v, h, offers, readied, fits, channel⟩ := takeSample_channel x microphone lawful c
    have wrote : (written x s).delay.writePos = s.delay.writePos := by
      obtain ⟨wrote, -⟩ := written_reads lawful.memory x
      exact wrote
    obtain ⟨target, gain, jumps, settled, up, down, lands, idle, running, ended⟩ := sampled_moves offers readied fits c
    obtain ⟨place, whole, part, factor⟩ := sampled_reads offers fits c wrote memory
    obtain ⟨rests, fades⟩ := sampled_copies offers readied fits c
    obtain ⟨shut, open', opens⟩ := sampled_gate v readied c
    have probe := congrArg Output.probe (sampled_output v c h)
    rw [offered_probeOut offers lawful.round c] at probe
    rw [channel]
    refine ⟨target, gain, jumps, settled, up, down, lands, idle, running, ended, whole, part, factor, ⟨rests, fades⟩, shut, open',
      opens, probe, fun waking heard loud => ?_⟩
    obtain ⟨-, gain', -, power', -⟩ := sampled_steps v c h
    refine sampled_wakeLoss v c (power'.symm.trans waking) ?_ (gain' ▸ loud)
    rw [place, presenceMark, offers.level, ← level]
    exact heard
  · rw [slots i, opened, Slot.hear, hear_eq]
  · rw [slots i]
    cases slot : s.probe.slots[i] with
    | opened w => exact absurd slot (other w)
    | free => rfl
    | reserved owner => rfl

end Sys2Proof.Machine
end
